-- ==== Sys2Proof/Word.lean ====
section
/-! DEFINITION. The words of the AB640: bytes on its two serial ports, and the plainest arithmetic on amounts that
stop at a stated maximum (spec 00, "Counters"). Amounts of money, counts and times are plain numbers. -/

namespace Sys2Proof

/-- One byte on a serial port. -/
abbrev Byte := BitVec 8

/-- A 16-bit word: the check value and two-byte fields. -/
abbrev Word := BitVec 16

/-- A counter that has risen by `d` and stops at `most` (spec 00, "Counters"). -/
def stopAt (most n d : Nat) : Nat := min most (n + d)

/-- A value clamped to a range (spec 00, "Clamping"). -/
def clampNat (low high n : Nat) : Nat := max low (min high n)

/-- A signed value clamped to a range (spec 00, "Clamping"). -/
def clampInt (low high n : Int) : Int := max low (min high n)

end Sys2Proof
end

