-- ==== Sys2Proof/Config.lean ====
section
/-! DEFINITION. What the part fixes (the parameters spec/ states as fixed) and the free values: constants without a body
for what spec/ leaves open. Times are in milliseconds unless the name says otherwise. -/

namespace Sys2Proof.Config

/-- Gate Hold (01, section 1.4). -/
def gateHold : Nat := 300
/-- Path Timeout (01, section 1.4). -/
def pathTimeout : Nat := 600
/-- The largest amount of money (00, Conventions; R22, R23). -/
def moneyMax : Nat := 20000
/-- The most settlements outstanding (R30, R37). -/
def settlementMax : Nat := 4
/-- The step limit of one exact search (R43). -/
def searchSteps : Nat := 4096
/-- Exit Wait (03, section 3.4). -/
def exitWait : Nat := 400
/-- Vend List capacity (04). -/
def vendListMax : Nat := 4
/-- Drop Window (04). -/
def dropWindow : Nat := 1500
/-- Sold-Out Threshold (04). -/
def soldOutAt : Nat := 2
/-- Current sample interval (05). -/
def currentInterval : Nat := 10
/-- Stall level in mA (05). -/
def stallLevel : Nat := 1600
/-- Stall run in samples (05). -/
def stallRun : Nat := 20
/-- Open level in mA (05). -/
def openLevel : Nat := 60
/-- The moment of the No-Motor check after energizing (05). -/
def noMotorCheck : Nat := 300
/-- Home Leave Time (05). -/
def homeLeaveTime : Nat := 600
/-- Turn Timeout (05). -/
def turnTimeout : Nat := 4000
/-- Fault Rest (05). -/
def faultRest : Nat := 1000
/-- Drop filter (05). -/
def dropFilter : Nat := 5
/-- Spacing of the temperature samples (R96). -/
def sampleSpacing : Nat := 1000
/-- Spacing of the Exposure steps (R114). -/
def exposureSpacing : Nat := 60000
/-- Bad samples that make a sensor FAILED (R97). -/
def badRunMax : Nat := 60
/-- The run-time total's maximum in seconds (06, section 6.4). -/
def runTotalMax : Nat := 86400
/-- Base Load in LU (07, section 7.1). -/
def baseLoad : Nat := 10
/-- Bits in a second on the Peripheral Bus (R128). -/
def busBaud : Nat := 19200
/-- Bits of one byte on the Peripheral Bus: start, 8 data, stop (R128). -/
def busBits : Nat := 10
/-- Bytes of a frame beside its payload (R128; 09, section 9.1). -/
def frameOverhead : Nat := 7
/-- Turn-around guard of the Peripheral Bus (R128). -/
def guardTime : Nat := 2
/-- The unit of a poll interval (08, section 8.2). -/
def pollUnit : Nat := 50
/-- The unit of a response timeout (08, section 8.2). -/
def timeoutUnit : Nat := 5
/-- Probe interval of a PROBING channel (R130). -/
def probingInterval : Nat := 1000
/-- Probe interval of a LOST channel (R130). -/
def lostInterval : Nat := 2000
/-- Blocks of the Block Pool (R131). -/
def poolBlocks : Nat := 32
/-- The length of a break that is a stuck line (R144). -/
def stuckBreak : Nat := 20
/-- The length of the PRST pulse (R144). -/
def prstPulse : Nat := 100
/-- The longest payload of a frame (09, section 9.1). -/
def payloadMax : Nat := 60
/-- Capacity of the Notice Queue (R154). -/
def noticeMax : Nat := 24
/-- The notice time stamp counter wraps to 0 after 16777215 (R154). -/
def stampModulus : Nat := 16777216
/-- The unit of a notice time stamp (R154). -/
def stampUnit : Nat := 100
/-- Data bytes left for notices beside the two counts (R156). -/
def fetchBytes : Nat := 56
/-- Data bytes left for entries in a READ_TABLE reply (R165). -/
def readBytes : Nat := 55
/-- Payload bytes of a peripheral's reply that a deferred REPLY carries at most (R151). -/
def deferredBytes : Nat := 57

/-- DESIGN CHOICE (log 3): the most acts carried out inside one command. Far above what any command needs. -/
def actsMax : Nat := 4096

/-- FREE VALUE (log 10): how the bus sequence of the n-th draw is chosen (R135 asks only that it differ from the channel's
last sequence). -/
opaque freeSequence : Nat → Nat

/-- FREE VALUE (log 11): the byte at an index that a peripheral's reply does not carry, for the n-th draw (R140 states no
value for a field that is missing). -/
opaque missingByte : Nat → Nat → Byte

/-- FREE VALUE (log 12): the code of a staging buffer state in the STAGE_DISCARD reply; the argument numbers EMPTY 0, OPEN 1,
PENDING 2 in the order R161 lists them. Section 9.5 gives these states no code. -/
opaque bufferStateCode : Nat → Byte

end Sys2Proof.Config
end

