-- ==== Sys2Proof/Syntax.lean ====
section
/-! DEFINITION. The commands of the AB640: one constructor for each row of spec/opcode_table.json. A request to node 0
carries the sequence byte and the payload bytes of its frame (09, section 9.1); a frame that is not a request carries the
fields the rules read; an event carries what the inputs show. -/

namespace Sys2Proof

/-- A motor group (05, section 5.1). -/
inductive Group where
  | a
  | b
deriving DecidableEq, Repr

/-- A frame of either port without its start byte, length byte and check value (09, section 9.1). -/
structure Frame where
  node : Byte
  kind : Byte
  seq : Byte
  payload : List Byte
deriving DecidableEq, Repr

/-- The commands. Each docstring names the row. -/
inductive Instr where
  /-- POWER_ON_RESET (R168) -/
  | powerOnReset
  /-- RESET_PIN (R159) -/
  | resetPin
  /-- COIN_SIGNATURE (R5) with its three readings -/
  | coinSignature (size alloy thickness : Nat)
  /-- GATE_HOLD_END (R7) -/
  | gateHoldEnd
  /-- PATH_PASSAGE (R9) -/
  | pathPassage
  /-- PATH_TIMEOUT (R12) -/
  | pathTimeout
  /-- LOW_SENSOR_CHANGE (R16): the tube and its new reading -/
  | lowSensorChange (tube : Nat) (covered : Bool)
  /-- TUBE_SET (R17) -/
  | tubeSet (seq : Byte) (payload : List Byte)
  /-- END_SESSION (R32) -/
  | endSession (seq : Byte) (payload : List Byte)
  /-- COIN_RETURN (R33) -/
  | coinReturn
  /-- ASSURANCE_EVALUATION_COMPLETE (R48) -/
  | assuranceEvaluationComplete
  /-- PAYOUT_EXIT_BREAK (R53) -/
  | payoutExitBreak
  /-- EXIT_WAIT_EXPIRY (R54) -/
  | exitWaitExpiry
  /-- TUBE_DISPENSE (R58) -/
  | tubeDispense (seq : Byte) (payload : List Byte)
  /-- SELECTION_CLEAR (R63) -/
  | selectionClear (seq : Byte) (payload : List Byte)
  /-- VEND (R65) -/
  | vend (seq : Byte) (payload : List Byte)
  /-- DROP_WINDOW_EXPIRY (R71) of the vend with this start order, counted from 1 (R67) -/
  | dropWindowExpiry (startOrder : Nat)
  /-- DROP_EVENT (R72) -/
  | dropEvent
  /-- DROP_BEAM_BREAK (R88) -/
  | dropBeamBreak
  /-- DROP_BEAM_CLEAR (R88) -/
  | dropBeamClear
  /-- HOME_LEAVE (R80), of the home switch of a position (log 47) -/
  | homeLeave (position : Nat)
  /-- HOME_RETURN (R82), of the home switch of a position (log 47) -/
  | homeReturn (position : Nat)
  /-- HOME_LEAVE_TIME (R81) -/
  | homeLeaveTime (g : Group)
  /-- TURN_TIMEOUT (R83) -/
  | turnTimeout (g : Group)
  /-- CURRENT_SAMPLE (R84) in mA -/
  | currentSample (g : Group) (milliamps : Nat)
  /-- FAULT_REST_END (R87) -/
  | faultRestEnd (g : Group)
  /-- MOTOR_TEST (R91) -/
  | motorTest (seq : Byte) (payload : List Byte)
  /-- SENSOR_SAMPLE (R96): the three counts of one second -/
  | sensorSample (cab coil cond : Nat)
  /-- MIN_OFF_END (R102) -/
  | minOffEnd
  /-- START_WINDOW_END (R104) -/
  | startWindowEnd
  /-- MIN_RUN_REACHED (R105) -/
  | minRunReached
  /-- FALLBACK_OFF_ELAPSED (R107) -/
  | fallbackOffElapsed
  /-- FALLBACK_ON_ELAPSED (R107) -/
  | fallbackOnElapsed
  /-- DEFROST_INTERVAL_REACHED (R108) -/
  | defrostIntervalReached
  /-- DEFROST_NOW (R108) -/
  | defrostNow (seq : Byte) (payload : List Byte)
  /-- DEFROST_MAX_REACHED (R110) -/
  | defrostMaxReached
  /-- DRIP_END (R112) -/
  | dripEnd
  /-- EXPOSURE_STEP (R114) -/
  | exposureStep
  /-- MIN_RESUME_REACHED (R123) -/
  | minResumeReached
  /-- START_DEFER_LIMIT (R124) -/
  | startDeferLimit
  /-- PERIPHERAL_FRAME (R132): a host frame to an alias -/
  | peripheralFrame (node kind seq : Byte) (payload : List Byte)
  /-- GUARD_END (R134) -/
  | guardEnd
  /-- POLL_DUE (R134) -/
  | pollDue (channel : Nat)
  /-- PROBE_DUE (R134) -/
  | probeDue (channel : Nat)
  /-- BUS_FRAME_RECEIVED (R136): a frame completed on the Peripheral Bus and the check value received with it -/
  | busFrameReceived (frame : Frame) (check : Word)
  /-- RESPONSE_TIMEOUT (R137) -/
  | responseTimeout
  /-- BUS_BYTE_GAP (R128): the bytes heard on the bus before the gap -/
  | busByteGap (heard : List Byte)
  /-- BUS_STUCK (R144) -/
  | busStuck
  /-- PRST_PULSE_END (R144) -/
  | prstPulseEnd
  /-- RECEIVE_LINE_RELEASED (R144) -/
  | receiveLineReleased
  /-- LINK_BYTE_GAP (R147): the bytes heard on RX before the gap -/
  | linkByteGap (heard : List Byte)
  /-- OVER_LENGTH_FRAME (R147): the frame up to its length byte -/
  | overLengthFrame (node kind seq length : Byte)
  /-- CHECK_VALUE_ERROR (R149): a completed frame and the check value received with it -/
  | checkValueError (frame : Frame) (check : Word)
  /-- UNKNOWN_NODE (R150): a well-formed frame to node 16-255 -/
  | unknownNode (node kind seq : Byte) (payload : List Byte)
  /-- BAD_KIND (R150): a node-0 frame of a kind that is not a request -/
  | badKind (kind seq : Byte) (payload : List Byte)
  /-- IDENTIFY (R152) -/
  | identify (seq : Byte) (payload : List Byte)
  /-- STATUS (R153) -/
  | status (seq : Byte) (payload : List Byte)
  /-- FETCH_NOTICES (R156) -/
  | fetchNotices (seq : Byte) (payload : List Byte)
  /-- SET_FLOOR (R155) -/
  | setFloor (seq : Byte) (payload : List Byte)
  /-- TIME_STAMP_WRAP (R154) -/
  | timeStampWrap
  /-- STAGE_OPEN (R161) -/
  | stageOpen (seq : Byte) (payload : List Byte)
  /-- STAGE_WRITE (R162) -/
  | stageWrite (seq : Byte) (payload : List Byte)
  /-- STAGE_COMMIT (R163) -/
  | stageCommit (seq : Byte) (payload : List Byte)
  /-- STAGE_DISCARD (R161) -/
  | stageDiscard (seq : Byte) (payload : List Byte)
  /-- READ_TABLE (R165) -/
  | readTable (seq : Byte) (payload : List Byte)
  /-- DOOR_OPEN (R166) -/
  | doorOpen
  /-- DOOR_CLOSE (R166) -/
  | doorClose
  /-- MODE (R167) -/
  | mode (seq : Byte) (payload : List Byte)
  /-- RESTART (R168) -/
  | restart (seq : Byte) (payload : List Byte)
  /-- BUS_OVER_LENGTH_FRAME (R128): the frame on the bus up to its length byte -/
  | busOverLengthFrame (node kind seq length : Byte)
deriving DecidableEq, Repr

end Sys2Proof
end

