-- ==== Sys2Proof/Machine/Frames.lean ====
section
/-! DEFINITION. The frame layout, the kind codes, the check value and the receive assembler, which serve both serial ports
(09, sections 9.1 and 9.2; R128, R147, R148). -/

namespace Sys2Proof.Machine

/-! ### Kind codes (09, section 9.1) -/

namespace Kind
def identify : Byte := 0x01
def status : Byte := 0x02
def fetchNotices : Byte := 0x03
def setFloor : Byte := 0x04
def mode : Byte := 0x05
def stageOpen : Byte := 0x10
def stageWrite : Byte := 0x11
def stageCommit : Byte := 0x12
def stageDiscard : Byte := 0x13
def readTable : Byte := 0x14
def vend : Byte := 0x20
def endSession : Byte := 0x21
def selectionClear : Byte := 0x22
def tubeSet : Byte := 0x30
def tubeDispense : Byte := 0x31
def motorTest : Byte := 0x32
def defrostNow : Byte := 0x38
def restart : Byte := 0x3F
def probe : Byte := 0x40
def ident : Byte := 0x41
def poll : Byte := 0x42
def noEvent : Byte := 0x43
def escrow : Byte := 0x50
def stacked : Byte := 0x51
def returned : Byte := 0x52
def approved : Byte := 0x58
def cancel : Byte := 0x59
def stack : Byte := 0x60
def giveBack : Byte := 0x61
def deny : Byte := 0x62
def settle : Byte := 0x63
def acceptMask : Byte := 0x64
def reply : Byte := 0x80
end Kind

/-- The request kinds of the catalogue (09, section 9.3). -/
def requestKinds : List Byte :=
  [Kind.identify, Kind.status, Kind.fetchNotices, Kind.setFloor, Kind.mode, Kind.stageOpen, Kind.stageWrite,
   Kind.stageCommit, Kind.stageDiscard, Kind.readTable, Kind.vend, Kind.endSession, Kind.selectionClear, Kind.tubeSet,
   Kind.tubeDispense, Kind.motorTest, Kind.defrostNow, Kind.restart]

/-- The kinds of an event report (R141). -/
def eventKinds : List Byte := [Kind.escrow, Kind.stacked, Kind.returned, Kind.approved, Kind.cancel]

/-- The payment commands that R132 keeps for the part on a money channel. -/
def protectedKinds : List Byte := [Kind.stack, Kind.giveBack, Kind.deny, Kind.settle, Kind.acceptMask]

/-- The start byte (09, section 9.1). -/
def startByte : Byte := 0xC3

/-! ### The check value (R148) -/

/-- One of the eight shifts that follow each byte (R148, step 2). -/
def crcShift (r : Word) : Word := if r.msb then (r <<< 1) ^^^ 0x1021 else r <<< 1

/-- A covered byte taken into the register (R148, steps 1 and 2). -/
def crcByte (r : Word) (b : Byte) : Word :=
  (List.range 8).foldl (fun r _ => crcShift r) (r ^^^ (b.zeroExtend 16 <<< 8))

/-- The check value of the covered bytes (R148). -/
def crc (covered : List Byte) : Word := covered.foldl crcByte 0xFFFF

/-- A number as one byte. -/
def u8 (n : Nat) : Byte := BitVec.ofNat 8 n

/-- A number as two bytes, high byte first (00, "Bytes"). -/
def u16 (n : Nat) : List Byte := [u8 (n / 256), u8 n]

/-- A number as three bytes, high byte first. -/
def u24 (n : Nat) : List Byte := [u8 (n / 65536), u8 (n / 256), u8 n]

/-- A number as four bytes, high byte first. -/
def u32 (n : Nat) : List Byte := [u8 (n / 16777216), u8 (n / 65536), u8 (n / 256), u8 n]

/-- The 16-bit two's-complement form of a signed number (09, section 9.4). -/
def signed16 (i : Int) : Nat := (BitVec.ofInt 16 i).toNat

/-- The bytes the check value covers: node, kind, sequence, length and payload (R148). -/
def covered (f : Frame) : List Byte := f.node :: f.kind :: f.seq :: u8 f.payload.length :: f.payload

/-- The check value a frame carries (R148). -/
def checkOf (f : Frame) : Word := crc (covered f)

/-- A frame as it stands on the line (09, section 9.1). -/
def frameBytes (f : Frame) : List Byte := startByte :: covered f ++ u16 (checkOf f).toNat

/-! ### The receive assembler (R147) -/

/-- The assembler's states; ASSEMBLING holds the bytes after the start byte, oldest first. -/
inductive Assembler where
  | hunting
  | assembling (bytes : List Byte)
deriving DecidableEq, Repr

/-- What a byte brings about at the assembler. -/
inductive RxEvent where
  /-- a length byte above 60: the frame is abandoned (R147) -/
  | overLength
  /-- the second check value byte has arrived: the frame is complete and its two check bytes are given (R147) -/
  | complete (frame : Frame) (check : Word)
deriving DecidableEq, Repr

/-- The bytes in hand judged after one more has been added: the length byte (the fourth) may be above 60, and the second
check value byte completes the frame (R147). -/
def judgeBytes (bytes : List Byte) : Assembler × Option RxEvent :=
  match bytes with
  | node :: kind :: seq :: len :: rest =>
    if Config.payloadMax < len.toNat then (.hunting, some .overLength)
    else if rest.length = len.toNat + 2 then
      let c := rest.drop len.toNat
      (.hunting, some (.complete ⟨node, kind, seq, rest.take len.toNat⟩
        ((c.getD 0 0).zeroExtend 16 <<< 8 ||| (c.getD 1 0).zeroExtend 16)))
    else (.assembling bytes, none)
  | _ => (.assembling bytes, none)

/-- One byte taken from the line (R147). -/
def Assembler.feed (a : Assembler) (b : Byte) : Assembler × Option RxEvent :=
  match a with
  | .hunting => if b = startByte then (.assembling [], none) else (.hunting, none)
  | .assembling bytes => judgeBytes (bytes ++ [b])

/-- Bytes taken one after another, with the events they bring about in order (R147). -/
def Assembler.feedAll (a : Assembler) : List Byte → Assembler × List RxEvent
  | [] => (a, [])
  | b :: bs =>
    let (a1, e) := a.feed b
    let (a2, es) := a1.feedAll bs
    (a2, e.toList ++ es)

/-- Whether an event of the assembler is a receive error (R149): an over-length frame, or a check value that does not
agree. -/
def RxEvent.isError : RxEvent → Bool
  | .overLength => true
  | .complete f c => decide (checkOf f ≠ c)

end Sys2Proof.Machine
end

