-- ==== Sys2Proof/Machine/State.lean ====
section
/-! DEFINITION. The state of the AB640: every record, table, list, queue, mode and pin spec/ gives its eleven blocks, as plain
data; the model's own fields; the machine after reset; and the reasons a step can stop. INVENTORY.md lists each field with
its rule. Moments and intervals are in milliseconds of the clock `now`. -/

namespace Sys2Proof.Machine

/-! ### Coin Acceptor (01) -/

/-- Machine mode (10, section 10.4). -/
inductive Mode where
  | config
  | sales
  | service
deriving DecidableEq, Repr

/-- Destination of an accepted coin (01, section 1.1). -/
inductive Route where
  | cashbox
  | tube (n : Nat)
deriving DecidableEq, Repr

/-- An acceptance window; both ends belong to it (01, section 1.1). -/
structure Window where
  low : Nat
  high : Nat
deriving DecidableEq, Repr

/-- One Coin Table entry (01, section 1.1). -/
structure CoinEntry where
  enabled : Bool
  value : Nat
  size : Window
  alloy : Window
  thickness : Window
  route : Route
  accepted : Nat
deriving DecidableEq, Repr

/-- What the coin path record holds while PENDING (01, section 1.4). -/
structure PendingCoin where
  entry : Nat
  value : Nat
  route : Route
  creditDue : Bool
  acceptedAt : Nat
deriving DecidableEq, Repr

/-- The coin path record (01, section 1.4). -/
inductive CoinPath where
  | empty
  | pending (c : PendingCoin)
deriving DecidableEq, Repr

/-- The accept gate; an open gate holds the moment Gate Hold began (R7). -/
inductive Gate where
  | closed
  | opened (since : Nat)
deriving DecidableEq, Repr

structure CoinUnit where
  table : List CoinEntry
  path : CoinPath
  gate : Gate
deriving DecidableEq, Repr

/-! ### Tube Inventory (01, section 1.8) -/

inductive TubeState where
  | absent
  | normal
  | low
  | empty
  | jammed
deriving DecidableEq, Repr

/-- One Tube record, with the last reading of the tube's low sensor (R15, R16); `entry` is none for NONE. -/
structure Tube where
  entry : Option Nat
  capacity : Nat
  keep : Nat
  lowMark : Nat
  count : Nat
  state : TubeState
  jamCount : Nat
  covered : Bool
deriving DecidableEq, Repr

/-! ### Credit Session Unit (02) -/

structure Policy where
  maxCredit : Nat
  multiVend : Bool
  baseUnit : Nat
  assuranceLimit : Nat
deriving DecidableEq, Repr

structure NoteEntry where
  enabled : Bool
  value : Nat
deriving DecidableEq, Repr

inductive SessionState where
  | idle
  | opened
  | closeWait
  | payout
deriving DecidableEq, Repr

inductive Funding where
  | unfunded
  | cash
  | card
deriving DecidableEq, Repr

/-- The card fields of the Session record, present with CARD funding (R19). -/
structure Card where
  channel : Nat
  limit : Nat
deriving DecidableEq, Repr

/-- The Session record (02, section 2.1). -/
structure Session where
  state : SessionState
  funding : Funding
  carriedIn : Nat
  coinIn : Nat
  noteIn : Nat
  charged : Nat
  changePaid : Nat
  card : Option Card
  cardUsed : Nat
  delivered : Nat
  openedAt : Nat
deriving DecidableEq, Repr

/-- A settlement record (R36). -/
structure Settlement where
  channel : Nat
  amount : Nat
  vends : Nat
  openedAt : Nat
deriving DecidableEq, Repr

/-- The answer to an ESCROW report (R26): STACK or RETURN. -/
inductive Escrow where
  | stack
  | giveBack
deriving DecidableEq, Repr

structure CreditUnit where
  policy : Policy
  notes : List NoteEntry
  session : Session
  carried : Nat
  /-- the Pending Settlement List, oldest first (R37) -/
  settlements : List Settlement
  /-- the note acceptor's hold: the escrow answer (R29) -/
  answer : Option Escrow
  /-- the note acceptor's hold: a mask is due (R28, R29) -/
  maskDue : Bool
  /-- the flags last handed to the note acceptor channel (R28) -/
  maskLast : Option Byte
  /-- the card reader's hold: a DENY (R29) -/
  deny : Bool
  /-- the model's own: a change of credit in the command now carried out has not yet raised its CREDIT_CHANGED (log 4) -/
  changed : Bool
deriving DecidableEq, Repr

/-! ### Change Engine (03) -/

/-- One tube of a search order, as a search takes it at its start (R41). -/
structure SearchLine where
  tube : Nat
  value : Nat
  usable : Nat
deriving DecidableEq, Repr

/-- One plan line (03): the tube, the value captured when the line was made, the coins still to be paid. -/
structure PlanLine where
  tube : Nat
  value : Nat
  coins : Nat
deriving DecidableEq, Repr

/-- What an evaluation takes at its start (R46). -/
structure EvalInput where
  order : List SearchLine
  baseUnit : Nat
  limit : Nat
deriving DecidableEq, Repr

/-- The sequencer's state; the two waits hold the current tube and the moment the Exit Wait opened (03, section 3.4). -/
inductive SeqState where
  | idle
  | deferred
  | claimWait
  | firstWait (tube since : Nat)
  | secondWait (tube since : Nat)
deriving DecidableEq, Repr

/-- The sequencer's job (03): the change due, the amount remaining and the plan; or the tube and the coins remaining. -/
inductive Job where
  | payout (due remaining : Nat) (plan : List PlanLine)
  | dispense (tube coins : Nat)
deriving DecidableEq, Repr

structure ChangeUnit where
  assured : Bool
  short : Nat
  /-- the inputs of the running evaluation; none for IDLE (R46) -/
  evaluating : Option EvalInput
  rerun : Bool
  maxPrice : Nat
  seq : SeqState
  job : Option Job
  deferred : Option Nat
  /-- pulses given to PAY 1-5 since reset -/
  pulses : List Nat
deriving DecidableEq, Repr

/-! ### Vend Scheduler (04) -/

inductive HealthClass where
  | ambient
  | chilled
deriving DecidableEq, Repr

inductive SelectionState where
  | available
  | soldOut
  | jammed
deriving DecidableEq, Repr

structure Selection where
  price : Nat
  health : HealthClass
  addOn : Nat
  state : SelectionState
  missStreak : Nat
  vendCount : Nat
deriving DecidableEq, Repr

inductive VendResult where
  | delivered
  | noDrop
  | jammed
  | abortedDoor
  | heldCold
  | cancelled
  | abortedRestart
deriving DecidableEq, Repr

/-- Stage of a vend (04, section 4.3); DROP_WAIT holds the moment the Drop Window opened. -/
inductive VendState where
  | queued
  | waitPower
  | turning
  | dropWait (since : Nat)
deriving DecidableEq, Repr

/-- A vend record (R66). `id` is the model's own name for it (log 7); `result` is present from the moment R73 step 1 has
recorded it. -/
structure Vend where
  id : Nat
  position : Nat
  price : Nat
  funding : Funding
  request : Byte
  state : VendState
  turnsMade : Nat
  droppedEarly : Bool
  result : Option VendResult
deriving DecidableEq, Repr

structure SalesUnit where
  selections : List Selection
  /-- the Vend List, in the order accepted (R66) -/
  vends : List Vend
  /-- the start sequence: the vends that have begun turning, head first (R67) -/
  started : List Nat
  nextId : Nat
deriving DecidableEq, Repr

/-! ### Spiral Drive (05) -/

/-- Whom a turn end is reported to (05, section 5.1). -/
inductive Owner where
  | vend
  | test
deriving DecidableEq, Repr

inductive HomeReading where
  | atHome
  | away
deriving DecidableEq, Repr

/-- The fields of a group record that are present in STARTING and TURNING, with the home reading, which is meaningful then
(05, section 5.1). Elapsed is the clock less `energizedAt`; `sampleAt` is the model's own: the moment the next current sample
is due. -/
structure Turn where
  position : Nat
  owner : Owner
  energizedAt : Nat
  home : HomeReading
  sampleAt : Nat
deriving DecidableEq, Repr

/-- State of a motor group; STOPPED_FAULT holds the moment Fault Rest began. -/
inductive GroupState where
  | idle
  | starting (t : Turn)
  | turning (t : Turn)
  | stopped (since : Nat)
deriving DecidableEq, Repr

/-- A group record (05, section 5.1). The high-current run, the last current and no-motor checked are those of the turn in
hand, and after its end those of the last turn (log 52). -/
structure GroupRec where
  state : GroupState
  highRun : Nat
  lastCurrent : Nat
  noMotorChecked : Bool
  held : Option (Nat × Owner)
  /-- the position of the test in progress in this group (R91) -/
  test : Option Nat
deriving DecidableEq, Repr

/-- The drop monitor's beam state; `timing` is CLEAR with a break being timed (R88). -/
inductive Beam where
  | clear
  | timing (since : Nat)
  | broken
deriving DecidableEq, Repr

structure DriveUnit where
  a : GroupRec
  b : GroupRec
  beam : Beam
deriving DecidableEq, Repr

/-! ### Refrigeration Controller (06) -/

inductive SensorState where
  | valid
  | holding
  | failed
deriving DecidableEq, Repr

inductive SensorFault where
  | short
  | opened
deriving DecidableEq, Repr

structure Sensor where
  state : SensorState
  temp : Option Int
  badRun : Nat
  lastFault : Option SensorFault
deriving DecidableEq, Repr

structure CurvePoint where
  count : Nat
  temp : Int
deriving DecidableEq, Repr

/-- The Cooling Table (06, section 6.3). -/
structure Cooling where
  setpoint : Int
  band : Int
  minOff : Nat
  minRun : Nat
  startWindow : Nat
  defrostInterval : Nat
  defrostEnd : Int
  defrostMax : Nat
  drip : Nat
  condCutout : Int
  condReset : Int
  safeLimit : Int
  recovery : Nat
  lockoutThreshold : Nat
  fallbackOn : Nat
  fallbackOff : Nat
deriving DecidableEq, Repr

/-- The compressor's state; STARTING and RUNNING hold the moment the relay was switched on (06, section 6.4). -/
inductive Compressor where
  | offMin
  | offReady
  | startWait
  | starting (since : Nat)
  | running (since : Nat)
  | protecting
deriving DecidableEq, Repr

inductive DefrostCause where
  | interval
  | request
deriving DecidableEq, Repr

/-- The defrost's state with its cause; HEATING holds the moment the heater was last switched on, DRIP the moment DRIP
began (06, section 6.5). -/
inductive Defrost where
  | idle
  | due (c : DefrostCause)
  | claiming (c : DefrostCause)
  | heating (c : DefrostCause) (since : Nat)
  | suspended (c : DefrostCause)
  | drip (c : DefrostCause) (since : Nat)
deriving DecidableEq, Repr

structure PlantUnit where
  cab : Sensor
  coil : Sensor
  cond : Sensor
  curve : List CurvePoint
  cooling : Cooling
  compressor : Compressor
  /-- the moment the off time started from 0 -/
  offSince : Nat
  /-- the run-time total in milliseconds, without the run in progress -/
  runMs : Nat
  demand : Bool
  defrost : Defrost
  /-- the heating time in milliseconds, without the heating in progress -/
  heatMs : Nat
  exposure : Nat
  lockout : Bool
  /-- the moment the next samples are due (R96) -/
  sampleAt : Nat
  /-- the moment the next Exposure step is due (R114) -/
  stepAt : Nat
deriving DecidableEq, Repr

/-! ### Load Arbiter (07) -/

inductive LoadKind where
  | payout
  | motor (g : Group)
  | compressorStart
  | compressorRun
  | defrost
deriving DecidableEq, Repr

/-- Who placed a claim (07, section 7.2). -/
inductive Claimant where
  | vend
  | test
  | change
  | plant
deriving DecidableEq, Repr

structure LoadTable where
  budget : Nat
  motorA : Nat
  motorB : Nat
  payout : Nat
  compressorStart : Nat
  compressorRun : Nat
  defrost : Nat
  minResume : Nat
  startDefer : Nat
deriving DecidableEq, Repr

/-- A waiting claim (R120). -/
structure Claim where
  kind : LoadKind
  owner : Claimant
  units : Nat
  priority : Nat
  arrival : Nat
deriving DecidableEq, Repr

/-- A granted claim (R120); `arrival` is the arrival time it had in the queue (R123 gives it back to a DEFROST). -/
structure Grant where
  kind : LoadKind
  owner : Claimant
  units : Nat
  since : Nat
  arrival : Nat
deriving DecidableEq, Repr

/-- A held placement (R120, R121). -/
structure HeldClaim where
  kind : LoadKind
  owner : Claimant
deriving DecidableEq, Repr

structure LoadUnit where
  table : LoadTable
  /-- the waiting queue, head first -/
  queue : List Claim
  granted : List Grant
  held : List HeldClaim
deriving DecidableEq, Repr

/-! ### Peripheral Bridge (08) -/

inductive Role where
  | noteAcceptor
  | cardReader
  | passive
deriving DecidableEq, Repr

/-- One Channel Table entry (08, section 8.2). -/
structure ChannelEntry where
  hostNode : Nat
  node : Nat
  role : Role
  allocation : Nat
  early : Bool
  pollInterval : Nat
  missLimit : Nat
  timeout : Nat
deriving DecidableEq, Repr

/-- The state a channel in AWAIT left (R130). -/
inductive Standing where
  | ready
  | suspect
deriving DecidableEq, Repr

inductive ChannelState where
  | disabled
  | probing
  | ready
  | await (standing : Standing)
  | suspect
  | lost
deriving DecidableEq, Repr

/-- A part-originated command (R140, R143). -/
inductive Command where
  | stack
  | giveBack
  | deny
  | settle (r : Settlement)
  | acceptMask (flags : Byte)
deriving DecidableEq, Repr

/-- A host frame in its block (R131). -/
structure HostFrame where
  hostNode : Byte
  kind : Byte
  seq : Byte
  payload : List Byte
  queuedAt : Nat
deriving DecidableEq, Repr

/-- A channel: its table entry and its running record (08, section 8.2). -/
structure Channel where
  cfg : ChannelEntry
  state : ChannelState
  misses : Nat
  lastActivity : Nat
  lastProbe : Nat
  slot : Option Command
  queue : List HostFrame
  lastEvent : Option Byte
  lastSeq : Byte
deriving DecidableEq, Repr

inductive Work where
  | internal
  | host
  | poll
  | probe
deriving DecidableEq, Repr

/-- The transaction on the bus (08, section 8.5), with the node it was sent to and the moment its last byte has been sent: DE
is released and its timeout starts then (R128, R135). -/
structure Txn where
  channel : Nat
  work : Work
  node : Byte
  seq : Byte
  sentAt : Nat
deriving DecidableEq, Repr

/-- A recovery in progress (R144). -/
structure Recovery where
  breakFrom : Nat
  prstFrom : Nat
  releasedAt : Option Nat
  pulsing : Bool
deriving DecidableEq, Repr

/-- Line state (08, section 8.5). -/
inductive Line where
  | idle
  | guarding (since : Nat)
  | waiting (t : Txn)
  | recovery (r : Recovery)
deriving DecidableEq, Repr

structure BridgeUnit where
  channels : List Channel
  line : Line
  lastServed : Nat
  /-- the request frames put on the bus since reset, oldest first -/
  sent : List Frame
  rx : Assembler
deriving DecidableEq, Repr

/-! ### Link Interface (09) -/

inductive NoticeKind where
  | powerUp
  | restarted
  | sensorFailed
  | compressorProtect
  | busStuck
  | motorJam
  | tubeJam
  | channelLost
  | coldLockout
  | coinPathFault
  | vendResult
  | sessionClosed
  | changeShort
  | creditChanged
  | noteEvent
  | cardEvent
  | peripheralReply
  | peripheralTimeout
  | exactChange
  | tubeRecount
  | soldOut
  | stageApplied
  | linkErrors
  | coinRejected
  | strayDrop
  | unexpectedCoin
  | channelUp
  | defrost
  | temperature
deriving DecidableEq, Repr

/-- A notice (09, section 9.4); its level follows from its kind. -/
structure Notice where
  kind : NoticeKind
  stamp : Nat
  subject : Option Nat
  values : List Nat
deriving DecidableEq, Repr

structure LinkUnit where
  rx : Assembler
  /-- the REPLY frames formed since reset, oldest first -/
  sent : List Frame
  notices : List Notice
  floor : Nat
  errors : Nat
  dropped : Nat
  /-- the LINK_ERRORS report mark (R149) -/
  reported : Bool
deriving DecidableEq, Repr

/-! ### Table Manager (10) -/

inductive TableKind where
  | coin
  | tube
  | note
  | policy
  | selection
  | cooling
  | curve
  | load
  | channel
deriving DecidableEq, Repr

/-- The contents of a staging buffer outside EMPTY (10, section 10.2); the room is the number of entries. -/
structure Buffer where
  kind : TableKind
  first : Nat
  entries : List (List Byte)
  extent : Nat
deriving DecidableEq, Repr

inductive Staging where
  | empty
  | opened (b : Buffer)
  | pending (b : Buffer)
deriving DecidableEq, Repr

structure TablesUnit where
  staging : Staging
  mode : Mode
  remembered : Mode
  loadCommitted : Bool
  curveCommitted : Bool
deriving DecidableEq, Repr

/-! ### Pins -/

/-- The levels of inputs that the part reads as it finds them: the door switch, and the home switch of every spiral
(a set bit is AWAY). -/
structure Pins where
  doorOpen : Bool
  away : BitVec 64
deriving DecidableEq, Repr

/-! ### The acts of a command (log 3) -/

/-- What one command brings about inside itself, each carried out whole by `perform` (Machine/Agenda.lean). -/
inductive Act where
  /-- a notice is raised (R154) -/
  | notice (k : NoticeKind) (subject : Option Nat) (values : List Nat)
  /-- one look at the head of the waiting queue (R122) -/
  | decide
  /-- a claim is placed (R121) -/
  | place (k : LoadKind) (o : Claimant)
  /-- a waiting or held claim is withdrawn (R121) -/
  | withdraw (k : LoadKind) (o : Claimant)
  /-- a granted claim is released (R126) -/
  | release (k : LoadKind) (o : Claimant)
  /-- a grant is handed to its claimant (R122) -/
  | granted (k : LoadKind) (o : Claimant)
  /-- dispatch (R68) -/
  | dispatch
  /-- these vends end, each with its result, in list order, with or without a dispatch after each (R73 to R76) -/
  | endVends (ends : List (Nat × VendResult)) (thenDispatch : Bool)
  /-- R73 steps 1 and 2 -/
  | endVend (id : Nat) (r : VendResult) (thenDispatch : Bool)
  /-- R73 steps 3 to 7 -/
  | leaveList (id : Nat) (r : VendResult) (thenDispatch : Bool)
  /-- Max Available Price is recomputed (R50, R61) -/
  | reprice
  /-- a position faulted: it becomes JAMMED (R64, R86 step 3) -/
  | jamPosition (position : Nat)
  /-- the Spiral Drive reports a normal turn end (R82 step 4) -/
  | turnEnded (g : Group) (o : Owner)
  /-- the Spiral Drive reports a fault turn end (R86 step 5) -/
  | turnFaulted (g : Group) (o : Owner)
  /-- the vend takes its normal turn end, its claim released (R70) -/
  | vendTurned (g : Group)
  /-- the vend takes its fault turn end, its claim released (R70) -/
  | vendJammed (g : Group)
  /-- a held request is started, if the group can take it (R82 step 5, R87) -/
  | startHeld (g : Group)
  /-- the end of a vend is reported to the Credit Session Unit (R73 step 6) -/
  | vendReported (r : VendResult) (price : Nat) (f : Funding)
  /-- a close request (R31) -/
  | closeRequest
  /-- a close request goes on after the waiting vends have ended (R31) -/
  | closeRest
  /-- a close completes (R35, R36) -/
  | completeClose
  /-- the change due is handed to the Change Engine (R35, R51) -/
  | handOver (amount : Nat)
  /-- SESSION_CLOSED is raised for a cash session and the session returns to IDLE (R35) -/
  | closeCash (remainder : Nat)
  /-- a PENDING load is applied at the session's return to IDLE (R164) -/
  | applyPending
  /-- STAGE_APPLIED is raised and the buffer becomes EMPTY (R164) -/
  | applied (k : TableKind) (first count disposition : Nat)
  /-- a payout run begins with this change due (R51) -/
  | startRun (amount : Nat)
  /-- the next coin of the job, with the check of R52 or R59 -/
  | nextCoin
  /-- a payout run ends, its claim released: R56 steps 2 to 4 -/
  | runEnded
  /-- a dispense ends, its claim released (R59) -/
  | dispenseEnded
  /-- demand is tested (R101) -/
  | demandTest
  /-- the stop test of R105 -/
  | stopTest
  /-- the defrost end test (R110, R111) -/
  | defrostTest
  /-- the condenser limit is tested (R106) -/
  | condenserTest
  /-- a COND sample may let the compressor leave PROTECT (R106) -/
  | protectTest
  /-- a defrost that is DUE proceeds to CLAIMING if the compressor is off (R108, R109) -/
  | defrostProceeds
  /-- the defrost becomes DUE (R108) -/
  | defrostDue (c : DefrostCause)
  /-- the DEFROST notice of an end of heating is raised; DRIP ends at once with a Drip of 0 (R110, R112) -/
  | dripEntered (reason heated : Nat)
  /-- the drip time has reached Drip (R112) -/
  | dripDone
  /-- the lockout activation test on Exposure (R115) -/
  | exposureTest
  /-- the cold lockout becomes active with this cause (R115) -/
  | lockOut (cause : Nat)
  /-- the intervals of R100 that are over under the new Cooling Table end -/
  | intervalsEnd (wasInterval : Nat)
  /-- the channel has become READY (R130) -/
  | becameReady (c : Nat)
  /-- the head settlement record of the channel moves to its slot, if it can (R37) -/
  | moveSettlement (c : Nat)
  /-- the scheduler looks for work (R134) -/
  | look
  /-- a peripheral event is handed on (R142) -/
  | handOn (c : Nat) (kind : Byte) (payload : List Byte)
  /-- the scheduler enters GUARD (R136, R137) -/
  | guardLine
  /-- an ACCEPTED reply whose data is the session state (R32) -/
  | replySession (seq : Byte)
  /-- an ACCEPTED reply whose data is the defrost state (R108) -/
  | replyDefrost (seq : Byte)
deriving DecidableEq, Repr

/-! ### The state -/

/-- No event stops the part: the spec gives every command an effect, so there is no fault. -/
inductive Fault where
deriving DecidableEq, Repr

/-- Reasons a command has no meaning. -/
inductive Refusal where
  /-- raised by `exec`'s arm for a command without a meaning; safe. No arm raises it: every row has its meaning. -/
  | notModelled (mnemonic : String)
deriving DecidableEq, Repr

/-- The state of the machine. -/
structure State where
  /-- the model's clock, milliseconds since power-on (log 2) -/
  now : Nat
  /-- the model's counter of free values drawn (log 10) -/
  draws : Nat
  pins : Pins
  coin : CoinUnit
  /-- the Tube records 1 to 5 -/
  tubes : List Tube
  credit : CreditUnit
  change : ChangeUnit
  sales : SalesUnit
  drive : DriveUnit
  plant : PlantUnit
  load : LoadUnit
  bridge : BridgeUnit
  link : LinkUnit
  tables : TablesUnit
  /-- the commands that wait, first in, first out -/
  pending : List Instr
deriving DecidableEq, Repr

/-! ### Reset values -/

/-- R1 -/
def CoinEntry.reset : CoinEntry :=
  { enabled := false, value := 1, size := ⟨0, 0⟩, alloy := ⟨0, 0⟩, thickness := ⟨0, 0⟩, route := .cashbox, accepted := 0 }

/-- R14 -/
def CoinUnit.reset : CoinUnit := { table := List.replicate 12 .reset, path := .empty, gate := .closed }

/-- R18; the low-sensor reading is taken as found (R16). -/
def Tube.reset (covered : Bool) : Tube :=
  { entry := none, capacity := 100, keep := 0, lowMark := 0, count := 0, state := .absent, jamCount := 0, covered := covered }

/-- The cleared Session record: the funding, the amounts and the card fields of R19 and R40. DESIGN CHOICE: opened at and
delivered vends, which the two rules do not name, are 0 in it (log 49). -/
def Session.reset : Session :=
  { state := .idle, funding := .unfunded, carriedIn := 0, coinIn := 0, noteIn := 0, charged := 0, changePaid := 0,
    card := none, cardUsed := 0, delivered := 0, openedAt := 0 }

/-- R40 -/
def CreditUnit.reset : CreditUnit :=
  { policy := { maxCredit := 1000, multiVend := false, baseUnit := 10, assuranceLimit := 0 }
    notes := List.replicate 8 { enabled := false, value := 1 }
    session := .reset, carried := 0, settlements := [], answer := none, maskDue := false, maskLast := none, deny := false,
    changed := false }

/-- R49, R50, R60 -/
def ChangeUnit.reset : ChangeUnit :=
  { assured := true, short := 0, evaluating := none, rerun := false, maxPrice := 0, seq := .idle, job := none,
    deferred := none, pulses := List.replicate 5 0 }

/-- R77 -/
def SalesUnit.reset : SalesUnit :=
  { selections := List.replicate 64
      { price := 0, health := .ambient, addOn := 0, state := .available, missStreak := 0, vendCount := 0 }
    vends := [], started := [], nextId := 0 }

/-- R95: every field cleared. -/
def GroupRec.reset : GroupRec :=
  { state := .idle, highRun := 0, lastCurrent := 0, noMotorChecked := false, held := none, test := none }

/-- R95; the beam is taken as found. -/
def DriveUnit.reset (beam : Beam) : DriveUnit := { a := .reset, b := .reset, beam := beam }

def Sensor.reset : Sensor := { state := .valid, temp := none, badRun := 0, lastFault := none }

/-- The built-in curve (06, section 6.2). -/
def builtInCurve : List CurvePoint :=
  [⟨200, 1250⟩, ⟨500, 800⟩, ⟨900, 450⟩, ⟨1400, 200⟩, ⟨2000, 40⟩, ⟨2600, -100⟩, ⟨3300, -250⟩, ⟨3900, -400⟩]

/-- The defaults of 06, section 6.3. -/
def Cooling.reset : Cooling :=
  { setpoint := 40, band := 30, minOff := 180, minRun := 60, startWindow := 3, defrostInterval := 21600, defrostEnd := 80,
    defrostMax := 1200, drip := 120, condCutout := 650, condReset := 500, safeLimit := 80, recovery := 20,
    lockoutThreshold := 300, fallbackOn := 600, fallbackOff := 600 }

/-- R118 -/
def PlantUnit.reset : PlantUnit :=
  { cab := .reset, coil := .reset, cond := .reset, curve := builtInCurve ++ builtInCurve ++ builtInCurve, cooling := .reset,
    compressor := .offMin, offSince := 0, runMs := 0, demand := false, defrost := .idle, heatMs := 0, exposure := 0,
    lockout := false, sampleAt := Config.sampleSpacing, stepAt := Config.exposureSpacing }

/-- R119, R127 -/
def LoadUnit.reset : LoadUnit :=
  { table := { budget := 100, motorA := 15, motorB := 15, payout := 8, compressorStart := 60, compressorRun := 25,
               defrost := 40, minResume := 30, startDefer := 120 }
    queue := [], granted := [], held := [] }

/-- R146 -/
def Channel.reset : Channel :=
  { cfg := { hostNode := 0, node := 1, role := .passive, allocation := 0, early := false, pollInterval := 4, missLimit := 3,
             timeout := 20 }
    state := .disabled, misses := 0, lastActivity := 0, lastProbe := 0, slot := none, queue := [], lastEvent := none,
    lastSeq := 0 }

/-- R146 -/
def BridgeUnit.reset : BridgeUnit :=
  { channels := List.replicate 4 .reset, line := .guarding 0, lastServed := 3, sent := [], rx := .hunting }

/-- The code of a machine mode (09, section 9.5). -/
def Mode.code : Mode → Nat
  | .config => 0
  | .sales => 1
  | .service => 2

/-- R159; `cause` is 0 for power-on, 1 for the reset pin. -/
def LinkUnit.reset (cause : Nat) (mode : Mode) : LinkUnit :=
  { rx := .hunting, sent := [], notices := [{ kind := .powerUp, stamp := 0, subject := none, values := [cause, mode.code] }],
    floor := 1, errors := 0, dropped := 0, reported := false }

/-- R166, R168 -/
def TablesUnit.reset (mode : Mode) : TablesUnit :=
  { staging := .empty, mode := mode, remembered := .config, loadCommitted := false, curveCommitted := false }

/-- The machine right after power-on reset with the inputs of log 5: door closed, every spiral at home, beam clear, low
sensors UNCOVERED; no command waits. -/
def State.reset : State :=
  { now := 0, draws := 0, pins := { doorOpen := false, away := 0 }, coin := .reset,
    tubes := List.replicate 5 (.reset false), credit := .reset, change := .reset, sales := .reset, drive := .reset .clear,
    plant := .reset, load := .reset, bridge := .reset, link := .reset 0 .config, tables := .reset .config,
    pending := [] }

end Sys2Proof.Machine
end

