-- ==== Sys2Proof/Machine/Ops.lean ====
section
/-! DEFINITION. The shared operations: a change of one block, the clock, entries of lists, notices (R154, R155), replies
(R151), the tube records (R15) and the free values. A block has no exception entry; raising a notice or a reply is the
command's effect on State. -/

namespace Sys2Proof.Machine

/-! ### A change of one block -/

def State.modPins (s : State) (f : Pins → Pins) : State := { s with pins := f s.pins }
def State.modCoin (s : State) (f : CoinUnit → CoinUnit) : State := { s with coin := f s.coin }
def State.modTubes (s : State) (f : List Tube → List Tube) : State := { s with tubes := f s.tubes }
def State.modCredit (s : State) (f : CreditUnit → CreditUnit) : State := { s with credit := f s.credit }
def State.modChange (s : State) (f : ChangeUnit → ChangeUnit) : State := { s with change := f s.change }
def State.modSales (s : State) (f : SalesUnit → SalesUnit) : State := { s with sales := f s.sales }
def State.modDrive (s : State) (f : DriveUnit → DriveUnit) : State := { s with drive := f s.drive }
def State.modPlant (s : State) (f : PlantUnit → PlantUnit) : State := { s with plant := f s.plant }
def State.modLoad (s : State) (f : LoadUnit → LoadUnit) : State := { s with load := f s.load }
def State.modBridge (s : State) (f : BridgeUnit → BridgeUnit) : State := { s with bridge := f s.bridge }
def State.modLink (s : State) (f : LinkUnit → LinkUnit) : State := { s with link := f s.link }
def State.modTables (s : State) (f : TablesUnit → TablesUnit) : State := { s with tables := f s.tables }

/-- The clock comes to a moment, if it is not past it (log 2). -/
def State.reach (s : State) (t : Nat) : State := { s with now := max s.now t }

/-- A free value has been drawn (log 10). -/
def State.draw (s : State) : State := { s with draws := s.draws + 1 }

/-- The notice time stamp counter (R154). -/
def State.stamp (s : State) : Nat := s.now / Config.stampUnit % Config.stampModulus

/-! ### Entries of a table -/

/-- The entry at an index changed; an index outside the table changes nothing. -/
def editAt {α : Type} (f : α → α) : Nat → List α → List α
  | _, [] => []
  | 0, x :: xs => f x :: xs
  | n + 1, x :: xs => x :: editAt f n xs

/-! ### Notices (R154, R155) -/

/-- The level of a notice kind (09, section 9.4). -/
def NoticeKind.level : NoticeKind → Nat
  | .powerUp | .restarted | .sensorFailed | .compressorProtect | .busStuck => 7
  | .motorJam | .tubeJam | .channelLost | .coldLockout | .coinPathFault => 6
  | .vendResult | .sessionClosed | .changeShort => 5
  | .creditChanged | .noteEvent | .cardEvent | .peripheralReply | .peripheralTimeout => 4
  | .exactChange | .tubeRecount | .soldOut | .stageApplied | .linkErrors => 3
  | .coinRejected | .strayDrop | .unexpectedCoin | .channelUp | .defrost => 2
  | .temperature => 1

/-- The code of a notice kind (09, section 9.4). -/
def NoticeKind.code : NoticeKind → Nat
  | .powerUp => 0x01
  | .restarted => 0x02
  | .sensorFailed => 0x03
  | .compressorProtect => 0x04
  | .busStuck => 0x05
  | .motorJam => 0x06
  | .tubeJam => 0x07
  | .channelLost => 0x08
  | .coldLockout => 0x09
  | .coinPathFault => 0x0A
  | .vendResult => 0x0B
  | .sessionClosed => 0x0C
  | .changeShort => 0x0D
  | .creditChanged => 0x0E
  | .noteEvent => 0x0F
  | .cardEvent => 0x10
  | .peripheralReply => 0x11
  | .peripheralTimeout => 0x12
  | .exactChange => 0x13
  | .tubeRecount => 0x14
  | .soldOut => 0x15
  | .stageApplied => 0x16
  | .linkErrors => 0x17
  | .coinRejected => 0x18
  | .strayDrop => 0x19
  | .unexpectedCoin => 0x1A
  | .channelUp => 0x1B
  | .defrost => 0x1C
  | .temperature => 0x1D

/-- The lowest level among queued notices; 7, the highest level, for an empty queue. -/
def lowestLevel (q : List Notice) : Nat := q.foldl (fun m n => min m n.kind.level) 7

/-- A queue without its newest notice of a level (R155). -/
def dropNewest (level : Nat) (q : List Notice) : List Notice :=
  (q.reverse.eraseP (fun n => n.kind.level == level)).reverse

/-- A stamped notice meets the floor and the queue (R154, R155). -/
def LinkUnit.push (l : LinkUnit) (n : Notice) : LinkUnit :=
  if n.kind.level < l.floor then l
  else if l.notices.length < Config.noticeMax then { l with notices := l.notices ++ [n] }
  else if lowestLevel l.notices < n.kind.level then
    { l with notices := dropNewest (lowestLevel l.notices) l.notices ++ [n], dropped := stopAt 255 l.dropped 1 }
  else { l with dropped := stopAt 255 l.dropped 1 }

/-- A block raises a notice (R154). -/
def State.raise (s : State) (k : NoticeKind) (subject : Option Nat) (values : List Nat) : State :=
  s.modLink fun l => l.push { kind := k, stamp := s.stamp, subject := subject, values := values }

/-! ### Replies (R151) -/

/-- Reasons of a REFUSED reply (R151). -/
inductive Reason where
  | badMode
  | busy
  | badArgument
  | noFunds
  | unavailable
  | listFull
  | queueFull
  | channelLost
  | guarded
  | noSession
  | notReady
  | timeout
  | badKind
deriving DecidableEq, Repr

/-- The code of a reason (R151). -/
def Reason.code : Reason → Nat
  | .badMode => 1
  | .busy => 2
  | .badArgument => 3
  | .noFunds => 4
  | .unavailable => 5
  | .listFull => 6
  | .queueFull => 7
  | .channelLost => 8
  | .guarded => 9
  | .noSession => 10
  | .notReady => 11
  | .timeout => 12
  | .badKind => 13

/-- A REPLY frame: node and sequence of the request, condition, reason, data (R151). -/
def replyFrame (node seq : Byte) (condition reason : Nat) (data : List Byte) : Frame :=
  { node := node, kind := Kind.reply, seq := seq, payload := u8 condition :: u8 reason :: data }

/-- A frame is formed for TX, behind those formed before it (R151). -/
def State.transmit (s : State) (f : Frame) : State := s.modLink fun l => { l with sent := l.sent ++ [f] }

/-- An ACCEPTED reply to a node-0 request. -/
def State.accept (s : State) (seq : Byte) (data : List Byte) : State := s.transmit (replyFrame 0 seq 0 0 data)

/-- A REFUSED reply to a node-0 request; `data` is empty except where the owning rule names a value. -/
def State.refuse (s : State) (seq : Byte) (r : Reason) (data : List Byte := []) : State :=
  s.transmit (replyFrame 0 seq 1 r.code data)

/-- A frame has been completed on the Machine Link: the assembler returns to HUNTING (R147). -/
def State.frameTaken (s : State) : State := s.modLink fun l => { l with rx := .hunting }

/-- A receive error on the Machine Link (R149). -/
def State.linkError (s : State) : State :=
  let s := s.modLink fun l => { l with errors := stopAt 255 l.errors 1 }
  if s.link.errors = 8 ∧ s.link.reported = false then
    (s.raise .linkErrors none [s.link.errors]).modLink fun l => { l with reported := true }
  else s

/-! ### Coins, tubes and selections -/

/-- The committed Coin Table entry. An index outside a table gives the record of reset; no rule asks for one. -/
def State.coinEntry (s : State) (i : Nat) : CoinEntry := s.coin.table.getD i .reset

/-- The Tube record of tube `n`, counted from 1. -/
def State.tube (s : State) (n : Nat) : Tube := s.tubes.getD (n - 1) (.reset false)

/-- The Selection Table record of a position. -/
def State.selection (s : State) (p : Nat) : Selection :=
  s.sales.selections.getD p
    { price := 0, health := .ambient, addOn := 0, state := .available, missStreak := 0, vendCount := 0 }

/-- The committed Note Table entry. -/
def State.noteEntry (s : State) (k : Nat) : NoteEntry := s.credit.notes.getD k { enabled := false, value := 1 }

/-- The channel of a number. -/
def State.channel (s : State) (c : Nat) : Channel := s.bridge.channels.getD c .reset

/-- A change of one channel. -/
def State.modChannel (s : State) (c : Nat) (f : Channel → Channel) : State :=
  s.modBridge fun b => { b with channels := editAt f c b.channels }

/-- A change of one Selection Table record. -/
def State.modSelection (s : State) (p : Nat) (f : Selection → Selection) : State :=
  s.modSales fun u => { u with selections := editAt f p u.selections }

/-- A change of the record of the vend with this id. -/
def State.modVend (s : State) (id : Nat) (f : Vend → Vend) : State :=
  s.modSales fun u => { u with vends := u.vends.map fun v => if v.id = id then f v else v }

/-- The record of a motor group. -/
def State.group (s : State) (g : Group) : GroupRec :=
  match g with
  | .a => s.drive.a
  | .b => s.drive.b

/-- A change of the record of a motor group. -/
def State.modGroup (s : State) (g : Group) (f : GroupRec → GroupRec) : State :=
  match g with
  | .a => s.modDrive fun d => { d with a := f d.a }
  | .b => s.modDrive fun d => { d with b := f d.b }

/-! ### The clock at a timer's running out (log 2) -/

/-- A moment some seconds after another. -/
def secondsAfter (t seconds : Nat) : Nat := t + seconds * 1000

/-! ### What an act does (log 3) -/

/-- The state an act leaves and the acts that follow from it, in order. -/
abbrev Doing := State × List Act

end Sys2Proof.Machine
end

