-- ==== Sys2Proof/Machine/Operands.lean ====
section
/-! DEFINITION. How arguments are read from a payload (09, sections 9.1 and 9.3; R150) and from table entries in written
form (R160), and the codes values are sent as (09, section 9.5). -/

namespace Sys2Proof.Machine

/-- The unsigned byte at an index; 0 beyond the end (a request with too few bytes is refused before it is read, R150). -/
def byteAt (p : List Byte) (i : Nat) : Nat := (p.getD i 0).toNat

/-- The two-byte field at an index, high byte first. -/
def wordAt (p : List Byte) (i : Nat) : Nat := byteAt p i * 256 + byteAt p (i + 1)

/-- The four-byte field at an index, high byte first. -/
def longAt (p : List Byte) (i : Nat) : Nat := wordAt p i * 65536 + wordAt p (i + 2)

/-- The signed two-byte field at an index (R160). -/
def signedAt (p : List Byte) (i : Nat) : Int := (BitVec.ofNat 16 (wordAt p i)).toInt

/-- A byte of a peripheral's reply; a byte that is not there is a free value (log 11). -/
def replyByte (draws : Nat) (p : List Byte) (i : Nat) : Byte := p.getD i (Config.missingByte draws i)

/-! ### Codes (09, section 9.5) -/

def boolCode (b : Bool) : Nat := if b then 1 else 0

def SessionState.code : SessionState → Nat
  | .idle => 0
  | .opened => 1
  | .closeWait => 2
  | .payout => 3

def Funding.code : Funding → Nat
  | .unfunded => 0
  | .cash => 1
  | .card => 2

def VendResult.code : VendResult → Nat
  | .delivered => 0
  | .noDrop => 1
  | .jammed => 2
  | .abortedDoor => 3
  | .heldCold => 4
  | .cancelled => 5
  | .abortedRestart => 6

def SelectionState.code : SelectionState → Nat
  | .available => 0
  | .soldOut => 1
  | .jammed => 2

def HealthClass.code : HealthClass → Nat
  | .ambient => 0
  | .chilled => 1

def Route.code : Route → Nat
  | .cashbox => 0
  | .tube n => n

def TubeState.code : TubeState → Nat
  | .absent => 0
  | .normal => 1
  | .low => 2
  | .empty => 3
  | .jammed => 4

def SensorFault.code : SensorFault → Nat
  | .short => 1
  | .opened => 2

def Compressor.code : Compressor → Nat
  | .offMin => 0
  | .offReady => 1
  | .startWait => 2
  | .starting _ => 3
  | .running _ => 4
  | .protecting => 5

def Defrost.code : Defrost → Nat
  | .idle => 0
  | .due _ => 1
  | .claiming _ => 2
  | .heating _ _ => 3
  | .suspended _ => 4
  | .drip _ _ => 5

def DefrostCause.code : DefrostCause → Nat
  | .interval => 1
  | .request => 2

/-- A channel in AWAIT shows its standing (R130, R153). -/
def ChannelState.code : ChannelState → Nat
  | .disabled => 0
  | .probing => 1
  | .ready => 2
  | .await .ready => 2
  | .suspect => 3
  | .await .suspect => 3
  | .lost => 4

def Escrow.code : Escrow → Nat
  | .stack => 1
  | .giveBack => 2

def Group.code : Group → Nat
  | .a => 0
  | .b => 1

def Role.code : Role → Nat
  | .noteAcceptor => 0
  | .cardReader => 1
  | .passive => 2

def Owner.code : Owner → Nat
  | .vend => 0
  | .test => 1

/-- The code of a table kind (R160). -/
def TableKind.code : TableKind → Nat
  | .coin => 1
  | .tube => 2
  | .note => 3
  | .policy => 4
  | .selection => 5
  | .cooling => 6
  | .curve => 7
  | .load => 8
  | .channel => 9

/-- The table kind of a code (R160). -/
def TableKind.ofCode : Nat → Option TableKind
  | 1 => some .coin
  | 2 => some .tube
  | 3 => some .note
  | 4 => some .policy
  | 5 => some .selection
  | 6 => some .cooling
  | 7 => some .curve
  | 8 => some .load
  | 9 => some .channel
  | _ => none

/-- The state of a staging buffer as `Config.bufferStateCode` numbers it (log 12). -/
def Staging.number : Staging → Nat
  | .empty => 0
  | .opened _ => 1
  | .pending _ => 2

/-- The group of a position (R66, R78). -/
def groupOf (position : Nat) : Group := if position < 32 then .a else .b

end Sys2Proof.Machine
end

