-- ==== Sys2Proof/Machine/Search.lean ====
section
/-! DEFINITION. Plans for an amount and assurance (03, sections 3.1 and 3.2): the search order, the exact search with its
limit of 4096 steps, the greedy plan, and what an evaluation finds (R41 to R45). -/

namespace Sys2Proof.Machine

/-- A tube's value (R41): that of the coin entry it names, enabled or not. -/
def State.tubeValue (s : State) (t : Tube) : Nat :=
  match t.entry with
  | some e => (s.coinEntry e).value
  | none => 0

/-- A tube's usable count (R41). -/
def Tube.usable (t : Tube) : Nat :=
  match t.state with
  | .normal | .low | .empty => t.count - t.keep
  | .absent | .jammed => 0

/-- A tube put into the search order behind the tubes of at least its value (R41). -/
def rankLine (l : SearchLine) : List SearchLine → List SearchLine
  | [] => [l]
  | x :: xs => if x.value < l.value then l :: x :: xs else x :: rankLine l xs

/-- The search order (R41): the tubes with usable coins by value, highest first, equal values by tube number. -/
def State.searchOrder (s : State) : List SearchLine :=
  ((List.range 5).filterMap fun i =>
    let t := s.tube (i + 1)
    if 0 < t.usable then some { tube := i + 1, value := s.tubeValue t, usable := t.usable } else none).foldl
      (fun order l => rankLine l order) []

/-- How a search goes: with the chosen numbers of coins of the tubes tried, with every branch failed and this many steps left,
or given up at the limit (R42, R43). -/
inductive Found where
  | found (ks : List Nat)
  | failed (left : Nat)
  | gaveUp
deriving DecidableEq, Repr

/-- A number of coins chosen in front of what the later tubes found. -/
def Found.choose (k : Nat) : Found → Found
  | .found ks => .found (k :: ks)
  | .failed left => .failed left
  | .gaveUp => .gaveUp

/-- One trial of `k` coins at a tube, with the steps left after it (R42): success at 0, else the next tubes. -/
def trial (next : Nat → Nat → Found) (value r k left : Nat) : Found :=
  if r - k * value = 0 then .found [k] else (next (r - k * value) left).choose k

/-- The trials at one tube, from `k` coins down to 0; each uses one step, and none is made when no step is left (R42, R43). -/
def trials (next : Nat → Nat → Found) (value r : Nat) : Nat → Nat → Found
  | _, 0 => .gaveUp
  | 0, left + 1 => trial next value r 0 left
  | k + 1, left + 1 =>
    match trial next value r (k + 1) left with
    | .failed left' => trials next value r k left'
    | f => f

/-- The depth-first search over the tubes (R42): a remaining amount and the steps left. Behind the last tube a branch
fails. -/
def searchFrom : List SearchLine → Nat → Nat → Found
  | [], _, left => .failed left
  | t :: rest, r, left => trials (searchFrom rest) t.value r (min t.usable (r / t.value)) left

/-- The exact search for an amount (R42, R43). -/
def exactSearch (order : List SearchLine) (amount : Nat) : Found :=
  if amount = 0 then .found [] else searchFrom order amount Config.searchSteps

/-- The plan lines of chosen numbers of coins; tubes with none are left out (R42). -/
def planOf : List SearchLine → List Nat → List PlanLine
  | t :: ts, k :: ks =>
    if k = 0 then planOf ts ks else { tube := t.tube, value := t.value, coins := k } :: planOf ts ks
  | _, _ => []

/-- The greedy plan (R44). -/
def greedyCounts : List SearchLine → Nat → List Nat
  | [], _ => []
  | t :: ts, r =>
    let k := min t.usable (r / t.value)
    k :: greedyCounts ts (r - k * t.value)

/-- The plan for an amount (R44). -/
def planFor (order : List SearchLine) (amount : Nat) : List PlanLine :=
  match exactSearch order amount with
  | .found ks => planOf order ks
  | _ => planOf order (greedyCounts order amount)

/-- The total value of a plan's coins. -/
def planValue (p : List PlanLine) : Nat := (p.map fun l => l.value * l.coins).sum

/-- Whether an amount is exactly payable (R43). -/
def payable (order : List SearchLine) (amount : Nat) : Bool :=
  match exactSearch order amount with
  | .found _ => true
  | _ => false

/-- The first of `n` amounts, beginning with the `m`-th multiple of the Base Unit, that is not exactly payable (R45). -/
def firstShort (order : List SearchLine) (baseUnit : Nat) : Nat → Nat → Option Nat
  | 0, _ => none
  | n + 1, m =>
    if payable order (m * baseUnit) then firstShort order baseUnit n (m + 1) else some (m * baseUnit)

/-- What an evaluation finds: none when assurance is true, else the short amount (R45). -/
def EvalInput.shortAmount (e : EvalInput) : Option Nat :=
  if e.limit = 0 then none else firstShort e.order e.baseUnit (e.limit / e.baseUnit) 1

end Sys2Proof.Machine
end

