-- ==== Sys2Proof/Machine/Flags.lean ====
section
/-! DEFINITION. Every condition and flag the rules compute from State: credit (R4, R19), sellability (R61), the escrow choice
and the acceptance mask (R26, R28), the vends' groups (R68), times read from the clock, the plant's conditions (R101, R106,
R113), the load (R120), the channels (R130), and the outputs, which follow from the state of the blocks. -/

namespace Sys2Proof.Machine

/-! ### Credit -/

/-- cash credit (R19). -/
def Session.cashCredit (x : Session) : Nat := x.carriedIn + x.coinIn + x.noteIn - x.charged - x.changePaid

/-- The card limit less card used; 0 without CARD funding (R38, R153). -/
def Session.cardLeft (x : Session) : Nat :=
  match x.card with
  | some c => c.limit - x.cardUsed
  | none => 0

/-- The credit ceiling of a session (R22). -/
def State.ceiling (s : State) : Nat := max s.credit.policy.maxCredit s.credit.session.carriedIn

/-- The prospective cash credit (R4). It is read only in an IDLE session and in an OPEN session with CASH funding. -/
def State.prospective (s : State) : Nat :=
  if s.credit.session.state = .idle then s.credit.carried else s.credit.session.cashCredit

/-- The pending coin credit (R6). -/
def State.pendingCoinCredit (s : State) : Nat :=
  match s.coin.path with
  | .pending c => if c.creditDue then c.value else 0
  | .empty => 0

/-! ### Selections -/

/-- Whether a Selection Table record is sellable under a lockout (R61). -/
def Selection.sellable (x : Selection) (lockout : Bool) : Bool :=
  0 < x.price && x.state = .available && !(x.health = .chilled && lockout)

/-- Whether a position is sellable (R61). -/
def State.sellable (s : State) (p : Nat) : Bool := (s.selection p).sellable s.plant.lockout

/-- The highest price among sellable records, or 0 (R50). -/
def highestPrice (xs : List Selection) (lockout : Bool) : Nat :=
  xs.foldl (fun m x => if x.sellable lockout then max m x.price else m) 0

/-! ### Notes -/

/-- Whether an ESCROW for note index `k`, taken now, is answered STACK (R26). -/
def State.stackable (s : State) (k : Nat) : Bool :=
  let x := s.credit.session
  let total := s.prospective + s.pendingCoinCredit + (s.noteEntry k).value
  k ≤ 7 && (s.noteEntry k).enabled && s.tables.mode = .sales
    && (x.funding = .unfunded || x.funding = .cash)
    && (x.state = .idle || x.state = .opened)
    && total ≤ s.credit.policy.maxCredit
    && (s.change.assured || total ≤ s.change.maxPrice)

/-- The acceptance mask: the flag of entry `k` at bit `k` (R28, R140). -/
def State.maskFlags (s : State) : Byte :=
  (List.range 8).foldl (fun m k => if s.stackable k then m ||| (1 <<< k) else m) 0

/-! ### Vends -/

/-- Whether no result has been recorded for a vend (04, section 4.3). -/
def Vend.unfinished (v : Vend) : Bool := v.result.isNone

/-- Whether a vend waits: QUEUED or WAIT_POWER, without a result. -/
def Vend.waits (v : Vend) : Bool := v.unfinished && (v.state = .queued || v.state = .waitPower)

/-- Whether a motor group is busy (R68). -/
def State.groupBusy (s : State) (g : Group) : Bool :=
  s.sales.vends.any fun v => v.unfinished && groupOf v.position = g && (v.state = .waitPower || v.state = .turning)

/-- The sum of the prices captured by the unfinished vends (R65). -/
def State.committed (s : State) : Nat := (s.sales.vends.map Vend.price).sum

/-- The figure the funds check compares with (R65). -/
def State.funds (s : State) : Nat :=
  if s.credit.session.funding = .card then s.credit.session.cardLeft else s.credit.session.cashCredit

/-- Whether a vend is a candidate for a drop (R72). -/
def Vend.catchesDrop (v : Vend) : Bool :=
  v.unfinished && match v.state with
    | .turning => !v.droppedEarly
    | .dropWait _ => true
    | .queued | .waitPower => false

/-- The vend of an id. -/
def State.vend? (s : State) (id : Nat) : Option Vend := s.sales.vends.find? fun v => v.id = id

/-- The vend of a group in TURNING: at most one by R68. -/
def State.turningVend (s : State) (g : Group) : Option Vend :=
  s.sales.vends.find? fun v => v.unfinished && v.state = .turning && groupOf v.position = g

/-- The vend of a group in WAIT_POWER: at most one by R68. -/
def State.poweringVend (s : State) (g : Group) : Option Vend :=
  s.sales.vends.find? fun v => v.unfinished && v.state = .waitPower && groupOf v.position = g

/-! ### The Spiral Drive -/

/-- The turn in progress in a group. -/
def GroupRec.turn? (r : GroupRec) : Option Turn :=
  match r.state with
  | .starting t => some t
  | .turning t => some t
  | .idle | .stopped _ => none

/-- elapsed (05, section 5.1). -/
def Turn.elapsed (t : Turn) (now : Nat) : Nat := min Config.turnTimeout (now - t.energizedAt)

/-- The row line and the column line that energize a position (R78). -/
def driveLines (position : Nat) : Nat × Nat :=
  (match groupOf position with
   | .a => position / 8 + 1
   | .b => position / 8 + 1 - 4,
   position % 8 + 1)

/-- OUTPUT. The lines a group drives: one row and one column, or none (R78). -/
def State.lines (s : State) (g : Group) : Option (Nat × Nat) := (s.group g).turn?.map fun t => driveLines t.position

/-! ### The coin mechanism's outputs -/

/-- OUTPUT. The route gate that is energized (R7). -/
def State.selector (s : State) : Route :=
  match s.coin.path with
  | .pending c => c.route
  | .empty => .cashbox

/-! ### The plant -/

/-- OUTPUT. COMP (R102 to R106). -/
def PlantUnit.relay (p : PlantUnit) : Bool :=
  match p.compressor with
  | .starting _ | .running _ => true
  | .offMin | .offReady | .startWait | .protecting => false

/-- OUTPUT. CONDFAN (R102 to R106, R113). -/
def PlantUnit.condFan (p : PlantUnit) : Bool := p.relay || p.compressor = .protecting

/-- OUTPUT. HEAT (R109 to R111). -/
def PlantUnit.heater (p : PlantUnit) : Bool :=
  match p.defrost with
  | .heating _ _ => true
  | .idle | .due _ | .claiming _ | .suspended _ | .drip _ _ => false

/-- OUTPUT. EVAPFAN (R113). -/
def State.evapFan (s : State) : Bool :=
  !s.pins.doorOpen && match s.plant.defrost with
    | .heating _ _ | .drip _ _ => false
    | .idle | .due _ | .claiming _ | .suspended _ => true

/-- on time in milliseconds; 0 with the relay off. -/
def PlantUnit.onMs (p : PlantUnit) (now : Nat) : Nat :=
  match p.compressor with
  | .starting since | .running since => now - since
  | .offMin | .offReady | .startWait | .protecting => 0

/-- run-time total in milliseconds; it stops at 86400 s (06, section 6.4). -/
def PlantUnit.runTotal (p : PlantUnit) (now : Nat) : Nat := min (Config.runTotalMax * 1000) (p.runMs + p.onMs now)

/-- heating time in milliseconds, suspended time excluded (R109, R111). -/
def PlantUnit.heatingMs (p : PlantUnit) (now : Nat) : Nat :=
  match p.defrost with
  | .heating _ since => p.heatMs + (now - since)
  | .idle | .due _ | .claiming _ | .suspended _ | .drip _ _ => p.heatMs

/-- The temperature a test may read: that of a VALID or HOLDING sensor that has one (R101, R106, R110; log 13). -/
def Sensor.reading (x : Sensor) : Option Int := if x.state = .failed then none else x.temp

/-- Cut-In (06, section 6.3). -/
def Cooling.cutIn (c : Cooling) : Int := c.setpoint + c.band

/-- Whether the condenser limit applies (R106). -/
def PlantUnit.limitApplies (p : PlantUnit) : Bool :=
  match p.cond.reading with
  | some t => p.cooling.condCutout < t
  | none => false

/-- Whether the compressor is at rest: neither started nor waiting to be. -/
def PlantUnit.resting (p : PlantUnit) : Bool :=
  match p.compressor with
  | .offMin | .offReady | .protecting => true
  | .startWait | .starting _ | .running _ => false

/-- Demand as a test finds it (R101, R107): the thermostat with its hysteresis, or fallback duty with CAB FAILED, where
demand arises at rest once the off time has reached Fallback Off. -/
def PlantUnit.demandNow (p : PlantUnit) (now : Nat) : Bool :=
  if p.cab.state = .failed then
    p.demand || (p.resting && p.cooling.fallbackOff * 1000 ≤ now - p.offSince)
  else
    match p.cab.temp with
    | none => p.demand
    | some t => if p.cooling.cutIn ≤ t then true else if t ≤ p.cooling.setpoint then false else p.demand

/-- Whether the defrost is DUE. -/
def Defrost.isDue : Defrost → Bool
  | .due _ => true
  | .idle | .claiming _ | .heating _ _ | .suspended _ | .drip _ _ => false

/-- Whether a compressor in RUNNING stops (R105). -/
def PlantUnit.stops (p : PlantUnit) (now : Nat) : Bool :=
  p.cooling.minRun * 1000 ≤ p.onMs now
    && (!p.demand || p.defrost.isDue || (p.cab.state = .failed && p.cooling.fallbackOn * 1000 ≤ p.onMs now))

/-- The working temperature a TEMPERATURE notice reports: before the first sample that of the curve's point 0 (R116). -/
def Sensor.shown (x : Sensor) (curve : List CurvePoint) (point0 : Nat) : Int :=
  match x.temp with
  | some t => t
  | none => (curve.getD point0 ⟨0, 0⟩).temp

/-! ### The load -/

/-- The units of a claim kind in the Load Table (07, section 7.2). -/
def LoadTable.units (t : LoadTable) : LoadKind → Nat
  | .payout => t.payout
  | .motor .a => t.motorA
  | .motor .b => t.motorB
  | .compressorStart => t.compressorStart
  | .compressorRun => t.compressorRun
  | .defrost => t.defrost

/-- The priority of a claim kind that has not aged (07, section 7.2). COMPRESSOR_RUN never waits and has none; the number
given to it is never read. -/
def LoadKind.priority : LoadKind → Nat
  | .payout => 1
  | .motor _ => 2
  | .compressorStart => 3
  | .compressorRun => 3
  | .defrost => 4

/-- The units of the granted claims. -/
def grantedUnits (gs : List Grant) : Nat := (gs.map Grant.units).sum

/-- drawn units (R120). -/
def LoadUnit.drawn (l : LoadUnit) : Nat := Config.baseLoad + grantedUnits l.granted

/-! ### The channels -/

/-- Whether a condition "READY" holds (R130: a channel in AWAIT meets it when its standing does). -/
def Channel.isReady (c : Channel) : Bool := c.state = .ready || c.state = .await .ready

/-- Whether a condition "READY or SUSPECT" holds (R130). -/
def Channel.isLive (c : Channel) : Bool :=
  match c.state with
  | .ready | .suspect | .await _ => true
  | .disabled | .probing | .lost => false

/-- The enabled channel of a role, if the table has one (R129: at most one of each money role). -/
def State.roleChannel (s : State) (r : Role) : Option Nat :=
  (List.range 4).find? fun c => (s.channel c).cfg.hostNode ≠ 0 && (s.channel c).cfg.role = r

/-- Free blocks of a channel (R131). -/
def Channel.freeBlocks (c : Channel) : Nat := c.cfg.allocation - c.queue.length

/-- OUTPUT. DE: asserted while a request is being sent (R128). DESIGN CHOICE: a transaction that ends while its request is still being
sent, by a soft restart, a BUS_STUCK or a reply, releases DE at once (log 59). -/
def State.de (s : State) : Bool :=
  match s.bridge.line with
  | .waiting t => s.now < t.sentAt
  | .idle | .guarding _ | .recovery _ => false

/-- OUTPUT. PRST (R144). -/
def State.prst (s : State) : Bool :=
  match s.bridge.line with
  | .recovery r => r.pulsing
  | .idle | .guarding _ | .waiting _ => false

/-- OUTPUT. ATTN (R157). -/
def State.attn (s : State) : Bool := !s.link.notices.isEmpty

end Sys2Proof.Machine
end

