-- ==== Sys2Proof/Machine/Load.lean ====
section
/-! DEFINITION. The Load Arbiter (07): placement, withdrawal, release, the grant decision, the taking back of a defrost,
aging and shrinking (R119 to R127). A decision is carried out one grant at a time, each handed on before the next. -/

namespace Sys2Proof.Machine

/-! ### The waiting queue (R120) -/

/-- Whether a claim goes before another: by priority, then by arrival. -/
def Claim.before (c x : Claim) : Bool := c.priority < x.priority || (c.priority = x.priority && c.arrival < x.arrival)

/-- A claim put into the queue in its order, behind those it does not go before (R120; log 27). -/
def enqueue (c : Claim) : List Claim → List Claim
  | [] => [c]
  | x :: xs => if c.before x then c :: x :: xs else x :: enqueue c xs

/-- Whether a kind is waiting or granted (R121). -/
def LoadUnit.holds (l : LoadUnit) (k : LoadKind) : Bool :=
  (l.queue.any fun c => c.kind = k) || l.granted.any fun g => g.kind = k

/-- A claim enters the waiting queue now (R121). -/
def LoadUnit.enter (l : LoadUnit) (now : Nat) (k : LoadKind) (o : Claimant) : LoadUnit :=
  { l with queue :=
      enqueue { kind := k, owner := o, units := l.table.units k, priority := k.priority, arrival := now } l.queue }

/-- The held placement of a kind, if there is one, enters the queue (R121). -/
def LoadUnit.letIn (l : LoadUnit) (now : Nat) (k : LoadKind) : LoadUnit :=
  match l.held.find? fun h => h.kind = k with
  | some h => LoadUnit.enter { l with held := l.held.filter fun h => h.kind ≠ k } now k h.owner
  | none => l

/-! ### Placement, withdrawal, release (R121, R126) -/

/-- A placement (R121). -/
def State.placeClaim (s : State) (k : LoadKind) (o : Claimant) : Doing :=
  if s.load.holds k then
    if s.load.held.any fun h => h.kind = k then (s, [])
    else (s.modLoad fun l => { l with held := l.held ++ [{ kind := k, owner := o }] }, [])
  else (s.modLoad fun l => l.enter s.now k o, [.decide])

/-- A withdrawal of a waiting or held claim (R121). -/
def State.withdrawClaim (s : State) (k : LoadKind) (o : Claimant) : Doing :=
  if s.load.queue.any fun c => c.kind = k && c.owner = o then
    (s.modLoad fun l => LoadUnit.letIn { l with queue := l.queue.filter fun c => !(c.kind = k && c.owner = o) } s.now k,
     [.decide])
  else
    (s.modLoad fun l => { l with held := l.held.filter fun h => !(h.kind = k && h.owner = o) }, [])

/-- A release; a claim that is not granted is withdrawn (R126). -/
def State.releaseClaim (s : State) (k : LoadKind) (o : Claimant) : Doing :=
  if s.load.granted.any fun g => g.kind = k && g.owner = o then
    (s.modLoad fun l => LoadUnit.letIn { l with granted := l.granted.filter fun g => !(g.kind = k && g.owner = o) } s.now k,
     [.decide])
  else s.withdrawClaim k o

/-! ### The grant decision (R122, R123) -/

/-- The head `h` is granted, `rest` behind it in the queue (R122). -/
def LoadUnit.grant (l : LoadUnit) (now : Nat) (h : Claim) (rest : List Claim) : LoadUnit :=
  { l with
    queue := rest
    granted := l.granted ++ [{ kind := h.kind, owner := h.owner, units := h.units, since := now, arrival := h.arrival }] }

/-- The granted DEFROST, if there is one. -/
def LoadUnit.defrostGrant (l : LoadUnit) : Option Grant := l.granted.find? fun g => g.kind = .defrost

/-- The suspension conditions for a head, with the DEFROST they would take back (R123). -/
def LoadUnit.suspension (l : LoadUnit) (now : Nat) (h : Claim) : Option Grant :=
  l.defrostGrant.filter fun d =>
    h.priority < 4 && l.table.minResume * 1000 ≤ now - d.since && l.drawn - d.units + h.units ≤ l.table.budget

/-- The granted DEFROST removed and placed back behind the head, with its original arrival time (R123, steps 1 and 3). -/
def LoadUnit.takeBack (l : LoadUnit) (d : Grant) (rest : List Claim) : LoadUnit × List Claim :=
  ({ l with granted := l.granted.filter fun g => g.kind ≠ .defrost },
   enqueue { kind := .defrost, owner := d.owner, units := l.table.defrost, priority := LoadKind.priority .defrost,
             arrival := d.arrival } rest)

/-- The taking back at the Refrigeration Controller: the heater off, SUSPENDED, the heating time stopped (R111). -/
def PlantUnit.suspend (p : PlantUnit) (now : Nat) : PlantUnit :=
  match p.defrost with
  | .heating c _ => { p with defrost := .suspended c, heatMs := p.heatingMs now }
  | .idle | .due _ | .claiming _ | .suspended _ | .drip _ _ => p

/-- One look at the head of the queue: it is granted, or a defrost is taken back and it is granted, or it waits (R122). -/
def State.decideHead (s : State) : Doing :=
  match s.load.queue with
  | [] => (s, [])
  | h :: rest =>
    if s.load.drawn + h.units ≤ s.load.table.budget then
      (s.modLoad fun l => l.grant s.now h rest, [.granted h.kind h.owner, .decide])
    else
      match s.load.suspension s.now h with
      | some d =>
        (((s.modLoad fun l => (l.takeBack d rest).1.grant s.now h (l.takeBack d rest).2).modPlant fun p =>
            p.suspend s.now), [.granted h.kind h.owner, .decide])
      | none => (s, [])

/-! ### Aging and shrinking (R124, R125) -/

/-- The waiting COMPRESSOR_START that has not been promoted. -/
def LoadUnit.agingStart (l : LoadUnit) : Option Claim :=
  l.queue.find? fun c => c.kind = .compressorStart && c.priority ≠ 0

/-- A waiting claim promoted to priority 0 (R124). -/
def LoadUnit.promote (l : LoadUnit) (c : Claim) : LoadUnit :=
  { l with queue := enqueue { c with priority := 0 } (l.queue.filter fun x => x.kind ≠ c.kind) }

/-- A COMPRESSOR_START grant shrunk to COMPRESSOR_RUN (R125). -/
def Grant.shrink (g : Grant) (t : LoadTable) : Grant :=
  if g.kind = .compressorStart then { g with kind := .compressorRun, units := min t.compressorRun g.units } else g

/-- The Refrigeration Controller tells the arbiter to shrink its grant (R125). -/
def State.shrinkStart (s : State) : Doing :=
  if s.load.granted.any fun g => g.kind = .compressorStart then
    (s.modLoad fun l => { l with granted := l.granted.map fun g => g.shrink l.table }, [.decide])
  else (s, [])

/-! ### Commit and restart (R119, R127) -/

/-- A committed Load Table takes effect: waiting claims take their new units (R119). -/
def LoadUnit.renew (l : LoadUnit) (t : LoadTable) : LoadUnit :=
  { l with table := t, queue := l.queue.map fun c => { c with units := t.units c.kind } }

/-- A soft restart empties the three collections (R127). -/
def LoadUnit.restart (l : LoadUnit) : LoadUnit := { l with queue := [], granted := [], held := [] }

end Sys2Proof.Machine
end

