-- ==== Sys2Proof/Machine/Drive.lean ====
section
/-! DEFINITION. The Spiral Drive (05): turn requests, the measure of a turn, its normal end and its faults, the drop monitor,
the door and motor tests (R78 to R95). -/

namespace Sys2Proof.Machine

/-! ### Energizing (R78, R79, R80) -/

/-- The group state a request energizes: STARTING with the switch AT_HOME, TURNING with it AWAY (R80). -/
def energized (position : Nat) (o : Owner) (away : Bool) (now : Nat) : GroupState :=
  let t : Turn :=
    { position := position, owner := o, energizedAt := now, home := if away then .away else .atHome,
      sampleAt := now + Config.currentInterval }
  if away then .turning t else .starting t

/-- The group record at energizing: the state, and the three fields of the current samples cleared (R79). -/
def GroupRec.energize (r : GroupRec) (x : GroupState) : GroupRec :=
  { r with state := x, highRun := 0, lastCurrent := 0, noMotorChecked := false }

/-- A position is energized now in a group that can take it (R79). -/
def State.energize (s : State) (g : Group) (position : Nat) (o : Owner) : State :=
  s.modGroup g fun r => r.energize (energized position o (s.pins.away.getLsbD position) s.now)

/-- A turn request taken by the state of its group (R79). -/
def State.requestTurn (s : State) (position : Nat) (o : Owner) : State :=
  match (s.group (groupOf position)).state with
  | .idle => s.energize (groupOf position) position o
  | .starting _ | .turning _ | .stopped _ => s.modGroup (groupOf position) fun r => { r with held := some (position, o) }

/-- A held request is energized if the group is IDLE (R82 step 5, R87). -/
def State.startHeldRequest (s : State) (g : Group) : Doing :=
  match (s.group g).state, (s.group g).held with
  | .idle, some (p, o) => ((s.modGroup g fun r => { r with held := none }).energize g p o, [])
  | _, _ => (s, [])

/-! ### Home events (R80, R82) -/

/-- The home switch of a spiral stands open or closed. -/
def State.setAway (s : State) (position : Nat) (away : Bool) : State :=
  s.modPins fun p =>
    { p with away := if away then p.away ||| BitVec.twoPow 64 position else p.away &&& ~~~(BitVec.twoPow 64 position) }

/-- The turn in progress of a position, if it is the energized one of its group: the home input carries its switch alone
(R80). -/
def State.turnAt (s : State) (position : Nat) : Option Turn :=
  (s.group (groupOf position)).turn?.filter fun t => t.position = position

/-- A leave of the energized position, in STARTING or TURNING (R80). -/
def State.leaveHome (s : State) (position : Nat) : State :=
  match s.turnAt position with
  | some t => s.modGroup (groupOf position) fun r => { r with state := .turning { t with home := .away } }
  | none => s

/-- The normal end of a turn, steps 1 to 3, with the reports that follow (R82). -/
def State.endTurn (s : State) (g : Group) (t : Turn) : Doing :=
  (s.modGroup g fun r => { r with state := .idle }, [.turnEnded g t.owner, .startHeld g])

/-- The turn that a return of a position ends: that of the position, in TURNING (R82). A return in STARTING changes no state
(R80). -/
def State.turningAt (s : State) (position : Nat) : Option Turn :=
  match (s.group (groupOf position)).state with
  | .turning t => if t.position = position then some t else none
  | .idle | .starting _ | .stopped _ => none

/-! ### Faults (R86) -/

/-- Reasons of a fault (09, section 9.5). -/
inductive MotorFault where
  | stall
  | timeout
  | noMotor
deriving DecidableEq, Repr

/-- The code of a fault reason (09, section 9.5). -/
def MotorFault.code : MotorFault → Nat
  | .stall => 1
  | .timeout => 2
  | .noMotor => 3

/-- The code of the turn phase a group is in (09, section 9.5). -/
def GroupState.phase : GroupState → Nat
  | .turning _ => 1
  | .starting _ | .idle | .stopped _ => 0

/-- A fault ends a turn (R86). -/
def State.faultTurn (s : State) (g : Group) (t : Turn) (why : MotorFault) : Doing :=
  (s.modGroup g fun r => { r with state := .stopped s.now },
   [.jamPosition t.position,
    .notice .motorJam (some t.position)
      [why.code, (s.group g).state.phase, t.elapsed s.now, (s.group g).lastCurrent, t.owner.code],
    .turnFaulted g t.owner])

/-! ### Current samples (R84, R85) -/

/-- A group record with a sample stored: the last current and the high-current run (R84). -/
def GroupRec.sampled (r : GroupRec) (milliamps : Nat) : GroupRec :=
  { r with
    lastCurrent := milliamps
    highRun := if Config.stallLevel < milliamps then stopAt Config.stallRun r.highRun 1 else 0 }

/-- Whether a sample is the No-Motor check of a turn (R85). -/
def GroupRec.checksMotor (r : GroupRec) (t : Turn) (now : Nat) : Bool :=
  !r.noMotorChecked && Config.noMotorCheck ≤ t.elapsed now

/-- A group state with its turn replaced. -/
def GroupState.withTurn (x : GroupState) (t : Turn) : GroupState :=
  match x with
  | .starting _ => .starting t
  | .turning _ => .turning t
  | .idle => .idle
  | .stopped since => .stopped since

/-- A current sample of a turn in progress (R84, R85). -/
def State.takeCurrent (s : State) (g : Group) (t : Turn) (milliamps : Nat) : Doing :=
  let check := (s.group g).checksMotor t s.now
  let t := { t with sampleAt := s.now + Config.currentInterval }
  let s := s.modGroup g fun r =>
    { r.sampled milliamps with state := r.state.withTurn t, noMotorChecked := r.noMotorChecked || check }
  if Config.stallRun ≤ (s.group g).highRun then s.faultTurn g t .stall
  else if check && milliamps < Config.openLevel then s.faultTurn g t .noMotor
  else (s, [])

/-! ### Reports of a turn's end (R70, R93) -/

/-- The end of a test (R93). -/
def State.endTest (s : State) (g : Group) : Doing :=
  (s.modGroup g fun r => { r with test := none }, [.release (.motor g) .test])

/-- A normal turn end reported to its owner (R82 step 4): the claim is released, then the vend goes on (R70). -/
def State.reportTurn (s : State) (g : Group) (o : Owner) : Doing :=
  match o with
  | .vend => (s, [.release (.motor g) .vend, .vendTurned g])
  | .test => s.endTest g

/-- A fault turn end reported to its owner (R86 step 5). -/
def State.reportFault (s : State) (g : Group) (o : Owner) : Doing :=
  match o with
  | .vend => (s, [.release (.motor g) .vend, .vendJammed g])
  | .test => s.endTest g

/-- A test's claim is granted: the Spiral Drive sends itself a turn request (R92). A grant whose test is gone is given back
(log 28). -/
def State.testGranted (s : State) (g : Group) : Doing :=
  match (s.group g).test with
  | some p => (s.requestTurn p .test, [])
  | none => (s, [.release (.motor g) .test])

/-! ### The door and a restart (R90, R94) -/

/-- Whether the door ends the test of a group: it turns, or its request is held (R93). -/
def GroupRec.testEndsAtDoor (r : GroupRec) : Bool :=
  match r.turn?, r.held with
  | some t, _ => t.owner = .test
  | none, some (_, o) => o = .test
  | none, none => false

/-- A group at the door's opening (R90). -/
def GroupRec.doorOpened (r : GroupRec) : GroupRec :=
  { r with
    state := match r.state with
      | .starting _ | .turning _ => .idle
      | .idle => .idle
      | .stopped since => .stopped since
    held := none
    test := if r.testEndsAtDoor then none else r.test }

/-- Both groups at the door's opening, with the release of the claim of a test that ends (R90, R93). DESIGN CHOICE: where the tests of
both groups end, group A's claim is released first, with its grant decision, and then group B's (log 58). -/
def State.doorAtMotors (s : State) : Doing :=
  (s.modDrive fun d => { d with a := d.a.doorOpened, b := d.b.doorOpened },
   (if s.drive.a.testEndsAtDoor then [.release (.motor .a) .test] else [])
     ++ if s.drive.b.testEndsAtDoor then [.release (.motor .b) .test] else [])

/-- A group at a soft restart (R94). -/
def GroupRec.restart (r : GroupRec) : GroupRec := { r with state := .idle, held := none, test := none }

/-- A soft restart stops both groups; the beam and a break being timed go on (R94). -/
def DriveUnit.restart (d : DriveUnit) : DriveUnit := { a := d.a.restart, b := d.b.restart, beam := d.beam }

end Sys2Proof.Machine
end

