-- ==== Sys2Proof/Machine/Sales.lean ====
section
/-! DEFINITION. The Vend Scheduler (04): accepting, dispatching, turning and ending vends, and attributing drops
(R61 to R77). -/

namespace Sys2Proof.Machine

/-! ### The Selection Table (R63, R64) -/

/-- A record cleared (R63). -/
def Selection.cleared (x : Selection) : Selection := { x with state := .available, missStreak := 0 }

/-- A record after a vend of its position has ended (R64). -/
def Selection.afterVend (x : Selection) (r : VendResult) : Selection :=
  match r with
  | .delivered => { x with missStreak := 0, vendCount := stopAt 65535 x.vendCount 1 }
  | .noDrop =>
    let streak := stopAt 15 x.missStreak 1
    { x with
      missStreak := streak
      state := if x.state = .available ∧ Config.soldOutAt ≤ streak then .soldOut else x.state }
  | .jammed | .abortedDoor | .heldCold | .cancelled | .abortedRestart => x

/-- Max Available Price recomputed (R50). -/
def State.repriceNow (s : State) : State :=
  s.modChange fun c => { c with maxPrice := highestPrice s.sales.selections s.plant.lockout }

/-! ### Which vends (R74 to R76) -/

/-- The vends that meet a test, in list order, each with the result it is to end with. -/
def State.ending (s : State) (f : Vend → Bool) (r : VendResult) : List (Nat × VendResult) :=
  (s.sales.vends.filter f).map fun v => (v.id, r)

/-- The waiting vends of a position that has become SOLD_OUT or JAMMED end CANCELLED (R74). -/
def State.cancelAt (s : State) (p : Nat) : Act := .endVends (s.ending (fun v => v.waits && v.position = p) .cancelled) true

/-- A position that has stopped being sellable for a cause other than the lockout (R74). -/
def State.jamSelection (s : State) (p : Nat) : Doing :=
  (s.modSelection p fun x => { x with state := .jammed }, [.reprice, s.cancelAt p])

/-! ### Ending vends (R73 to R76) -/

/-- The claim of a vend that ends is withdrawn or released, without a decision yet (R73, step 1). -/
def State.dropVendClaim (s : State) (id : Nat) : Doing :=
  match s.vend? id with
  | some v =>
    match v.state with
    | .waitPower | .turning => s.releaseClaim (.motor (groupOf v.position)) .vend
    | .queued | .dropWait _ => (s, [])
  | none => (s, [])

/-- The claims of vends that end together; the second part says whether a grant decision is due. -/
def State.dropVendClaims (s : State) : List (Nat × VendResult) → State × Bool
  | [] => (s, false)
  | e :: es =>
    let (s1, acts) := s.dropVendClaim e.1
    let (s2, due) := s1.dropVendClaims es
    (s2, !acts.isEmpty || due)

/-- A vend with the result a list of ends gives it. -/
def Vend.endedBy (v : Vend) (ends : List (Nat × VendResult)) : Vend :=
  match ends.find? fun e => e.1 = v.id with
  | some e => { v with result := some e.2 }
  | none => v

/-- Vends end together: their results are recorded and their claims given back, one grant decision follows if a claim left
a list, and then each ends by R73 in list order (R74, R75, R76; log 20). -/
def State.endTogether (s : State) (ends : List (Nat × VendResult)) (d : Bool) : Doing :=
  let s := s.modSales fun u => { u with vends := u.vends.map fun v => v.endedBy ends }
  let (s, due) := s.dropVendClaims ends
  (s, (if due then [.decide] else []) ++ ends.map fun e => .endVend e.1 e.2 d)

/-- R73, steps 1 and 2. A position that becomes SOLD_OUT leaves sale inside step 2 (log 21). -/
def State.recordEnd (s : State) (id : Nat) (r : VendResult) (d : Bool) : Doing :=
  match s.vend? id with
  | none => (s, [])
  | some v =>
    let before := s.selection v.position
    let after := before.afterVend r
    let s := (s.modVend id fun v => { v with result := some r }).modSelection v.position fun x => x.afterVend r
    (s, (if before.state = .available ∧ after.state = .soldOut then
          [.notice .soldOut (some v.position) [after.missStreak], .reprice, s.cancelAt v.position]
        else []) ++ [.leaveList id r d])

/-- R73, steps 3 to 7. -/
def State.takeFromList (s : State) (id : Nat) (r : VendResult) (d : Bool) : Doing :=
  match s.vend? id with
  | none => (s, [])
  | some v =>
    let s := s.modSales fun u => { u with started := u.started.filter fun i => i ≠ id }
    let s := s.raise .vendResult (some v.position)
      [r.code, v.price, v.turnsMade, boolCode v.droppedEarly, v.request.toNat]
    (s.modSales fun u => { u with vends := u.vends.filter fun v => v.id ≠ id },
     .vendReported r v.price v.funding :: if d then [.dispatch] else [])

/-! ### Dispatch and grants (R68, R69) -/

/-- The oldest QUEUED vend whose group is not busy (R68). -/
def State.nextToDispatch (s : State) : Option Vend :=
  s.sales.vends.find? fun v => v.unfinished && v.state = .queued && !s.groupBusy (groupOf v.position)

/-- One vend dispatched, and the selection repeated (R68). -/
def State.dispatchOne (s : State) : Doing :=
  match s.nextToDispatch with
  | some v =>
    (s.modVend v.id fun v => { v with state := .waitPower }, [.place (.motor (groupOf v.position)) .vend, .dispatch])
  | none => (s, [])

/-- A vend's claim is granted (R69, R67). A grant that no vend in WAIT_POWER takes is given back (log 28). -/
def State.vendGranted (s : State) (g : Group) : Doing :=
  match s.poweringVend g with
  | none => (s, [.release (.motor g) .vend])
  | some v =>
    let s := s.modVend v.id fun v => { v with state := .turning, turnsMade := v.turnsMade + 1 }
    let s := s.modSales fun u => { u with started := if u.started.contains v.id then u.started else u.started ++ [v.id] }
    (s.requestTurn v.position .vend, [])

/-! ### Turn ends, drops, windows (R70, R71, R72) -/

/-- A normal turn end, the claim released (R70). -/
def State.turnDone (s : State) (g : Group) : Doing :=
  match s.turningVend g with
  | none => (s, [])
  | some v =>
    if v.droppedEarly then (s, [.endVend v.id .delivered true])
    else (s.modVend v.id fun v => { v with state := .dropWait s.now }, [.dispatch])

/-- A fault turn end, the claim released (R70). -/
def State.turnJammed (s : State) (g : Group) : Doing :=
  match s.turningVend g with
  | none => (s, [])
  | some v => (s, [.endVend v.id .jammed true])

/-- The candidate of the lowest start order (R72). -/
def State.dropTaker (s : State) : Option Vend :=
  (s.sales.started.filterMap s.vend?).find? Vend.catchesDrop

/-- A drop event attributed (R72). -/
def State.attributeDrop (s : State) : Doing :=
  match s.dropTaker with
  | none => (s.raise .strayDrop none [], [])
  | some v =>
    match v.state with
    | .turning => (s.modVend v.id fun v => { v with droppedEarly := true }, [])
    | .queued | .waitPower | .dropWait _ => (s, [.endVend v.id .delivered true])

/-- The vend with a start order, in DROP_WAIT, and the moment its window opened (R67, R71). -/
def State.windowOf (s : State) (startOrder : Nat) : Option (Vend × Nat) :=
  match startOrder with
  | 0 => none
  | n + 1 =>
    (s.sales.started[n]?.bind s.vend?).bind fun v =>
      match v.unfinished, v.state with
      | true, .dropWait since => some (v, since)
      | _, _ => none

/-- The Drop Window of a vend runs out (R71). -/
def State.windowOver (s : State) (v : Vend) : Doing :=
  let x := s.selection v.position
  if x.addOn < v.turnsMade then (s, [.endVend v.id .noDrop true])
  else if !s.sellable v.position then
    (s, [.endVend v.id (if x.health = .chilled ∧ s.plant.lockout then .heldCold else .noDrop) true])
  else if s.groupBusy (groupOf v.position) then (s.modVend v.id fun v => { v with state := .queued }, [.dispatch])
  else (s.modVend v.id fun v => { v with state := .waitPower }, [.place (.motor (groupOf v.position)) .vend])

/-! ### Accepting a vend (R65, R66) -/

/-- The record of an accepted vend (R66). -/
def State.newVend (s : State) (position : Nat) (seq : Byte) : Vend :=
  { id := s.sales.nextId, position := position, price := (s.selection position).price,
    funding := s.credit.session.funding, request := seq, state := .queued, turnsMade := 0, droppedEarly := false,
    result := none }

/-- A vend appended to the tail of the Vend List (R66). -/
def SalesUnit.append (u : SalesUnit) (v : Vend) : SalesUnit :=
  { u with vends := u.vends ++ [v], nextId := u.nextId + 1 }

/-- The lockout becomes active: the waiting vends of every CHILLED position end HELD_COLD (R74). -/
def State.holdChilled (s : State) : Act :=
  .endVends (s.ending (fun v => v.waits && (s.selection v.position).health = .chilled) .heldCold) true

/-- A soft restart empties the Vend List and the start sequence (R77). -/
def SalesUnit.restart (u : SalesUnit) : SalesUnit := { u with vends := [], started := [] }

end Sys2Proof.Machine
end

