-- ==== Sys2Proof/Machine/Credit.lean ====
section
/-! DEFINITION. The Credit Session Unit (02): cash and card sessions, charges, closes, settlements, the escrow answer, the
acceptance mask and the two holds (R19 to R40). -/

namespace Sys2Proof.Machine

/-! ### The record (R19, R21, R22, R24) -/

/-- A change of credit: its CREDIT_CHANGED follows at the end of the command (R38; log 4). -/
def State.modCash (s : State) (f : CreditUnit → CreditUnit) : State :=
  s.modCredit fun c => { f c with changed := true }

/-- A change of the Session record. -/
def State.modSession (s : State) (f : Session → Session) : State :=
  s.modCash fun c => { c with session := f c.session }

/-- Carried Credit raised, stopping at 20000 (R23). -/
def State.carry (s : State) (amount : Nat) : State :=
  s.modCash fun c => { c with carried := stopAt Config.moneyMax c.carried amount }

/-- A CASH session opens and takes the Carried Credit in (R21). -/
def State.openCash (s : State) : State :=
  s.modCash fun c =>
    { c with
      session := { Session.reset with state := .opened, funding := .cash, carriedIn := c.carried, openedAt := s.stamp }
      carried := 0 }

/-- A CARD session opens (R30). -/
def State.openCard (s : State) (channel limit : Nat) : State :=
  s.modCash fun c =>
    { c with
      session :=
        { Session.reset with state := .opened, funding := .card, card := some ⟨channel, limit⟩, openedAt := s.stamp } }

/-- Whether arriving cash is applied to the session (R22). -/
def Session.takesCash (x : Session) : Bool := x.funding = .cash && (x.state = .opened || x.state = .closeWait)

/-- The part of an amount that keeps the cash credit at or below the ceiling (R22). -/
def State.cashRoom (s : State) (amount : Nat) : Nat := min amount (s.ceiling - s.credit.session.cashCredit)

/-- Where arriving cash goes (R22). -/
inductive Cash where
  | coin
  | note
deriving DecidableEq, Repr

/-- Cash that reaches an open session, or Carried Credit (R22). -/
def State.takeCash (s : State) (k : Cash) (amount : Nat) : State :=
  if s.credit.session.takesCash then
    let into := s.cashRoom amount
    let s := s.modSession fun x =>
      match k with
      | .coin => { x with coinIn := x.coinIn + into }
      | .note => { x with noteIn := x.noteIn + into }
    if into < amount then s.carry (amount - into) else s
  else s.carry amount

/-- Cash arrives; an IDLE session opens for it first (R10, R21, R22). -/
def State.receiveCash (s : State) (k : Cash) (amount : Nat) : State :=
  (if s.credit.session.state = .idle then s.openCash else s).takeCash k amount

/-- A delivered vend charged to the session (R24). -/
def State.charge (s : State) (price : Nat) (f : Funding) : State :=
  if s.credit.session.state = .opened ∨ s.credit.session.state = .closeWait then
    s.modSession fun x =>
      match f with
      | .cash => { x with charged := x.charged + price, delivered := stopAt 255 x.delivered 1 }
      | .card => { x with cardUsed := x.cardUsed + price, delivered := stopAt 255 x.delivered 1 }
      | .unfunded => x
  else s

/-- A change coin confirmed at the payout exit (R35, R53). -/
def State.payBack (s : State) (value : Nat) : State :=
  s.modSession fun x => { x with changePaid := x.changePaid + value }

/-! ### Closing (R31, R34, R35, R36) -/

/-- The end of a vend taken (R73 step 6; R24, R31, R34). -/
def State.takeVendEnd (s : State) (r : VendResult) (price : Nat) (f : Funding) : Doing :=
  let s := if r = .delivered then s.charge price f else s
  if !s.sales.vends.isEmpty then (s, [])
  else
    match s.credit.session.state with
    | .closeWait => (s, [.completeClose])
    | .opened => (s, if r = .delivered ∧ s.credit.policy.multiVend = false then [.closeRequest] else [])
    | .idle | .payout => (s, [])

/-- A close request (R31, R75). -/
def State.requestClose (s : State) : Doing :=
  match s.credit.session.state with
  | .opened => (s, [.endVends (s.ending Vend.waits .cancelled) false, .closeRest])
  | .closeWait | .payout | .idle => (s, [])

/-- A close request once the waiting vends have ended (R31). -/
def State.goOnClosing (s : State) : Doing :=
  if s.credit.session.state = .opened then
    if s.sales.vends.isEmpty then (s, [.completeClose])
    else (s.modSession fun x => { x with state := .closeWait }, [])
  else (s, [])

/-- The settlement record of a card session (R36). -/
def Session.settlement (x : Session) (c : Card) : Settlement :=
  { channel := c.channel, amount := x.cardUsed, vends := x.delivered, openedAt := x.openedAt }

/-- Whether a settlement record enters its channel's slot at once (R36). -/
def State.settlesAtOnce (s : State) (channel : Nat) : Bool :=
  (s.channel channel).isReady && (s.channel channel).slot.isNone && !s.credit.deny
    && !s.credit.settlements.any fun r => r.channel = channel

/-- A settlement record appended to the Pending Settlement List (R37). -/
def State.appendSettlement (s : State) (r : Settlement) : State :=
  s.modCredit fun c => { c with settlements := c.settlements ++ [r] }

/-- A command enters a channel's internal slot (R143). -/
def State.fillSlot (s : State) (channel : Nat) (x : Command) : State :=
  s.modChannel channel fun c => { c with slot := some x }

/-- The session returns to IDLE with its record cleared (R19). -/
def State.sessionToIdle (s : State) : State := s.modSession fun _ => .reset

/-- A card close completes by settling (R36, R38). -/
def State.settleCard (s : State) (x : Session) (c : Card) : Doing :=
  let r := x.settlement c
  let now := s.settlesAtOnce c.channel
  let s := if now then s.fillSlot c.channel (.settle r) else s.appendSettlement r
  let s := s.raise .sessionClosed (some c.channel) [c.limit, x.cardUsed, x.delivered, if now then 0 else 1]
  (s.sessionToIdle, .applyPending :: if now then [.look] else [])

/-- A close completes (R35, R36). -/
def State.finishClose (s : State) : Doing :=
  match s.credit.session.card with
  | some c => s.settleCard s.credit.session c
  | none =>
    if s.credit.session.cashCredit = 0 then (s, [.closeCash 0])
    else (s.modSession fun x => { x with state := .payout }, [.handOver s.credit.session.cashCredit])

/-- The end of a cash close with its remainder (R35, R38). -/
def State.endCash (s : State) (remainder : Nat) : Doing :=
  let s := if remainder = 0 then s else s.carry remainder
  let x := s.credit.session
  let s := s.raise .sessionClosed none [x.carriedIn, x.coinIn, x.noteIn, x.charged, x.changePaid, remainder]
  (s.sessionToIdle, [.applyPending])

/-! ### Settlements (R37) -/

/-- The head record of a channel moves to its slot, if it can (R37). -/
def State.moveHead (s : State) (channel : Nat) : Doing :=
  match s.credit.settlements.find? fun r => r.channel = channel with
  | some r =>
    if (s.channel channel).isReady && (s.channel channel).slot.isNone && !s.credit.deny then
      ((s.modCredit fun c => { c with settlements := c.settlements.eraseP fun r => r.channel = channel }).fillSlot channel
        (.settle r), [.look])
    else (s, [])
  | none => (s, [])

/-- The Credit Session Unit is told that a channel has become READY (R28, R37, R130). A settlement record moves on the card
reader channel alone, as R130 says; the record of a channel recommitted to another role waits (DEDUCED, log 50). -/
def State.channelReady (s : State) (channel : Nat) : Doing :=
  match (s.channel channel).cfg.role with
  | .noteAcceptor => (s.modCredit fun c => { c with maskDue := true }, [])
  | .cardReader => (s, [.moveSettlement channel])
  | .passive => (s, [])

/-! ### Notes (R26, R27) -/

/-- An ESCROW report (R26). -/
def State.takeEscrow (s : State) (channel k : Nat) : State :=
  let choice := if s.stackable k then Escrow.stack else .giveBack
  (s.modCredit fun c => { c with answer := some choice }).raise .noteEvent (some channel) [1, k, choice.code]

/-- A STACKED report (R27). The amounts of the notice are the increases of note in and of Carried Credit; a session that
opens for the note starts both from 0 (log 18). -/
def State.takeStacked (s : State) (channel k : Nat) : State :=
  if k ≤ 7 then
    let before := if s.credit.session.state = .idle then s.openCash else s
    let after := before.takeCash .note (s.noteEntry k).value
    after.raise .noteEvent (some channel)
      [2, k, after.credit.session.noteIn - before.credit.session.noteIn, after.credit.carried - before.credit.carried]
  else s.raise .noteEvent (some channel) [2, k, 0, 0]

/-- A RETURNED report (R27). -/
def State.takeReturned (s : State) (channel k : Nat) : State := s.raise .noteEvent (some channel) [3, k]

/-! ### Cards (R30, R31) -/

/-- Settlements outstanding: the list and a SETTLE in the reader's slot (R30). -/
def State.outstanding (s : State) (channel : Nat) : Nat :=
  s.credit.settlements.length + match (s.channel channel).slot with
    | some (.settle _) => 1
    | _ => 0

/-- Whether an APPROVED report opens a CARD session (R30). -/
def State.approvable (s : State) (channel limit : Nat) : Bool :=
  s.tables.mode = .sales && s.credit.session.state = .idle && s.credit.carried = 0
    && s.outstanding channel < Config.settlementMax && 1 ≤ min limit s.credit.policy.maxCredit

/-- An APPROVED report (R30). -/
def State.takeApproved (s : State) (channel limit : Nat) : State :=
  if s.approvable channel limit then
    let stored := min limit s.credit.policy.maxCredit
    (s.openCard channel stored).raise .cardEvent (some channel) [1, limit, stored]
  else (s.modCredit fun c => { c with deny := true }).raise .cardEvent (some channel) [1, limit, 0]

/-- Whether a CANCEL report closes the session (R31). -/
def State.cancels (s : State) (channel : Nat) : Bool :=
  s.credit.session.state = .opened && s.credit.session.funding = .card
    && match s.credit.session.card with
      | some c => c.channel = channel
      | none => false

/-- A CANCEL report; CARD_EVENT is raised before the close (R31; log 26). -/
def State.takeCancel (s : State) (channel : Nat) : Doing :=
  (s.raise .cardEvent (some channel) [2, boolCode (s.cancels channel)],
   if s.cancels channel then [.closeRequest] else [])

/-- The payload bytes of an event report that are read: the event number, and the note index or the limit (R140). -/
def reportSize (kind : Byte) : Nat := if kind = Kind.approved then 3 else if kind = Kind.cancel then 1 else 2

/-- A peripheral event handed on (R142). A byte the report does not carry is a free value (log 11). -/
def State.takeReport (s : State) (channel : Nat) (kind : Byte) (payload : List Byte) : Doing :=
  let b := fun i => (replyByte s.draws payload i).toNat
  let s := if payload.length < reportSize kind then s.draw else s
  if kind = Kind.escrow then (s.takeEscrow channel (b 1), [])
  else if kind = Kind.stacked then (s.takeStacked channel (b 1), [])
  else if kind = Kind.returned then (s.takeReturned channel (b 1), [])
  else if kind = Kind.approved then (s.takeApproved channel (b 1 * 256 + b 2), [])
  else if kind = Kind.cancel then s.takeCancel channel
  else (s, [])

/-! ### What the end of a command does (R28, R29, R38; log 4) -/

/-- The values of CREDIT_CHANGED (R38). -/
def State.creditValues (s : State) : List Nat :=
  [s.credit.session.state.code, s.credit.session.funding.code, s.credit.session.cashCredit, s.credit.session.cardLeft,
   s.credit.carried]

/-- One CREDIT_CHANGED for the changes of the command (R38). -/
def State.reportCredit (s : State) : State :=
  if s.credit.changed then
    (s.raise .creditChanged none s.creditValues).modCredit fun c => { c with changed := false }
  else s

/-- The acceptance mask evaluated anew (R28). -/
def State.evaluateMask (s : State) : State :=
  match s.credit.maskLast with
  | some m => if m = s.maskFlags then s else s.modCredit fun c => { c with maskDue := true }
  | none => s

/-- The command of an escrow answer (R26). -/
def Escrow.command : Escrow → Command
  | .stack => .stack
  | .giveBack => .giveBack

/-- The note acceptor's hold: discarded, or its first command into the empty slot (R29). The second part says whether a
command entered. -/
def State.pumpNotes (s : State) : State × Bool :=
  match (s.roleChannel .noteAcceptor).filter fun c => (s.channel c).isLive with
  | none => (s.modCredit fun c => { c with answer := none }, false)
  | some ch =>
    if (s.channel ch).slot.isSome then (s, false)
    else
      match s.credit.answer with
      | some a => ((s.fillSlot ch a.command).modCredit fun c => { c with answer := none }, true)
      | none =>
        if s.credit.maskDue then
          ((s.fillSlot ch (.acceptMask s.maskFlags)).modCredit fun c =>
            { c with maskDue := false, maskLast := some s.maskFlags }, true)
        else (s, false)

/-- The card reader's hold: a DENY discarded, or into the empty slot (R29). -/
def State.pumpCards (s : State) : State × Bool :=
  if s.credit.deny then
    match (s.roleChannel .cardReader).filter fun c => (s.channel c).isLive with
    | none => (s.modCredit fun c => { c with deny := false }, false)
    | some ch =>
      if (s.channel ch).slot.isSome then (s, false)
      else ((s.fillSlot ch .deny).modCredit fun c => { c with deny := false }, true)
  else (s, false)

/-! ### A soft restart (R39) -/

/-- The session ended by a restart: cash to Carried Credit, a card settlement appended, both holds cleared (R39). -/
def CreditUnit.restart (c : CreditUnit) (slotSettlements : List Settlement) : CreditUnit :=
  { c with
    carried := if c.session.funding = .cash then stopAt Config.moneyMax c.carried c.session.cashCredit else c.carried
    settlements := c.settlements ++ slotSettlements ++ match c.session.card with
      | some k => [c.session.settlement k]
      | none => []
    session := .reset
    answer := none
    maskDue := false
    deny := false
    changed := false }

end Sys2Proof.Machine
end

