-- ==== Sys2Proof/Machine/Change.lean ====
section
/-! DEFINITION. The Tube Inventory (01, section 1.8) and the Change Engine (03): tube records, assurance evaluations, the
coin sequencer (R15 to R18, R45 to R60). -/

namespace Sys2Proof.Machine

/-! ### Assurance (R45 to R48) -/

/-- What an evaluation that starts now takes (R46). -/
def State.evalInput (s : State) : EvalInput :=
  { order := s.searchOrder, baseUnit := s.credit.policy.baseUnit, limit := s.credit.policy.assuranceLimit }

/-- The result of an evaluation stored, with its notice (R48). -/
def State.storeAssurance (s : State) (found : Option Nat) : State :=
  let short := found.getD 0
  let s1 := s.modChange fun c => { c with assured := found.isNone, short := short }
  if s.change.assured = found.isNone then s1 else s1.raise .exactChange none [boolCode found.isNone, short]

/-- An evaluation starts; with an Assurance Limit of 0 it completes at once (R46; log 16). -/
def State.startEvaluation (s : State) : State :=
  if s.evalInput.limit = 0 then (s.modChange fun c => { c with evaluating := none }).storeAssurance none
  else s.modChange fun c => { c with evaluating := some s.evalInput }

/-- A trigger of an evaluation (R46, R47). -/
def State.triggerAssurance (s : State) : State :=
  if s.change.evaluating.isSome then s.modChange fun c => { c with rerun := true } else s.startEvaluation

/-- The running evaluation `e` completes (R47, R48). -/
def State.completeEvaluation (s : State) (e : EvalInput) : State :=
  let s := (s.storeAssurance e.shortAmount).modChange fun c => { c with evaluating := none }
  if s.change.rerun then (s.modChange fun c => { c with rerun := false }).startEvaluation else s

/-! ### The Tube records (R15) -/

/-- The state of a tube derived anew; `clears` for a TUBE_SET or an assignment commit (R15). -/
def Tube.derive (t : Tube) (clears : Bool) : Tube :=
  { t with
    state :=
      if t.entry.isNone then .absent
      else if t.state = .jammed ∧ !clears then .jammed
      else if t.count = 0 then .empty
      else if t.count ≤ t.lowMark then .low
      else .normal }

/-- A Tube record replaced; a change of its count or state triggers an evaluation (R15; log 15). -/
def State.setTube (s : State) (n : Nat) (t : Tube) : State :=
  let s1 := s.modTubes (editAt (fun _ => t) (n - 1))
  if (s.tube n).count = t.count ∧ (s.tube n).state = t.state then s1 else s1.triggerAssurance

/-- A coin confirmed into a tube (R9, R15). -/
def State.coinIntoTube (s : State) (n : Nat) : State :=
  let t := s.tube n
  s.setTube n ({ t with count := if t.count < t.capacity then t.count + 1 else t.count }.derive false)

/-- A coin of a tube confirmed at the payout exit (R53, R59, R15). -/
def State.coinOutOfTube (s : State) (n : Nat) : State :=
  let t := s.tube n
  s.setTube n ({ t with count := t.count - 1 }.derive false)

/-- A tube that failed to deliver becomes JAMMED (R54). -/
def State.jamTube (s : State) (n : Nat) : State :=
  let t := s.tube n
  s.setTube n { t with state := .jammed, jamCount := stopAt 255 t.jamCount 1 }

/-- The count a change of reading corrects to, if it corrects (R16). -/
def Tube.correction (t : Tube) (covered : Bool) : Option Nat :=
  if t.state = .absent then none
  else if covered then
    if t.count ≤ t.lowMark then some (min (t.lowMark + 1) t.capacity) else none
  else if t.lowMark < t.count then some t.lowMark else none

/-- A change of a low sensor's reading (R16). -/
def State.takeLowSensor (s : State) (n : Nat) (covered : Bool) : State :=
  let t := s.tube n
  match t.correction covered with
  | some c =>
    (s.setTube n ({ t with covered := covered, count := c }.derive false)).raise .tubeRecount (some n) [t.count, c]
  | none => s.modTubes (editAt (fun t => { t with covered := covered }) (n - 1))

/-- The record TUBE_SET stores (R17). -/
def Tube.counted (t : Tube) (count : Nat) : Tube := { t with count := min count t.capacity }.derive true

/-! ### The coin sequencer (R51 to R59) -/

/-- Whether a payout run or a dispense is in progress (R17, R51, R58). -/
def State.paying (s : State) : Bool := s.change.seq ≠ .idle

/-- A solenoid pulsed, with the wait that opens (R52, R54, R59). -/
def State.pulse (s : State) (tube : Nat) (wait : SeqState) : State :=
  s.modChange fun c => { c with seq := wait, pulses := editAt (· + 1) (tube - 1) c.pulses }

/-- A change of job and sequencer state. -/
def State.setJob (s : State) (q : SeqState) (j : Option Job) : State := s.modChange fun c => { c with seq := q, job := j }

/-- The end of a payout run, its claim released first (R56). -/
def endRun : List Act := [.release .payout .change, .runEnded]

/-- The end of a dispense, its claim released first (R59). -/
def endDispense : List Act := [.release .payout .change, .dispenseEnded]

/-- The change due is handed over (R51). -/
def State.takeHandOver (s : State) (amount : Nat) : Doing :=
  match s.change.seq with
  | .idle => (s, [.startRun amount])
  | .deferred | .claimWait | .firstWait _ _ | .secondWait _ _ =>
    (s.modChange fun c => { c with deferred := some amount }, [])

/-- A payout run begins (R51). -/
def State.beginRun (s : State) (amount : Nat) : Doing :=
  let plan := planFor s.searchOrder amount
  (s.setJob .claimWait (some (.payout amount amount plan)), if plan.isEmpty then endRun else [.place .payout .change])

/-- Whether a plan line is stale (R52). -/
def State.stale (s : State) (l : PlanLine) : Bool :=
  let t := s.tube l.tube
  t.state = .jammed || t.state = .absent || s.tubeValue t ≠ l.value || t.usable < l.coins

/-- The plan that is paid from: the plan in hand, or a new one where its first line is stale (R52). -/
def State.freshPlan (s : State) (remaining : Nat) (plan : List PlanLine) : List PlanLine :=
  match plan with
  | [] => []
  | l :: _ => if s.stale l then planFor s.searchOrder remaining else plan

/-- Whether the tube of a dispense lets no further pulse be given: it is ABSENT or JAMMED (R59). -/
def State.dispenseBlocked (s : State) : Bool :=
  match s.change.job with
  | some (.dispense tube _) => (s.tube tube).state = .absent || (s.tube tube).state = .jammed
  | some (.payout _ _ _) | none => false

/-- The next coin of the job (R52, R59). -/
def State.payNext (s : State) : Doing :=
  match s.change.job with
  | none => (s, [.release .payout .change])
  | some (.payout due remaining plan) =>
    let plan := s.freshPlan remaining plan
    match plan with
    | [] => (s.setJob s.change.seq (some (.payout due remaining [])), endRun)
    | l :: _ =>
      ((s.setJob s.change.seq (some (.payout due remaining plan))).pulse l.tube (.firstWait l.tube s.now), [])
  | some (.dispense tube _) =>
    if s.dispenseBlocked then (s, endDispense)
    else (s.pulse tube (.firstWait tube s.now), [])

/-- A plan with one coin of its first line paid (R53, step 2). -/
def payOne : List PlanLine → List PlanLine
  | [] => []
  | l :: ls => if l.coins ≤ 1 then ls else { l with coins := l.coins - 1 } :: ls

/-- A coin of the current tube confirmed (R53, R59). -/
def State.confirmPaid (s : State) (tube : Nat) : Doing :=
  let s1 := s.coinOutOfTube tube
  match s.change.job with
  | none => (s1.setJob .idle none, [])
  | some (.payout due remaining plan) =>
    let value := (plan.head?.map PlanLine.value).getD 0
    let plan := payOne plan
    let remaining := remaining - value
    ((s1.setJob .claimWait (some (.payout due remaining plan))).payBack value,
     if remaining = 0 ∨ plan.isEmpty then endRun else [.nextCoin])
  | some (.dispense t coins) =>
    (s1.setJob .claimWait (some (.dispense t (coins - 1))), if coins ≤ 1 then endDispense else [.nextCoin])

/-- The tube has failed to deliver to two pulses (R54). -/
def State.tubeFails (s : State) (tube : Nat) : Doing :=
  let s1 := s.jamTube tube
  let jams := (s1.tube tube).jamCount
  match s.change.job with
  | none => ((s1.raise .tubeJam (some tube) [jams, 0]).setJob .idle none, [])
  | some (.payout due remaining _) =>
    let s1 := s1.raise .tubeJam (some tube) [jams, remaining]
    let plan := planFor s1.searchOrder remaining
    (s1.setJob .claimWait (some (.payout due remaining plan)), if plan.isEmpty then endRun else [.nextCoin])
  | some (.dispense t coins) =>
    ((s1.raise .tubeJam (some tube) [jams, 0]).setJob .claimWait (some (.dispense t coins)), endDispense)

/-- A payout run has ended, its claim released (R56, steps 2 to 4). -/
def State.closeRun (s : State) : Doing :=
  match s.change.job with
  | some (.payout due remaining _) =>
    let s := if remaining = 0 then s else s.raise .changeShort none [remaining, due]
    (s.setJob .idle none, [.closeCash remaining])
  | _ => (s, [])

/-- A dispense has ended, its claim released (R59, R51). -/
def State.closeDispense (s : State) : Doing :=
  match s.change.deferred with
  | some amount =>
    ((s.setJob .deferred none).modChange fun c => { c with deferred := none }, [.startRun amount])
  | none => (s.setJob .idle none, [])

/-- A soft restart stops the sequencer and abandons the running evaluation (R49, R60). -/
def ChangeUnit.restart (c : ChangeUnit) : ChangeUnit :=
  { c with evaluating := none, rerun := false, seq := .idle, job := none, deferred := none }

end Sys2Proof.Machine
end

