-- ==== Sys2Proof/Machine/Plant.lean ====
section
/-! DEFINITION. The Refrigeration Controller (06): sensors and curves, the thermostat, the compressor, the defrost, Exposure
and the cold lockout (R96 to R118). -/

namespace Sys2Proof.Machine

/-! ### Sensors (R96, R97, R98) -/

/-- What kind of sample a count is; none for a good one (R96). -/
def sampleFault (count : Nat) : Option SensorFault :=
  if count < 16 then some .short else if 4079 < count then some .opened else none

/-- The eight points of a sensor's curve; CAB 0, COIL 1, COND 2 (06, section 6.2). -/
def curveOf (table : List CurvePoint) (sensor : Nat) : List CurvePoint := (table.drop (8 * sensor)).take 8

/-- The temperature of a count in a segment (R98, stages 1 to 3). -/
def onSegment (p q : CurvePoint) (c : Nat) : Int :=
  p.temp + (((c : Int) - p.count) * (q.temp - p.temp)).tdiv ((q.count : Int) - p.count)

/-- The first segment whose end counts take the count; past the last point that point's temperature (R98). -/
def walkCurve : List CurvePoint → Nat → Int
  | [], _ => 0
  | [p], _ => p.temp
  | p :: q :: rest, c => if p.count ≤ c ∧ c ≤ q.count then onSegment p q c else walkCurve (q :: rest) c

/-- A good count converted through a curve (R98). -/
def convert (curve : List CurvePoint) (c : Nat) : Int :=
  match curve with
  | [] => 0
  | p :: _ => if c < p.count then p.temp else walkCurve curve c

/-- The temperature of a curve's point 0. -/
def pointZero (curve : List CurvePoint) : Int := (curve.head?.map CurvePoint.temp).getD 0

/-- A sensor record after a sample (R96, R97). -/
def Sensor.sampled (x : Sensor) (curve : List CurvePoint) (count : Nat) : Sensor :=
  match sampleFault count with
  | none => { state := .valid, temp := some (convert curve count), badRun := 0, lastFault := none }
  | some f =>
    let run := stopAt Config.badRunMax x.badRun 1
    { state := if x.state = .failed ∨ run = Config.badRunMax then .failed else .holding
      temp := some (x.temp.getD (pointZero curve))
      badRun := run
      lastFault := some f }

/-- The values of the SENSOR_FAILED notice a sample raises (R96, R97). -/
def sensorNotice (before after : Sensor) : Option (List Nat) :=
  let t := signed16 (after.temp.getD 0)
  if before.state = .failed ∧ after.state = .valid then some [0, t]
  else if before.state ≠ .failed ∧ after.state = .failed then
    some [1, (after.lastFault.map SensorFault.code).getD 0, t]
  else none

/-- The SENSOR_FAILED notice of a sensor, if its sample raises one. -/
def State.raiseSensor (s : State) (sensor : Nat) (before after : Sensor) : State :=
  match sensorNotice before after with
  | some vs => s.raise .sensorFailed (some sensor) vs
  | none => s

/-! ### Demand (R101, R107) -/

/-- Demand when CAB becomes FAILED: fallback duty takes over (R107; log 24). -/
def PlantUnit.fallbackBegins (p : PlantUnit) (now : Nat) : PlantUnit :=
  { p with demand := if p.resting then p.cooling.fallbackOff * 1000 ≤ now - p.offSince else true }

/-- The three samples of one second stored (R96, R97). -/
def PlantUnit.sampled (p : PlantUnit) (now cab coil cond : Nat) : PlantUnit :=
  let p1 := { p with
    cab := p.cab.sampled (curveOf p.curve 0) cab
    coil := p.coil.sampled (curveOf p.curve 1) coil
    cond := p.cond.sampled (curveOf p.curve 2) cond
    sampleAt := p.sampleAt + Config.sampleSpacing }
  if p.cab.state ≠ .failed ∧ p1.cab.state = .failed then p1.fallbackBegins now else p1

/-- Whether the compressor may start: no defrost, and the condenser limit does not apply (R102). -/
def PlantUnit.mayStart (p : PlantUnit) : Bool := p.defrost = .idle && !p.limitApplies

/-- A change of the compressor's state. -/
def State.setCompressor (s : State) (c : Compressor) : State := s.modPlant fun p => { p with compressor := c }

/-- A test of demand and what it does to a compressor in OFF_READY or START_WAIT (R101 to R103). -/
def State.testDemand (s : State) : Doing :=
  let s := s.modPlant fun p => { p with demand := p.demandNow s.now }
  match s.plant.compressor with
  | .offReady =>
    if s.plant.demand && s.plant.mayStart then (s.setCompressor .startWait, [.place .compressorStart .plant]) else (s, [])
  | .startWait =>
    if s.plant.demand then (s, []) else (s.setCompressor .offReady, [.withdraw .compressorStart .plant])
  | .offMin | .starting _ | .running _ | .protecting => (s, [])

/-! ### Stops (R105, R106) -/

/-- The relay goes off: the run is added to the run-time total, and demand under fallback duty lapses (R105, R107). -/
def PlantUnit.halt (p : PlantUnit) (now : Nat) (c : Compressor) : PlantUnit :=
  { p with
    compressor := c
    offSince := now
    runMs := p.runTotal now
    demand := if p.cab.state = .failed then false else p.demand }

/-- The stop test of a compressor in RUNNING (R105). -/
def State.testStop (s : State) : Doing :=
  match s.plant.compressor with
  | .running _ =>
    if s.plant.stops s.now then
      (s.modPlant fun p => p.halt s.now .offMin, [.release .compressorRun .plant, .defrostProceeds])
    else (s, [])
  | .offMin | .offReady | .startWait | .starting _ | .protecting => (s, [])

/-- The COND working temperature as a notice carries it. -/
def PlantUnit.condValue (p : PlantUnit) : Nat := signed16 (p.cond.temp.getD 0)

/-- The condenser limit tested (R106). A defrost that was DUE finds the compressor off (R108, R109; log 22). -/
def State.testCondenser (s : State) : Doing :=
  if s.plant.limitApplies then
    let entered : Act := .notice .compressorProtect none [1, s.plant.condValue]
    match s.plant.compressor with
    | .starting _ =>
      (s.modPlant fun p => p.halt s.now .protecting, [.release .compressorStart .plant, entered, .defrostProceeds])
    | .running _ =>
      (s.modPlant fun p => p.halt s.now .protecting, [.release .compressorRun .plant, entered, .defrostProceeds])
    | .startWait => (s.setCompressor .protecting, [.withdraw .compressorStart .plant, entered])
    | .offMin | .offReady => (s.setCompressor .protecting, [entered])
    | .protecting => (s, [])
  else (s, [])

/-- Whether a COND sample lets the compressor leave PROTECT (R106). -/
def PlantUnit.leavesProtect (p : PlantUnit) : Bool :=
  p.compressor = .protecting && p.cond.state = .valid && match p.cond.temp with
    | some t => t ≤ p.cooling.condReset
    | none => false

/-- The compressor leaves PROTECT at a COND sample (R106): a stop, at which demand under fallback duty lapses (R102,
R107). -/
def State.testProtect (s : State) : Doing :=
  if s.plant.leavesProtect then
    ((s.modPlant fun p =>
        { p with
          compressor := .offMin, offSince := s.now
          demand := if p.cab.state = .failed then false else p.demand }).raise .compressorProtect none
      [0, s.plant.condValue], [])
  else (s, [])

/-- The grant of the start claim (R104). A grant that finds no START_WAIT is given back (log 28). -/
def State.startGranted (s : State) : Doing :=
  match s.plant.compressor with
  | .startWait => (s.setCompressor (.starting s.now), [])
  | .offMin | .offReady | .starting _ | .running _ | .protecting => (s, [.release .compressorStart .plant])

/-! ### Defrost (R108 to R112) -/

/-- A change of the defrost's state. -/
def State.setDefrost (s : State) (d : Defrost) : State := s.modPlant fun p => { p with defrost := d }

/-- A defrost that is DUE proceeds to CLAIMING with the relay off (R108, R109). -/
def State.proceedDefrost (s : State) : Doing :=
  match s.plant.defrost with
  | .due c => if s.plant.relay then (s, []) else (s.setDefrost (.claiming c), [.place .defrost .plant])
  | .idle | .claiming _ | .heating _ _ | .suspended _ | .drip _ _ => (s, [])

/-- The defrost becomes DUE (R108). -/
def State.makeDue (s : State) (c : DefrostCause) : Doing :=
  match s.plant.defrost with
  | .idle =>
    let s := (s.setDefrost (.due c)).raise .defrost none [1, c.code]
    match s.plant.compressor with
    | .startWait => (s.setCompressor .offReady, [.withdraw .compressorStart .plant, .defrostProceeds])
    | .offMin | .offReady | .protecting => (s, [.defrostProceeds])
    | .running _ => (s, [.stopTest])
    | .starting _ => (s, [])
  | .due _ | .claiming _ | .heating _ _ | .suspended _ | .drip _ _ => (s, [])

/-- The DEFROST claim is granted (R109, R111). A grant that nothing awaits is given back (log 28). -/
def State.defrostGranted (s : State) : Doing :=
  match s.plant.defrost with
  | .claiming c | .suspended c => (s.setDefrost (.heating c s.now), [.defrostTest])
  | .idle | .due _ | .heating _ _ | .drip _ _ => (s, [.release .defrost .plant])

/-- The cause of a defrost in HEATING or SUSPENDED. -/
def Defrost.meltCause : Defrost → Option DefrostCause
  | .heating c _ | .suspended c => some c
  | .idle | .due _ | .claiming _ | .drip _ _ => none

/-- Heating ends, with the reason 1 for COIL and 2 for MAX, from HEATING or SUSPENDED (R110, R111). -/
def State.endHeating (s : State) (reason : Nat) : Doing :=
  match s.plant.defrost.meltCause with
  | some c =>
    let heated := s.plant.heatingMs s.now
    (s.modPlant fun p => { p with defrost := .drip c s.now, heatMs := heated },
     [.release .defrost .plant, .dripEntered reason (heated / 1000)])
  | none => (s, [])

/-- Whether the COIL end is met (R110). -/
def PlantUnit.coilEnd (p : PlantUnit) : Bool :=
  match p.coil.reading with
  | some t => p.cooling.defrostEnd ≤ t
  | none => false

/-- The defrost end test (R110, R111). -/
def State.testDefrost (s : State) : Doing := if s.plant.coilEnd then s.endHeating 1 else (s, [])

/-- DRIP has been entered (R110, R112). -/
def State.beginDrip (s : State) (reason heated : Nat) : Doing :=
  (s.raise .defrost none [2, reason, heated], if s.plant.cooling.drip = 0 then [.dripDone] else [])

/-- The drip time has reached Drip (R112). -/
def State.endDrip (s : State) : Doing :=
  match s.plant.defrost with
  | .drip _ _ =>
    ((s.modPlant fun p => { p with runMs := 0, heatMs := 0, defrost := .idle }).raise .defrost none [3], [.demandTest])
  | .idle | .due _ | .claiming _ | .heating _ _ | .suspended _ => (s, [])

/-! ### Exposure and the cold lockout (R114, R115, R116) -/

/-- Exposure after a step (R114). An absent CAB temperature holds it, as FAILED does (log 13). -/
def PlantUnit.stepExposure (p : PlantUnit) : Nat :=
  match p.defrost, p.cab.reading with
  | .heating _ _, _ | .drip _ _, _ => p.exposure
  | .idle, none | .due _, none | .claiming _, none | .suspended _, none => p.exposure
  | .idle, some t | .due _, some t | .claiming _, some t | .suspended _, some t =>
    if p.cooling.safeLimit < t then stopAt 65535 p.exposure (t - p.cooling.safeLimit).toNat
    else p.exposure - p.cooling.recovery

/-- Whether the lockout is released after a step (R115). -/
def PlantUnit.unlocks (p : PlantUnit) : Bool :=
  p.lockout && p.exposure = 0 && p.cab.state = .valid && match p.cab.temp with
    | some t => t ≤ p.cooling.safeLimit
    | none => false

/-- The cold lockout becomes active (R115, R74). -/
def State.activateLockout (s : State) (cause : Nat) : Doing :=
  if s.plant.lockout then (s, [])
  else
    let s := (s.modPlant fun p => { p with lockout := true }).raise .coldLockout none [1, s.plant.exposure, cause]
    (s, [.reprice, s.holdChilled])

/-- The activation test on Exposure (R115). -/
def State.testExposure (s : State) : Doing :=
  if s.plant.cooling.lockoutThreshold ≤ s.plant.exposure then s.activateLockout 1 else (s, [])

/-- The values of a TEMPERATURE notice (R116). -/
def PlantUnit.temperatures (p : PlantUnit) : List Nat :=
  [signed16 (p.cab.shown p.curve 0), signed16 (p.coil.shown p.curve 8), signed16 (p.cond.shown p.curve 16), p.exposure]

/-- An Exposure step with its lockout tests and its notice (R114, R115, R116). -/
def State.takeStep (s : State) : Doing :=
  let s := s.modPlant fun p => { p with exposure := p.stepExposure, stepAt := p.stepAt + Config.exposureSpacing }
  let log : Act := .notice .temperature none s.plant.temperatures
  if s.plant.unlocks then
    ((s.modPlant fun p => { p with lockout := false }).raise .coldLockout none [0, s.plant.exposure, 0], [.reprice, log])
  else (s, [.exposureTest, log])

/-! ### Samples (R96) -/

/-- The acts of one second's samples, the records stored: the lockout for a CAB that has become FAILED, the thermostat, the
defrost end, the condenser (R96; log 23). -/
def sampleActs (cabFailed : Bool) : List Act :=
  (if cabFailed then [.lockOut 2] else []) ++ [.demandTest, .stopTest, .defrostTest, .condenserTest, .protectTest]

/-- The three samples of one second taken together (R96). -/
def State.takeSamples (s : State) (cab coil cond : Nat) : Doing :=
  let p := s.plant
  let s := s.modPlant fun p => p.sampled s.now cab coil cond
  let s := ((s.raiseSensor 0 p.cab s.plant.cab).raiseSensor 1 p.coil s.plant.coil).raiseSensor 2 p.cond s.plant.cond
  (s, sampleActs (p.cab.state ≠ .failed ∧ s.plant.cab.state = .failed))

/-! ### A commit of the Cooling Table (R100) -/

/-- The acts with which the defrost intervals that are over under the new table end (R100, R108, R110 to R112). -/
def PlantUnit.defrostOver (p : PlantUnit) (now wasInterval : Nat) : List Act :=
  match p.defrost with
  | .idle =>
    if p.cooling.defrostInterval < wasInterval ∧ p.cooling.defrostInterval * 1000 ≤ p.runTotal now then
      [.defrostDue .interval]
    else []
  | .drip _ since => if p.cooling.drip * 1000 ≤ now - since then [.dripDone] else []
  | .due _ | .claiming _ | .heating _ _ | .suspended _ => []

/-- The intervals that are over under the new table end with the effect their rule gives (R100). Min Run and the fallback
intervals are read by the stop test and the demand test that follow. -/
def State.endIntervals (s : State) (wasInterval : Nat) : Doing :=
  let ended := s.plant.defrostOver s.now wasInterval
  match s.plant.compressor, s.plant.defrost with
  | .starting since, _ =>
    if s.plant.cooling.startWindow * 1000 ≤ s.now - since then
      let (s, acts) := (s.setCompressor (.running since)).shrinkStart
      (s, acts ++ ended)
    else (s, ended)
  | c, d =>
    let s :=
      if c = .offMin ∧ s.plant.cooling.minOff * 1000 ≤ s.now - s.plant.offSince then s.setCompressor .offReady else s
    if d.meltCause.isSome ∧ s.plant.cooling.defrostMax * 1000 ≤ s.plant.heatingMs s.now then s.endHeating 2
    else (s, ended)

/-- The tests that follow a commit of the Cooling Table (R100). -/
def coolingActs (wasInterval : Nat) : List Act :=
  [.intervalsEnd wasInterval, .demandTest, .stopTest, .defrostTest, .condenserTest, .exposureTest]

/-! ### A soft restart (R117) -/

/-- A soft restart of the plant (R117). -/
def PlantUnit.restart (p : PlantUnit) (now : Nat) : PlantUnit :=
  { p.halt now .offMin with defrost := .idle, heatMs := 0 }

end Sys2Proof.Machine
end

