-- ==== Sys2Proof/Machine/Bridge.lean ====
section
/-! DEFINITION. The Peripheral Bridge (08): host frames, the bus scheduler, replies and timeouts, events, a stuck line
(R128 to R146). -/

namespace Sys2Proof.Machine

/-! ### Frames on the bus (R140) -/

/-- The kind and payload of a part-originated command (R140). -/
def Command.wire : Command → Byte × List Byte
  | .stack => (Kind.stack, [])
  | .giveBack => (Kind.giveBack, [])
  | .deny => (Kind.deny, [])
  | .settle r => (Kind.settle, u16 r.amount ++ u8 r.vends :: u24 r.openedAt)
  | .acceptMask flags => (Kind.acceptMask, [flags])

/-- Work a channel has: its kind, and the kind code and payload of its frame (R134, R135). -/
structure WorkItem where
  work : Work
  kind : Byte
  payload : List Byte
deriving DecidableEq, Repr

/-- The interval between the PROBEs of a channel in PROBING or LOST (R130). -/
def ChannelState.probeInterval : ChannelState → Option Nat
  | .probing => some Config.probingInterval
  | .lost => some Config.lostInterval
  | .disabled | .ready | .await _ | .suspect => none

/-- Whether a channel may be served with its slot, its queue or a POLL: READY or SUSPECT, with no transaction on the bus
(R134). -/
def Channel.serves (c : Channel) : Bool :=
  match c.state with
  | .ready | .suspect => true
  | .disabled | .probing | .await _ | .lost => false

/-- The moment a channel's POLL falls due (R134). -/
def Channel.pollAt (c : Channel) : Nat := c.lastActivity + c.cfg.pollInterval * Config.pollUnit

/-- A channel's work (R134). -/
def Channel.work (c : Channel) (now : Nat) : Option WorkItem :=
  if c.serves then
    match c.slot, c.queue with
    | some x, _ => some { work := .internal, kind := x.wire.1, payload := x.wire.2 }
    | none, f :: _ => some { work := .host, kind := f.kind, payload := f.payload }
    | none, [] =>
      if c.pollAt ≤ now then some { work := .poll, kind := Kind.poll, payload := c.lastEvent.toList } else none
  else
    match c.state.probeInterval with
    | some d => if c.lastProbe + d ≤ now then some { work := .probe, kind := Kind.probe, payload := [] } else none
    | none => none

/-- The channels in the order the scheduler examines them (R134). -/
def servingOrder (lastServed : Nat) : List Nat := (List.range 4).map fun i => (lastServed + 1 + i) % 4

/-- The first work the scheduler finds (R134). -/
def State.nextWork (s : State) : Option (Nat × WorkItem) :=
  (servingOrder s.bridge.lastServed).findSome? fun n => ((s.channel n).work s.now).map fun j => (n, j)

/-- A new bus sequence: a free value that differs from the channel's last sequence (R135; log 10). -/
def freshSequence (last : Byte) (draws : Nat) : Byte := last + 1 + u8 (Config.freeSequence draws % 255)

/-- The state of a channel whose transaction has started (R130, R135). -/
def ChannelState.started : ChannelState → ChannelState
  | .ready => .await .ready
  | .suspect => .await .suspect
  | .disabled => .disabled
  | .probing => .probing
  | .await x => .await x
  | .lost => .lost

/-- The milliseconds a frame with this many payload bytes takes on the bus, rounded up (R128; log 35). -/
def airtime (payload : Nat) : Nat :=
  ((payload + Config.frameOverhead) * Config.busBits * 1000 + (Config.busBaud - 1)) / Config.busBaud

/-- A transaction started (R135). DE is asserted now and released when the frame has been sent. -/
def State.startWork (s : State) (n : Nat) (j : WorkItem) : State :=
  let c := s.channel n
  let seq := freshSequence c.lastSeq s.draws
  let node := u8 c.cfg.node
  ((s.modChannel n fun c => { c with state := c.state.started, lastSeq := seq }).modBridge fun b =>
    { b with
      line := .waiting
        { channel := n, work := j.work, node := node, seq := seq, sentAt := s.now + airtime j.payload.length }
      lastServed := n
      sent := b.sent ++ [{ node := node, kind := j.kind, seq := seq, payload := j.payload }] }).draw

/-- The scheduler looks for work while the line is IDLE (R134). -/
def State.lookForWork (s : State) : State :=
  match s.bridge.line with
  | .idle =>
    match s.nextWork with
    | some (n, j) => s.startWork n j
    | none => s
  | .guarding _ | .waiting _ | .recovery _ => s

/-! ### What the host receives (R133) -/

/-- A host frame has failed (R133). -/
def State.failHost (s : State) (n : Nat) (f : HostFrame) (why : Reason) : State :=
  if (s.channel n).cfg.early then
    s.raise .peripheralTimeout (some n) [f.kind.toNat, f.seq.toNat, why.code]
  else s.transmit (replyFrame f.hostNode f.seq 1 why.code [])

/-- A host frame has its peripheral's reply (R133, R151). -/
def State.answerHost (s : State) (n : Nat) (f : HostFrame) (r : Frame) : State :=
  if (s.channel n).cfg.early then
    s.raise .peripheralReply (some n)
      [r.kind.toNat, f.seq.toNat, r.payload.length, wordAt r.payload 0, wordAt r.payload 2, wordAt r.payload 4]
  else s.transmit (replyFrame f.hostNode f.seq 0 0 (r.kind :: r.payload.take Config.deferredBytes))

/-- The frame at the head of a channel's queue leaves it and frees its block (R131). -/
def State.dequeue (s : State) (n : Nat) : State := s.modChannel n fun c => { c with queue := c.queue.tail }

/-- The host frame on the bus fails (R144). -/
def State.failHead (s : State) (n : Nat) : State :=
  match (s.channel n).queue.head? with
  | some f => (s.dequeue n).failHost n f .timeout
  | none => s

/-- Host frames fail one after another (R138, R145). -/
def State.failAll (s : State) (n : Nat) (why : Reason) : List HostFrame → State
  | [] => s
  | f :: fs => (s.failHost n f why).failAll n why fs

/-! ### A missed transaction (R137, R138) -/

/-- The outcome of a slot at LOST: 0 empty, 1 a SETTLE handed back, 2 a command dropped (R138). -/
def slotOutcome : Option Command → Nat
  | none => 0
  | some (.settle _) => 1
  | some .stack | some .giveBack | some .deny | some (.acceptMask _) => 2

/-- The settlement a slot holds. -/
def slotSettlement : Option Command → List Settlement
  | some (.settle r) => [r]
  | some .stack | some .giveBack | some .deny | some (.acceptMask _) | none => []

/-- The hold of a channel's role is discarded: an escrow answer, or a DENY (R138, R144). -/
def CreditUnit.discardHold (c : CreditUnit) : Role → CreditUnit
  | .noteAcceptor => { c with answer := none }
  | .cardReader => { c with deny := false }
  | .passive => c

/-- A channel enters LOST (R138). -/
def State.loseChannel (s : State) (n : Nat) : State :=
  let c := s.channel n
  let s := s.modChannel n fun c => { c with state := .lost, queue := [], slot := none, lastProbe := s.now }
  let s := s.failAll n .channelLost c.queue
  let s := s.modCredit fun u => { u with settlements := u.settlements ++ slotSettlement c.slot }
  let s := s.modCredit fun u => u.discardHold c.cfg.role
  s.raise .channelLost (some n) [c.cfg.node, c.queue.length, slotOutcome c.slot]

/-- The channel of a missed transaction: its miss count and state (R137). The second part says that it enters LOST. -/
def Channel.missed (c : Channel) (now : Nat) : Channel × Bool :=
  let misses := stopAt 15 c.misses 1
  match c.state with
  | .await _ =>
    if c.cfg.missLimit ≤ misses then ({ c with misses := misses }, true)
    else ({ c with misses := misses, state := .suspect }, false)
  | .probing =>
    if c.cfg.missLimit ≤ misses then ({ c with misses := misses }, true)
    else ({ c with misses := misses, lastProbe := now }, false)
  | .lost => ({ c with lastProbe := now }, false)
  | .disabled | .ready | .suspect => (c, false)

/-- The line enters GUARD (R136, R137). -/
def State.enterGuard (s : State) : State := s.modBridge fun b => { b with line := .guarding s.now }

/-- The transaction on the bus has missed (R137): the channel changes state, then the work is finished. The host frame on the
bus is no part of the queue that a channel entering LOST fails (log 25). -/
def State.missWork (s : State) (t : Txn) : State :=
  let failing := if t.work = .host then (s.channel t.channel).queue.head? else none
  let s := if t.work = .host then s.dequeue t.channel else s
  let (c, lost) := (s.channel t.channel).missed s.now
  let s := s.modChannel t.channel fun _ => c
  let s := if lost then s.loseChannel t.channel else s
  (match failing with
   | some f => s.failHost t.channel f .timeout
   | none => s).enterGuard

/-! ### A good reply (R136, R139, R141, R142) -/

/-- Whether a channel becomes READY at a good reply (R130). -/
def ChannelState.comesUp : ChannelState → Bool
  | .await .suspect | .probing | .lost => true
  | .await .ready | .disabled | .ready | .suspect => false

/-- Whether a good reply is taken by R139. -/
def ChannelState.wasAway : ChannelState → Bool
  | .probing | .lost => true
  | .await _ | .disabled | .ready | .suspect => false

/-- The channel of a good reply (R136 steps 1 and 2, R139). To a PROBING or LOST channel it ends a PROBE, which is the channel's
last one (the running record of 08, section 8.2). -/
def Channel.answered (c : Channel) (now : Nat) : Channel :=
  match c.state with
  | .await _ => { c with state := .ready, misses := 0, lastActivity := now }
  | .probing | .lost => { c with state := .ready, misses := 0, lastEvent := none, lastActivity := now, lastProbe := now }
  | .disabled | .ready | .suspect => { c with lastActivity := now }

/-- The notice of a channel that comes up (R139). Bytes an IDENT does not carry are free values (log 11). -/
def State.raiseUp (s : State) (n : Nat) (r : Frame) : State :=
  let b := fun i => if r.kind = Kind.ident then (replyByte s.draws r.payload i).toNat else 0
  ((if r.kind = Kind.ident ∧ r.payload.length < 2 then s.draw else s).raise .channelUp (some n) [(s.channel n).cfg.node, b 0, b 1])

/-- The work of a transaction finished by its good reply (R136 step 3). -/
def State.finishWork (s : State) (t : Txn) (r : Frame) : State :=
  match t.work with
  | .internal => s.modChannel t.channel fun c => { c with slot := none }
  | .host =>
    match (s.channel t.channel).queue.head? with
    | some f => (s.dequeue t.channel).answerHost t.channel f r
    | none => s
  | .poll | .probe => s

/-- Whether the completion of a slot's command is told to the Credit Session Unit (R136 step 3, R143). -/
def slotTold : Option Command → Bool
  | some (.settle _) | some .deny => true
  | some .stack | some .giveBack | some (.acceptMask _) | none => false

/-- Whether an event of this kind goes to the Credit Session Unit from a channel of this role (R142). -/
def Role.hands : Role → Byte → Bool
  | .noteAcceptor, k => k = Kind.escrow || k = Kind.stacked || k = Kind.returned
  | .cardReader, k => k = Kind.approved || k = Kind.cancel
  | .passive, _ => false

/-- The reply read for money (R141, R142). A missing event number is a free value (log 11). -/
def State.readEvent (s : State) (n : Nat) (r : Frame) : Doing :=
  let c := s.channel n
  if c.cfg.role ≠ .passive ∧ eventKinds.contains r.kind then
    let number := replyByte s.draws r.payload 0
    let s := if r.payload.isEmpty then s.draw else s
    if c.lastEvent = some number then (s, [])
    else
      (s.modChannel n fun c => { c with lastEvent := some number },
       if c.cfg.role.hands r.kind then [.handOn n r.kind r.payload] else [])
  else (s, [])

/-- A good reply ends its transaction (R136). -/
def State.goodReply (s : State) (t : Txn) (r : Frame) : Doing :=
  let c := s.channel t.channel
  let s := s.modChannel t.channel fun c => c.answered s.now
  let s := if c.state.wasAway then s.raiseUp t.channel r else s
  let s := s.finishWork t r
  let (s, event) := s.readEvent t.channel r
  (s,
   (if c.state.comesUp then [.becameReady t.channel] else [])
     ++ (if t.work = .internal ∧ slotTold c.slot then [.moveSettlement t.channel] else [])
     ++ event ++ [.guardLine])

/-- A frame completed on the bus, judged against the transaction (R136). -/
def State.judgeBusFrame (s : State) (f : Frame) (check : Word) : Option Doing :=
  match s.bridge.line with
  | .waiting t =>
    if f.node ≠ t.node ∨ f.seq ≠ t.seq then none
    else if check = checkOf f then some (s.goodReply t f)
    else some (s.missWork t, [])
  | .idle | .guarding _ | .recovery _ => none

/-! ### Host frames to peripherals (R132) -/

/-- The enabled channel of an alias. -/
def State.aliasChannel (s : State) (node : Byte) : Option Nat :=
  (List.range 4).find? fun c => (s.channel c).cfg.hostNode ≠ 0 && (s.channel c).cfg.hostNode = node.toNat

/-- The refusal of a host frame to a channel (R132). -/
def Channel.refuses (c : Channel) (kind : Byte) : Option Reason :=
  if c.cfg.role ≠ .passive ∧ protectedKinds.contains kind then some .guarded
  else if c.state = .lost then some .channelLost
  else if c.cfg.allocation ≤ c.queue.length then some .queueFull
  else none

/-- A host frame taken into a block of its channel, with the REPLY of an early accept (R131, R133). -/
def State.queueFrame (s : State) (n : Nat) (node kind seq : Byte) (payload : List Byte) : State :=
  let f : HostFrame := { hostNode := node, kind := kind, seq := seq, payload := payload, queuedAt := s.now }
  let s := s.modChannel n fun c => { c with queue := c.queue ++ [f] }
  if (s.channel n).cfg.early then s.transmit (replyFrame node seq 0 0 []) else s

/-! ### A stuck line (R144) -/

/-- An enabled channel at a bus recovery or a soft restart: PROBING, its peripheral unknown (R144, R145). -/
def Channel.reprobe (c : Channel) (now : Nat) : Channel :=
  match c.state with
  | .disabled => c
  | .probing | .ready | .await _ | .suspect | .lost =>
    { c with state := .probing, misses := 0, lastEvent := none, lastProbe := now }

/-- What a bus recovery leaves in a slot (R144). -/
def keepSettle : Option Command → Option Command
  | some (.settle r) => some (.settle r)
  | some .stack | some .giveBack | some .deny | some (.acceptMask _) | none => none

/-- A channel at a bus recovery (R144 step 3). -/
def Channel.recovered (c : Channel) (now : Nat) : Channel :=
  match c.state with
  | .disabled => c
  | .probing | .ready | .await _ | .suspect | .lost => { c.reprobe now with slot := keepSettle c.slot }

/-- A transaction on the bus ends without a reply: a host frame fails with TIMEOUT (R144 step 1). The second part is the
channel, or 4 when none was on the bus. -/
def State.cutTransaction (s : State) : State × Nat :=
  match s.bridge.line with
  | .waiting t => (if t.work = .host then s.failHead t.channel else s, t.channel)
  | .idle | .guarding _ | .recovery _ => (s, 4)

/-- BUS_STUCK declared (R144). The break began 20 ms before (log 29). DESIGN CHOICE: R145 abandons a recovery and does not say
whether or when the watcher declares a break that goes on through the soft restart again; a BUS_STUCK is taken at any time after it,
and that break counts from 20 ms before that BUS_STUCK, not from its real beginning (log 53). DESIGN CHOICE: the same holds of a break
that begins after the release while the PRST pulse still runs; R144 calls it a new break, measured afresh, and does not say when it
is declared: its BUS_STUCK is taken only after the recovery, and its length counts from 20 ms before that (log 56). -/
def State.declareStuck (s : State) : State :=
  let channel := s.cutTransaction.2
  let s := s.cutTransaction.1.modBridge fun b =>
    { b with
      line := .recovery
        { breakFrom := s.now - Config.stuckBreak, prstFrom := s.now, releasedAt := none, pulsing := true }
      channels := b.channels.map fun c => c.recovered s.now }
  let s := s.modCredit fun c => { c with answer := none, deny := false }
  s.raise .busStuck none [1, channel]

/-- RECOVERY goes on, or ends when the pulse is over and the line released (R144); a break that begins in between does not hold it up
(log 56). -/
def State.recover (s : State) (r : Recovery) : State :=
  match r.pulsing, r.releasedAt with
  | false, some t =>
    (s.raise .busStuck none [0, stopAt 65535 ((t - r.breakFrom) / Config.stampUnit) 0]).enterGuard
  | _, _ => s.modBridge fun b => { b with line := .recovery r }

/-! ### A soft restart (R145) -/

/-- The settlements in the slots, in channel order. -/
def BridgeUnit.slotSettlements (b : BridgeUnit) : List Settlement := b.channels.flatMap fun c => slotSettlement c.slot

/-- Every queued host frame fails with CHANNEL_LOST (R145). DESIGN CHOICE: channel 0 first, then 1, 2 and 3, each queue oldest
first (log 51). -/
def State.failQueues (s : State) : List Nat → State
  | [] => s
  | n :: ns => (s.failAll n .channelLost (s.channel n).queue).failQueues ns

/-- The bridge after a soft restart (R145). A recovery is abandoned with what it knew of its break (log 53). -/
def BridgeUnit.restart (b : BridgeUnit) (now : Nat) : BridgeUnit :=
  { b with
    channels := b.channels.map fun c => { c.reprobe now with slot := none, queue := [] }
    line := .guarding now }

end Sys2Proof.Machine
end

