-- ==== Sys2Proof/Machine/Tables.lean ====
section
/-! DEFINITION. The Table Manager's tables (10): the written and read forms, the owners' validation, what a load does when it
is applied, the staging buffer and READ_TABLE (R1, R18, R20, R25, R62, R99, R100, R119, R129, R160 to R165). -/

namespace Sys2Proof.Machine

/-! ### Kinds (R160) -/

/-- The lowest index of a kind. -/
def TableKind.firstIndex : TableKind → Nat
  | .tube => 1
  | .coin | .note | .policy | .selection | .cooling | .curve | .load | .channel => 0

/-- How many indices a kind has. -/
def TableKind.size : TableKind → Nat
  | .coin => 12
  | .tube => 5
  | .note => 8
  | .policy => 1
  | .selection => 64
  | .cooling => 1
  | .curve => 24
  | .load => 1
  | .channel => 4

/-- Whether an index is one of the kind's. -/
def TableKind.hasIndex (k : TableKind) (i : Nat) : Bool := k.firstIndex ≤ i && i < k.firstIndex + k.size

/-- Indices from one to the end of the table. -/
def TableKind.left (k : TableKind) (i : Nat) : Nat := k.firstIndex + k.size - i

/-- Bytes of an entry in written form. -/
def TableKind.writtenSize : TableKind → Nat
  | .coin => 16
  | .tube => 4
  | .note => 3
  | .policy => 7
  | .selection => 4
  | .cooling => 34
  | .curve => 4
  | .load => 11
  | .channel => 8

/-- Bytes of an entry in read form. -/
def TableKind.readSize : TableKind → Nat
  | .coin => 18
  | .tube => 7
  | .note => 3
  | .policy => 7
  | .selection => 8
  | .cooling => 34
  | .curve => 4
  | .load => 11
  | .channel => 8

/-- Commit timing of a kind. -/
inductive Timing where
  | deferred
  | configOnly
  | atOnce
deriving DecidableEq, Repr

/-- The commit timing of a kind. -/
def TableKind.timing : TableKind → Timing
  | .coin | .note | .policy | .selection => .deferred
  | .tube | .load | .channel => .configOnly
  | .cooling | .curve => .atOnce

/-! ### Forms (R160) -/

/-- A COIN entry in written form. -/
def CoinEntry.written (e : CoinEntry) : List Byte :=
  u8 (boolCode e.enabled) :: u16 e.value ++ u16 e.size.low ++ u16 e.size.high ++ u16 e.alloy.low ++ u16 e.alloy.high
    ++ u16 e.thickness.low ++ u16 e.thickness.high ++ [u8 e.route.code]

/-- A TUBE entry in written form; NONE is 0xFF. -/
def Tube.written (t : Tube) : List Byte := [u8 (t.entry.getD 0xFF), u8 t.capacity, u8 t.keep, u8 t.lowMark]

/-- A NOTE entry in written form. -/
def NoteEntry.written (e : NoteEntry) : List Byte := u8 (boolCode e.enabled) :: u16 e.value

/-- The POLICY entry in written form. -/
def Policy.written (p : Policy) : List Byte :=
  u16 p.maxCredit ++ u8 (boolCode p.multiVend) :: u16 p.baseUnit ++ u16 p.assuranceLimit

/-- A SELECTION entry in written form. -/
def Selection.written (x : Selection) : List Byte := u16 x.price ++ [u8 x.health.code, u8 x.addOn]

/-- The COOLING entry in written form. -/
def Cooling.written (c : Cooling) : List Byte :=
  u16 (signed16 c.setpoint) ++ u16 (signed16 c.band) ++ u16 c.minOff ++ u16 c.minRun ++ u16 c.startWindow
    ++ u32 c.defrostInterval ++ u16 (signed16 c.defrostEnd) ++ u16 c.defrostMax ++ u16 c.drip
    ++ u16 (signed16 c.condCutout) ++ u16 (signed16 c.condReset) ++ u16 (signed16 c.safeLimit) ++ u16 c.recovery
    ++ u16 c.lockoutThreshold ++ u16 c.fallbackOn ++ u16 c.fallbackOff

/-- A CURVE entry in written form. -/
def CurvePoint.written (p : CurvePoint) : List Byte := u16 p.count ++ u16 (signed16 p.temp)

/-- The LOAD entry in written form. -/
def LoadTable.written (t : LoadTable) : List Byte :=
  [u8 t.budget, u8 t.motorA, u8 t.motorB, u8 t.payout, u8 t.compressorStart, u8 t.compressorRun, u8 t.defrost]
    ++ u16 t.minResume ++ u16 t.startDefer

/-- A CHANNEL entry in written form. -/
def ChannelEntry.written (e : ChannelEntry) : List Byte :=
  [u8 e.hostNode, u8 e.node, u8 e.role.code, u8 e.allocation, u8 (boolCode e.early), u8 e.pollInterval, u8 e.missLimit,
   u8 e.timeout]

/-- The committed curve point of an index. -/
def State.curvePoint (s : State) (i : Nat) : CurvePoint := s.plant.curve.getD i ⟨0, 0⟩

/-- The written form of the committed entry at an index (R161). -/
def State.writtenEntry (s : State) (k : TableKind) (i : Nat) : List Byte :=
  match k with
  | .coin => (s.coinEntry i).written
  | .tube => (s.tube i).written
  | .note => (s.noteEntry i).written
  | .policy => s.credit.policy.written
  | .selection => (s.selection i).written
  | .cooling => s.plant.cooling.written
  | .curve => (s.curvePoint i).written
  | .load => s.load.table.written
  | .channel => (s.channel i).cfg.written

/-- The running fields that the read form adds (R160). -/
def State.runningFields (s : State) (k : TableKind) (i : Nat) : List Byte :=
  match k with
  | .coin => u16 (s.coinEntry i).accepted
  | .tube => [u8 (s.tube i).count, u8 (s.tube i).state.code, u8 (s.tube i).jamCount]
  | .selection =>
    u8 (s.selection i).state.code :: u8 (s.selection i).missStreak :: u16 (s.selection i).vendCount
  | .note | .policy | .cooling | .curve | .load | .channel => []

/-- The read form of the committed entry at an index (R160). -/
def State.readEntry (s : State) (k : TableKind) (i : Nat) : List Byte := s.writtenEntry k i ++ s.runningFields k i

/-! ### Reading an entry and its ranges -/

/-- A yes/no field; none for another code. -/
def flagAt (e : List Byte) (i : Nat) : Option Bool :=
  match byteAt e i with
  | 0 => some false
  | 1 => some true
  | _ => none

/-- Whether a number lies in a range. -/
def within (low high n : Nat) : Bool := low ≤ n && n ≤ high

/-- Whether a signed number lies in a range. -/
def withinInt (low high n : Int) : Bool := low ≤ n && n ≤ high

/-- The window at an index, if it is one (R1). -/
def windowAt (e : List Byte) (i : Nat) : Option Window :=
  if wordAt e i ≤ wordAt e (i + 2) ∧ wordAt e (i + 2) ≤ 1023 then some ⟨wordAt e i, wordAt e (i + 2)⟩ else none

/-- The route of a code (R1). -/
def routeOf : Nat → Option Route
  | 0 => some .cashbox
  | n => if n ≤ 5 then some (.tube n) else none

/-- A COIN entry that passes R1. -/
def coinOf (e : List Byte) : Option CoinEntry :=
  match flagAt e 0, windowAt e 3, windowAt e 7, windowAt e 11, routeOf (byteAt e 15) with
  | some enabled, some size, some alloy, some thickness, some route =>
    if within 1 10000 (wordAt e 1) then some ⟨enabled, wordAt e 1, size, alloy, thickness, route, 0⟩ else none
  | _, _, _, _, _ => none

/-- A tube's assignment (R18). -/
structure Assignment where
  entry : Option Nat
  capacity : Nat
  keep : Nat
  lowMark : Nat
deriving DecidableEq, Repr

/-- A TUBE entry that passes R18. -/
def assignmentOf (e : List Byte) : Option Assignment :=
  let c := byteAt e 0
  if (c ≤ 11 ∨ c = 0xFF) ∧ within 1 120 (byteAt e 1) ∧ byteAt e 2 ≤ byteAt e 1 ∧ byteAt e 3 ≤ byteAt e 1 then
    some ⟨if c = 0xFF then none else some c, byteAt e 1, byteAt e 2, byteAt e 3⟩
  else none

/-- A NOTE entry that passes R25. -/
def noteOf (e : List Byte) : Option NoteEntry :=
  match flagAt e 0 with
  | some enabled => if within 1 20000 (wordAt e 1) then some ⟨enabled, wordAt e 1⟩ else none
  | none => none

/-- A POLICY entry that passes R20. -/
def policyOf (e : List Byte) : Option Policy :=
  match flagAt e 2 with
  | some multi =>
    if wordAt e 0 ≤ 20000 ∧ within 1 1000 (wordAt e 3) ∧ wordAt e 5 ≤ 5000 ∧ wordAt e 5 % wordAt e 3 = 0 then
      some ⟨wordAt e 0, multi, wordAt e 3, wordAt e 5⟩
    else none
  | none => none

/-- The health class of a code. -/
def healthOf : Nat → Option HealthClass
  | 0 => some .ambient
  | 1 => some .chilled
  | _ => none

/-- A SELECTION entry that passes R62: price, class and add-on turns, with the state and streak a commit gives. The vend
count is not an entry's. -/
def selectionOf (e : List Byte) : Option Selection :=
  match healthOf (byteAt e 2) with
  | some health =>
    if wordAt e 0 ≤ 20000 ∧ byteAt e 3 ≤ 2 then some ⟨wordAt e 0, health, byteAt e 3, .available, 0, 0⟩ else none
  | none => none

/-- The COOLING entry as its bytes stand, Setpoint and Band clamped (R100). -/
def coolingBytes (e : List Byte) : Cooling :=
  { setpoint := clampInt (-50) 150 (signedAt e 0), band := clampInt 5 100 (signedAt e 2), minOff := wordAt e 4,
    minRun := wordAt e 6, startWindow := wordAt e 8, defrostInterval := longAt e 10, defrostEnd := signedAt e 14,
    defrostMax := wordAt e 16, drip := wordAt e 18, condCutout := signedAt e 20, condReset := signedAt e 22,
    safeLimit := signedAt e 24, recovery := wordAt e 26, lockoutThreshold := wordAt e 28, fallbackOn := wordAt e 30,
    fallbackOff := wordAt e 32 }

/-- The ranges of the Cooling Table (06, section 6.3; R100). -/
def Cooling.inRange (c : Cooling) : Bool :=
  within 30 900 c.minOff && within 15 600 c.minRun && within 1 10 c.startWindow && within 3600 86400 c.defrostInterval
    && withinInt 0 300 c.defrostEnd && within 60 3600 c.defrostMax && within 0 600 c.drip
    && withinInt 300 900 c.condCutout && withinInt 200 880 c.condReset && withinInt 0 200 c.safeLimit
    && within 1 200 c.recovery && within 1 65535 c.lockoutThreshold && within 60 1800 c.fallbackOn
    && within 60 1800 c.fallbackOff && c.condReset < c.condCutout

/-- A CURVE point as its bytes stand. -/
def pointBytes (e : List Byte) : CurvePoint := ⟨wordAt e 0, signedAt e 2⟩

/-- The ranges of a CURVE point (R99). -/
def CurvePoint.inRange (p : CurvePoint) : Bool := p.count ≤ 4095 && withinInt (-400) 1250 p.temp

/-- The LOAD entry as its bytes stand. -/
def loadBytes (e : List Byte) : LoadTable :=
  { budget := byteAt e 0, motorA := byteAt e 1, motorB := byteAt e 2, payout := byteAt e 3, compressorStart := byteAt e 4,
    compressorRun := byteAt e 5, defrost := byteAt e 6, minResume := wordAt e 7, startDefer := wordAt e 9 }

/-- Units that are in range and fit the Budget beside the Base Load (R119). -/
def LoadTable.fits (t : LoadTable) (units : Nat) : Bool := within 1 250 units && Config.baseLoad + units ≤ t.budget

/-- The first stage of the Load Table's check (R119). -/
def LoadTable.inRange (t : LoadTable) : Bool :=
  within 1 250 t.budget && t.fits t.motorA && t.fits t.motorB && t.fits t.payout && t.fits t.compressorStart
    && t.fits t.compressorRun && t.fits t.defrost && t.compressorRun ≤ t.compressorStart
    && within 5 600 t.minResume && within 10 900 t.startDefer

/-- The role of a code. -/
def roleOf : Nat → Option Role
  | 0 => some .noteAcceptor
  | 1 => some .cardReader
  | 2 => some .passive
  | _ => none

/-- A CHANNEL entry whose fields are in range; a response timeout of 0 is stored as 1 (R129). -/
def channelOf (e : List Byte) : Option ChannelEntry :=
  match roleOf (byteAt e 2), flagAt e 4 with
  | some role, some early =>
    if byteAt e 0 ≤ 15 ∧ within 1 15 (byteAt e 1) ∧ byteAt e 3 ≤ 16 ∧ within 1 255 (byteAt e 5) ∧ within 1 15 (byteAt e 6)
        ∧ byteAt e 7 ≤ 127 then
      some ⟨byteAt e 0, byteAt e 1, role, byteAt e 3, early, byteAt e 5, byteAt e 6, max 1 (byteAt e 7)⟩
    else none
  | _, _ => none

/-! ### Validation (R163) -/

/-- What the owner's validation finds. -/
inductive Verdict where
  | passes
  | bad (index : Nat)
  | busy
deriving DecidableEq, Repr

/-- The first bad index, if there is one. -/
def Verdict.ofBad : Option Nat → Verdict
  | some i => .bad i
  | none => .passes

/-- The entries of a commit with their indices: from the first index through the extent, or the first alone (R163). -/
def Buffer.committed (b : Buffer) : List (Nat × List Byte) := (b.entries.take (max 1 b.extent)).zipIdx.map fun x =>
  (b.first + x.2, x.1)

/-- The entry a commit has for an index. -/
def entryFor (es : List (Nat × List Byte)) (i : Nat) : Option (List Byte) := (es.find? fun e => e.1 = i).map Prod.snd

/-- The first committed entry that fails a test of its own. -/
def firstBad (es : List (Nat × List Byte)) (ok : List Byte → Bool) : Option Nat :=
  (es.find? fun e => !ok e.2).map Prod.fst

/-- The Curve Table as it would stand after a commit (R99). -/
def State.curveAfter (s : State) (es : List (Nat × List Byte)) : List CurvePoint :=
  s.plant.curve.zipIdx.map fun x =>
    match entryFor es x.2 with
    | some e => pointBytes e
    | none => x.1

/-- Whether an index of the curve table is bad after a commit (R99). -/
def curveBad (es : List (Nat × List Byte)) (after : List CurvePoint) (i : Nat) : Bool :=
  let p := fun j => after.getD j ⟨0, 0⟩
  ((entryFor es i).isSome && !(p i).inRange)
    || ((es.any fun e => e.1 / 8 = i / 8) && i % 8 ≠ 0 && (p i).count ≤ (p (i - 1)).count)

/-- Whether a channel is bad beside the channels before it (R129). -/
def ChannelEntry.clashes (e : ChannelEntry) (before : List ChannelEntry) : Bool :=
  (before.any fun x =>
    x.hostNode ≠ 0 && e.hostNode ≠ 0
      && (x.hostNode = e.hostNode || x.node = e.node || (x.role = e.role && e.role ≠ .passive)))
    || Config.poolBlocks < (before.map ChannelEntry.allocation).sum + e.allocation

/-- The first bad channel, counted on from the channels before it (R129). -/
def firstBadChannel : List (Option ChannelEntry) → List ChannelEntry → Option Nat
  | [], _ => none
  | none :: _, before => some before.length
  | some e :: rest, before => if e.clashes before then some before.length else firstBadChannel rest (before ++ [e])

/-- The Channel Table as it would stand after a commit; none for a committed entry out of range (R129). -/
def State.channelsAfter (s : State) (es : List (Nat × List Byte)) : List (Option ChannelEntry) :=
  s.bridge.channels.zipIdx.map fun x =>
    match entryFor es x.2 with
    | some e => channelOf e
    | none => some x.1.cfg

/-- Whether a channel has a transaction on the bus. -/
def State.onBus (s : State) (n : Nat) : Bool :=
  match s.bridge.line with
  | .waiting t => t.channel = n
  | .idle | .guarding _ | .recovery _ => false

/-- Whether a channel is busy for a commit (R129). -/
def State.channelBusy (s : State) (n : Nat) : Bool :=
  s.onBus n || !(s.channel n).queue.isEmpty || (s.channel n).slot.isSome

/-- The owner's validation of a commit (R163). -/
def State.validate (s : State) (k : TableKind) (es : List (Nat × List Byte)) : Verdict :=
  match k with
  | .coin => .ofBad (firstBad es fun e => (coinOf e).isSome)
  | .tube => .ofBad (firstBad es fun e => (assignmentOf e).isSome)
  | .note => .ofBad (firstBad es fun e => (noteOf e).isSome)
  | .policy => .ofBad (firstBad es fun e => (policyOf e).isSome)
  | .selection => .ofBad (firstBad es fun e => (selectionOf e).isSome)
  | .cooling => .ofBad (firstBad es fun e => (coolingBytes e).inRange)
  | .curve => .ofBad ((List.range 24).find? (curveBad es (s.curveAfter es)))
  | .load =>
    match firstBad es fun e => (loadBytes e).inRange with
    | some i => .bad i
    | none =>
      if es.any fun e => (loadBytes e.2).budget < s.load.drawn then .busy else .passes
  | .channel =>
    match firstBadChannel (s.channelsAfter es) [] with
    | some i => .bad i
    | none => if es.any fun e => s.channelBusy e.1 then .busy else .passes

/-! ### Applying a load (R164) -/

/-- Entries put into a table at their indices, counted from `base`. -/
def putEntries {α : Type} (f : List Byte → α → α) (base : Nat) (es : List (Nat × List Byte)) (xs : List α) : List α :=
  es.foldl (fun xs e => editAt (f e.2) (e.1 - base) xs) xs

/-- A Tube record with a new assignment (R18). -/
def Tube.assign (t : Tube) (a : Assignment) : Tube :=
  { t with
    entry := a.entry, capacity := a.capacity, keep := a.keep, lowMark := a.lowMark
    count := if a.entry.isNone then 0 else min t.count a.capacity }.derive true

/-- A selection record with a committed entry (R62). -/
def Selection.commit (x new : Selection) : Selection := { new with vendCount := x.vendCount }

/-- The result of a waiting vend whose position a commit leaves unsellable (R74; log 19). -/
def State.unsellableResult (s : State) (p : Nat) : VendResult :=
  if (s.selection p).health = .chilled ∧ s.plant.lockout then .heldCold else .cancelled

/-- The waiting vends that a Selection Table commit ends (R62, R74). -/
def State.unsellableVends (s : State) : List (Nat × VendResult) :=
  (s.sales.vends.filter fun v => v.waits && !s.sellable v.position).map fun v => (v.id, s.unsellableResult v.position)

/-- A channel restarted by a commit (R129). DESIGN CHOICE: with alias 0 the DISABLED channel too has miss count 0, its last event
number absent and last probe at the commit; R129 gives these values for a channel that enters PROBING only (log 55). -/
def Channel.commit (c : Channel) (e : ChannelEntry) (now : Nat) : Channel :=
  { c with
    cfg := e
    state := if e.hostNode = 0 then .disabled else .probing
    misses := 0
    lastEvent := none
    lastProbe := now
    slot := none
    queue := [] }

/-- The settlement records given to the enabled CARD_READER channel, if the table holds one (R129). -/
def State.rehomeSettlements (s : State) : State :=
  match s.roleChannel .cardReader with
  | some n => s.modCredit fun c => { c with settlements := c.settlements.map fun r => { r with channel := n } }
  | none => s

/-- A Channel Table commit takes effect (R129). A record it gives to a channel that is READY is delivered (R37). -/
def State.applyChannels (s : State) (es : List (Nat × List Byte)) : Doing :=
  let s1 := s.modBridge fun b =>
    { b with
      channels := putEntries (fun e c => match channelOf e with
        | some x => c.commit x s.now
        | none => c) 0 es b.channels }
  (s1.rehomeSettlements,
   (match s1.roleChannel .cardReader with
    | some n => if s1.credit.settlements.any fun r => r.channel ≠ n then [.moveSettlement n] else []
    | none => []) ++ [.look])

/-- A load applied by its owner (R164). A Load Table that lowers Start Defer Limit to what a start claim has waited already, or below,
does not promote the claim itself: the commit's grant decision (R119) comes first, with the claim's priority as it stands, and the
next START_DEFER_LIMIT promotes it (log 57). -/
def State.applyLoad (s : State) (k : TableKind) (es : List (Nat × List Byte)) : Doing :=
  match k with
  | .coin =>
    ((s.modCoin fun c => { c with table := putEntries (fun e x => (coinOf e).getD x) 0 es c.table }).triggerAssurance, [])
  | .tube =>
    ((s.modTubes (putEntries (fun e t => match assignmentOf e with
        | some a => t.assign a
        | none => t) 1 es)).triggerAssurance, [])
  | .note => (s.modCredit fun c => { c with notes := putEntries (fun e x => (noteOf e).getD x) 0 es c.notes }, [])
  | .policy =>
    ((es.foldl (fun s e => s.modCredit fun c => { c with policy := (policyOf e.2).getD c.policy }) s).triggerAssurance, [])
  | .selection =>
    let s := s.modSales fun u =>
      { u with
        selections := putEntries (fun e x => match selectionOf e with
          | some new => x.commit new
          | none => x) 0 es u.selections }
    (s, [.reprice, .endVends s.unsellableVends true])
  | .cooling =>
    (es.foldl (fun s e => s.modPlant fun p => { p with cooling := coolingBytes e.2 }) s,
     coolingActs s.plant.cooling.defrostInterval)
  | .curve => (s.modPlant fun p => { p with curve := s.curveAfter es }, [])
  | .load => (es.foldl (fun s e => s.modLoad fun l => l.renew (loadBytes e.2)) s, [.decide])
  | .channel => s.applyChannels es

/-- The buffer's load applied, with the Table Manager's part behind it (R164). -/
def State.applyBuffer (s : State) (b : Buffer) (disposition : Nat) : Doing :=
  let (s, acts) := s.applyLoad b.kind b.committed
  (s, acts ++ [.applied b.kind b.first b.committed.length disposition])

/-- A PENDING load is applied at the session's return to IDLE (R164). -/
def State.applyPendingLoad (s : State) : Doing :=
  match s.tables.staging with
  | .pending b => s.applyBuffer b 1
  | .empty | .opened _ => (s, [])

/-- The Table Manager's part of an applied load (R164, steps 1 to 3). -/
def State.loadApplied (s : State) (k : TableKind) (first count disposition : Nat) : State :=
  let s := s.modTables fun t =>
    { t with
      loadCommitted := t.loadCommitted || k = .load
      curveCommitted := t.curveCommitted || k = .curve }
  (s.raise .stageApplied none [k.code, first, count, disposition]).modTables fun t => { t with staging := .empty }

/-! ### The staging buffer (R161, R162, R163) -/

/-- A buffer opened over a kind from an index, filled from the committed table (R161). -/
def State.openBuffer (s : State) (k : TableKind) (first : Nat) : Buffer :=
  { kind := k, first := first, extent := 0,
    entries := (List.range (min 16 (k.left first))).map fun i => s.writtenEntry k (first + i) }

/-- Bytes cut into entries of one size. -/
def chop (size : Nat) : Nat → List Byte → List (List Byte)
  | 0, _ => []
  | n + 1, p => p.take size :: chop size n (p.drop size)

/-- Entries put over those of a list from an offset on. -/
def overlay {α : Type} (offset : Nat) (new old : List α) : List α :=
  old.take offset ++ new ++ old.drop (offset + new.length)

/-- A buffer with entries written from an offset on (R162). -/
def Buffer.write (b : Buffer) (offset : Nat) (new : List (List Byte)) : Buffer :=
  { b with entries := overlay offset new b.entries, extent := max b.extent (offset + new.length) }

/-- Whether a commit that passes takes effect now (R163). -/
def State.takesEffect (s : State) (k : TableKind) : Bool :=
  k.timing = .atOnce || s.tables.mode = .config || s.credit.session.state = .idle

end Sys2Proof.Machine
end

