-- ==== Sys2Proof/Machine/Records.lean ====
section
/-! DEFINITION. What the Link Interface and the Table Manager tell the host: the identity block, the status record, notices in
the form they are fetched in, table reads (R152, R153, R156, R165). -/

namespace Sys2Proof.Machine

/-- The identity block (R152). -/
def identityBlock : List Byte :=
  u16 0x3A17 ++ u16 0x0640 ++ [u8 1, u8 64, u8 12, u8 5, u8 8, u8 4, u8 32, u8 24, u8 4, u8 4]

/-- The status record (R153). -/
def State.statusRecord (s : State) : List Byte :=
  let x := s.credit.session
  [u8 s.tables.mode.code, u8 x.state.code, u8 x.funding.code] ++ u16 x.cashCredit ++ u16 x.cardLeft ++ u16 s.credit.carried
    ++ [u8 (s.sales.vends.countP Vend.unfinished), u8 s.credit.settlements.length, u8 (boolCode s.change.assured)]
    ++ u16 s.change.short ++ u16 s.change.maxPrice
    ++ [u8 (boolCode s.plant.lockout), u8 s.plant.compressor.code, u8 s.plant.defrost.code]
    ++ ((List.range 5).map fun i => u8 (s.tube (i + 1)).count)
    ++ ((List.range 5).map fun i => u8 (s.tube (i + 1)).state.code)
    ++ ((List.range 4).map fun c => u8 (s.channel c).state.code)
    ++ ((List.range 4).map fun c => u8 (s.channel c).freeBlocks)
    ++ [u8 s.link.notices.length, u8 s.link.errors, u8 s.link.dropped]

/-- The counts and the report mark cleared (R153). -/
def LinkUnit.clearCounts (l : LinkUnit) : LinkUnit := { l with errors := 0, dropped := 0, reported := false }

/-- A notice as FETCH_NOTICES carries it (R156). -/
def Notice.bytes (n : Notice) : List Byte :=
  [u8 n.kind.code, u8 (n.kind.level * 16 + n.values.length)] ++ u24 n.stamp ++ u8 (n.subject.getD 0xFF)
    :: n.values.flatMap u16

/-- How many notices from the head a fetch of at most `n` takes with `room` bytes left (R156). -/
def fetchable : Nat → Nat → List Notice → Nat
  | 0, _, _ => 0
  | _, _, [] => 0
  | n + 1, room, x :: xs => if x.bytes.length ≤ room then 1 + fetchable n (room - x.bytes.length) xs else 0

/-- How many notices a FETCH_NOTICES with argument `n` takes (R156). -/
def State.fetchCount (s : State) (n : Nat) : Nat := fetchable (clampNat 1 4 n) Config.fetchBytes s.link.notices

/-- The data of a FETCH_NOTICES reply that takes `k` notices (R156). -/
def State.fetchData (s : State) (k : Nat) : List Byte :=
  [u8 k, u8 (s.link.notices.length - k)] ++ (s.link.notices.take k).flatMap Notice.bytes

/-- How many entries a READ_TABLE returns (R165). -/
def readCount (k : TableKind) (first count : Nat) : Nat := min count (min (k.left first) (Config.readBytes / k.readSize))

/-- The data of a READ_TABLE reply (R165). -/
def State.readData (s : State) (k : TableKind) (first count : Nat) : List Byte :=
  [u8 k.code, u8 first, u8 (readCount k first count)]
    ++ (List.range (readCount k first count)).flatMap fun i => s.readEntry k (first + i)

end Sys2Proof.Machine
end

