-- ==== Sys2Proof/Machine/Agenda.lean ====
section
/-! DEFINITION. How a command is carried out (log 3): each act is one rule's work, and the acts that follow from it are
carried out before those that were still to come. -/

namespace Sys2Proof.Machine

/-- A grant handed to its claimant (R122). -/
def State.handGrant (s : State) (k : LoadKind) (o : Claimant) : Doing :=
  match k with
  | .payout => (s, [.nextCoin])
  | .motor g =>
    match o with
    | .test => s.testGranted g
    | .vend | .change | .plant => s.vendGranted g
  | .compressorStart => s.startGranted
  | .defrost => s.defrostGranted
  | .compressorRun => (s, [])

/-- One act: the state it leaves and the acts that follow from it. -/
def perform (a : Act) (s : State) : Doing :=
  match a with
  | .notice k subject values => (s.raise k subject values, [])
  | .decide => s.decideHead
  | .place k o => s.placeClaim k o
  | .withdraw k o => s.withdrawClaim k o
  | .release k o => s.releaseClaim k o
  | .granted k o => s.handGrant k o
  | .dispatch => s.dispatchOne
  | .endVends ends d => s.endTogether ends d
  | .endVend id r d => s.recordEnd id r d
  | .leaveList id r d => s.takeFromList id r d
  | .reprice => (s.repriceNow, [])
  | .jamPosition p => s.jamSelection p
  | .turnEnded g o => s.reportTurn g o
  | .turnFaulted g o => s.reportFault g o
  | .vendTurned g => s.turnDone g
  | .vendJammed g => s.turnJammed g
  | .startHeld g => s.startHeldRequest g
  | .vendReported r price f => s.takeVendEnd r price f
  | .closeRequest => s.requestClose
  | .closeRest => s.goOnClosing
  | .completeClose => s.finishClose
  | .handOver amount => s.takeHandOver amount
  | .closeCash remainder => s.endCash remainder
  | .applyPending => s.applyPendingLoad
  | .applied k first count disposition => (s.loadApplied k first count disposition, [])
  | .startRun amount => s.beginRun amount
  | .nextCoin => s.payNext
  | .runEnded => s.closeRun
  | .dispenseEnded => s.closeDispense
  | .demandTest => s.testDemand
  | .stopTest => s.testStop
  | .defrostTest => s.testDefrost
  | .condenserTest => s.testCondenser
  | .protectTest => s.testProtect
  | .defrostProceeds => s.proceedDefrost
  | .defrostDue c => s.makeDue c
  | .dripEntered reason heated => s.beginDrip reason heated
  | .dripDone => s.endDrip
  | .exposureTest => s.testExposure
  | .lockOut cause => s.activateLockout cause
  | .intervalsEnd wasInterval => s.endIntervals wasInterval
  | .becameReady c => s.channelReady c
  | .moveSettlement c => s.moveHead c
  | .look => (s.lookForWork, [])
  | .handOn c kind payload => s.takeReport c kind payload
  | .guardLine => (s.enterGuard, [])
  | .replySession seq => (s.accept seq [u8 s.credit.session.state.code], [])
  | .replyDefrost seq => (s.accept seq [u8 s.plant.defrost.code], [])

/-- Acts carried out in order, each act's own before the rest, up to a number of acts no command reaches (log 3). -/
def settle : Nat → List Act → State → State
  | n + 1, a :: as, s => settle n ((perform a s).2 ++ as) (perform a s).1
  | _, _, s => s

/-- The end of a command: CREDIT_CHANGED (R38), the acceptance mask (R28), the two holds (R29), and the scheduler's look when
a command has entered a slot (R134; log 4). -/
def State.conclude (s : State) : State :=
  let (s, notes) := s.reportCredit.evaluateMask.pumpNotes
  let (s, cards) := s.pumpCards
  if notes || cards then s.lookForWork else s

/-- A command's acts, with the end of the command behind them. -/
def run (s : State) (acts : List Act) : State := (settle Config.actsMax acts s).conclude

/-- A rule's work followed by the acts it gives. -/
def runDoing (d : Doing) : State := run d.1 d.2

end Sys2Proof.Machine
end

