-- ==== Sys2Proof/Machine/System.lean ====
section
/-! DEFINITION. The whole machine: the door, the modes, power-on reset and soft restart (R40, R95, R159, R166, R167, R168). -/

namespace Sys2Proof.Machine

/-! ### Modes and the door (R166) -/

/-- The mode after a reset or a restart (R166). -/
def modeFor (doorOpen : Bool) : Mode := if doorOpen then .service else .config

/-- A change of mode. -/
def State.setMode (s : State) (m : Mode) : State := s.modTables fun t => { t with mode := m }

/-- The mode remembered and SERVICE entered (R166). -/
def State.enterService (s : State) : State :=
  s.modTables fun t => { t with remembered := t.mode, mode := .service }

/-- The door opens with the mode CONFIG or SALES (R166, R76, R90): the vends end first, then a test's claim is released
(logs 30, 58). -/
def State.openDoor (s : State) : Doing :=
  let (s, releases) := s.enterService.doorAtMotors
  (s, .endVends (s.ending Vend.unfinished .abortedDoor) false :: releases)

/-! ### Power-on reset and the reset pin (R14, R18, R40, R49, R60, R77, R95, R118, R119, R127, R146, R159, R168) -/

/-- The beam state taken from the DROP input as found (R95). -/
def Beam.found : Beam → Beam
  | .clear => .clear
  | .timing _ | .broken => .broken

/-- The machine after a reset with this POWER_UP cause; the inputs and the waiting commands stay as they are. -/
def State.resetBy (s : State) (cause : Nat) : State :=
  { State.reset with
    draws := s.draws
    pins := s.pins
    tubes := s.tubes.map fun t => .reset t.covered
    drive := .reset s.drive.beam.found
    link := .reset cause (modeFor s.pins.doorOpen)
    tables := .reset (modeFor s.pins.doorOpen)
    pending := s.pending }

/-! ### Soft restart (R168) -/

/-- The ends of the vends a restart finds (R77); the notices are lost with the queue. -/
def State.restartVends (s : State) : State :=
  (s.sales.vends.filter Vend.unfinished).foldl
    (fun s v => s.raise .vendResult (some v.position)
      [VendResult.abortedRestart.code, v.price, v.turnsMade, boolCode v.droppedEarly, v.request.toNat]) s

/-- The blocks after a restart, before the Notice Queue is emptied (R14, R39, R60, R77, R94, R117, R127, R145, R161,
R166). -/
def State.restartBlocks (s : State) : State :=
  { s with
    coin := { s.coin with path := .empty, gate := .closed }
    credit := s.credit.restart s.bridge.slotSettlements
    change := s.change.restart
    sales := s.sales.restart
    drive := s.drive.restart
    plant := s.plant.restart s.now
    load := s.load.restart
    bridge := s.bridge.restart s.now
    tables := { s.tables with staging := .empty, mode := modeFor s.pins.doorOpen, remembered := .config } }

/-- RESTARTED is raised into the emptied Notice Queue (R158, R168). -/
def State.announceRestart (s : State) : State :=
  (s.modLink fun l => { l with notices := [] }).raise .restarted none
    [s.tables.mode.code, s.credit.carried, s.credit.settlements.length]

/-- A soft restart, its request answered (R168); a new assurance evaluation then starts (R49). -/
def State.softRestart (s : State) : State :=
  ((s.restartVends.failQueues (List.range 4)).restartBlocks.announceRestart).startEvaluation

end Sys2Proof.Machine
end

