-- ==== Sys2Proof/Machine/Coin.lean ====
section
/-! DEFINITION. The Coin Acceptor (01, sections 1.1 to 1.6): classification, the accept-or-reject decision, the gates and the
coin path record (R1 to R14). -/

namespace Sys2Proof.Machine

/-! ### Classification and decision (R3, R4, R5) -/

/-- Whether a window contains a reading (R3). -/
def Window.holds (w : Window) (n : Nat) : Bool := w.low ≤ n && n ≤ w.high

/-- Whether an enabled entry's three windows contain a signature (R3). -/
def CoinEntry.takes (e : CoinEntry) (size alloy thickness : Nat) : Bool :=
  e.enabled && e.size.holds size && e.alloy.holds alloy && e.thickness.holds thickness

/-- The first entry that contains the signature, in index order (R3). -/
def State.classify (s : State) (size alloy thickness : Nat) : Option Nat :=
  s.coin.table.findIdx? fun e => e.takes size alloy thickness

/-- Reasons of a rejection (R5). -/
inductive Rejection where
  | pathBusy
  | mode
  | noMatch
  | funding
  | closing
  | limit
  | exact
deriving DecidableEq, Repr

/-- The code of a rejection (09, section 9.5). -/
def Rejection.code : Rejection → Nat
  | .pathBusy => 1
  | .mode => 2
  | .noMatch => 3
  | .funding => 4
  | .closing => 5
  | .limit => 6
  | .exact => 7

/-- Checks 4 to 7, which apply in SALES alone, for a coin of entry `e` (R5). -/
def State.moneyCheck (s : State) (e : Nat) : Option Rejection :=
  let x := s.credit.session
  let total := s.prospective + (s.coinEntry e).value
  if s.tables.mode ≠ .sales then none
  else if x.funding = .card then some .funding
  else if x.state = .closeWait ∨ x.state = .payout then some .closing
  else if s.credit.policy.maxCredit < total then some .limit
  else if !s.change.assured && s.change.maxPrice < total then some .exact
  else none

/-- The Coin Acceptor's decision on a signature (R3, R5). -/
inductive Decision where
  /-- rejected, with the matched entry where the notice names it -/
  | reject (why : Rejection) (subject : Option Nat)
  /-- accepted as a coin of this entry -/
  | accept (entry : Nat)
deriving DecidableEq, Repr

/-- The decision on a signature, by the checks in their order (R5). -/
def State.judgeCoin (s : State) (size alloy thickness : Nat) : Decision :=
  match s.coin.path with
  | .pending _ => .reject .pathBusy none
  | .empty =>
    if s.tables.mode = .config then .reject .mode none
    else
      match s.classify size alloy thickness with
      | none => .reject .noMatch none
      | some e =>
        match s.moneyCheck e with
        | some why => .reject why (some e)
        | none => .accept e

/-! ### Gates and path (R6, R7, R8) -/

/-- The accept gate closes; a closed gate stays closed (R7). -/
def State.closeGate (s : State) : State := s.modCoin fun c => { c with gate := .closed }

/-- The route chosen for a coin of an entry (R6). -/
def State.chooseRoute (s : State) (e : Nat) : Route :=
  match (s.coinEntry e).route with
  | .cashbox => .cashbox
  | .tube n =>
    let t := s.tube n
    if t.entry = some e ∧ (t.state = .normal ∨ t.state = .low ∨ t.state = .empty) ∧ t.count < t.capacity then .tube n
    else .cashbox

/-- A coin accepted: the gate opens and the path record is filled (R6). -/
def State.acceptCoin (s : State) (e : Nat) : State :=
  s.modCoin fun c =>
    { c with
      gate := .opened s.now
      path := .pending
        { entry := e, value := (s.coinEntry e).value, route := s.chooseRoute e, creditDue := s.tables.mode = .sales,
          acceptedAt := s.now } }

/-- A coin rejected, with its notice; PATH_BUSY closes the gate at once (R5, R8). -/
def State.rejectCoin (s : State) (why : Rejection) (subject : Option Nat) (size alloy thickness : Nat) : State :=
  (if why = .pathBusy then s.closeGate else s).raise .coinRejected subject [why.code, size, alloy, thickness]

/-! ### Passage (R2, R9) -/

/-- The path record returns to EMPTY and the gate is closed (R9, R12). -/
def State.clearPath (s : State) : State := s.modCoin fun c => { c with path := .empty, gate := .closed }

/-- A confirmed coin handed to its tube, if the record still names its entry (R9 step 1). -/
def State.countCoin (s : State) (c : PendingCoin) : State :=
  match c.route with
  | .cashbox => s
  | .tube n => if (s.tube n).entry = some c.entry then s.coinIntoTube n else s

/-- An entry's accepted count raised (R2). -/
def State.countEntry (s : State) (e : Nat) : State :=
  s.modCoin fun u => { u with table := editAt (fun x => { x with accepted := stopAt 65535 x.accepted 1 }) e u.table }

/-- The pending coin confirmed (R9). -/
def State.confirmCoin (s : State) (c : PendingCoin) : State :=
  let s := ((s.countCoin c).countEntry c.entry).clearPath
  if c.creditDue then s.receiveCash .coin c.value else s

end Sys2Proof.Machine
end

