-- ==== Sys2Proof/Machine/BusCommands.lean ====
section
/-! DEFINITION. The commands of the Peripheral Bus (08). -/

namespace Sys2Proof.Machine

/-- PERIPHERAL_FRAME (R132, R133): a host frame to node 1-15. -/
def execPeripheralFrame (node kind seq : Byte) (payload : List Byte) (s : State) : Host.Outcome State Fault Refusal :=
  if node.toNat = 0 ∨ 15 < node.toNat then .next s
  else
    let s := s.frameTaken
    match s.aliasChannel node with
    | none => .next (s.transmit (replyFrame node seq 2 0 []))
    | some n =>
      match (s.channel n).refuses kind with
      | some why => .next (s.transmit (replyFrame node seq 1 why.code []))
      | none => .next (run (s.queueFrame n node kind seq payload) [.look])

/-- GUARD_END (R128, R134). -/
def execGuardEnd (s : State) : Host.Outcome State Fault Refusal :=
  match s.bridge.line with
  | .guarding since =>
    .next (run ((s.reach (since + Config.guardTime)).modBridge fun b => { b with line := .idle }) [.look])
  | .idle | .waiting _ | .recovery _ => .next s

/-- POLL_DUE (R134). -/
def execPollDue (channel : Nat) (s : State) : Host.Outcome State Fault Refusal :=
  if (s.channel channel).serves then .next (run (s.reach (s.channel channel).pollAt) [.look]) else .next s

/-- PROBE_DUE (R134). -/
def execProbeDue (channel : Nat) (s : State) : Host.Outcome State Fault Refusal :=
  match (s.channel channel).state.probeInterval with
  | some d => .next (run (s.reach ((s.channel channel).lastProbe + d)) [.look])
  | none => .next s

/-- The bus receiver goes back to looking for a start byte (R128). -/
def State.busHunting (s : State) : State := s.modBridge fun b => { b with rx := .hunting }

/-- BUS_FRAME_RECEIVED (R136). -/
def execBusFrameReceived (frame : Frame) (check : Word) (s : State) : Host.Outcome State Fault Refusal :=
  match s.busHunting.judgeBusFrame frame check with
  | some d => .next (runDoing d)
  | none => .next s.busHunting

/-- RESPONSE_TIMEOUT (R137). -/
def execResponseTimeout (s : State) : Host.Outcome State Fault Refusal :=
  match s.bridge.line with
  | .waiting t =>
    .next (run ((s.reach (t.sentAt + (s.channel t.channel).cfg.timeout * Config.timeoutUnit)).missWork t) [])
  | .idle | .guarding _ | .recovery _ => .next s

/-- BUS_BYTE_GAP (R128): a frame begun by the bytes heard is abandoned; it is no reply. -/
def execBusByteGap (_heard : List Byte) (s : State) : Host.Outcome State Fault Refusal := .next s.busHunting

/-- BUS_OVER_LENGTH_FRAME (R128): the frame is discarded; it is no reply. -/
def execBusOverLengthFrame (_node _kind _seq _length : Byte) (s : State) : Host.Outcome State Fault Refusal :=
  .next s.busHunting

/-- BUS_STUCK (R144): a break has lasted 20 ms since the end of reset at the earliest (R146). -/
def execBusStuck (s : State) : Host.Outcome State Fault Refusal :=
  match s.bridge.line with
  | .recovery _ => .next s
  | .idle | .guarding _ | .waiting _ => .next (run (s.reach Config.stuckBreak).declareStuck [])

/-- PRST_PULSE_END (R144). -/
def execPrstPulseEnd (s : State) : Host.Outcome State Fault Refusal :=
  match s.bridge.line with
  | .recovery r =>
    if r.pulsing then .next ((s.reach (r.prstFrom + Config.prstPulse)).recover { r with pulsing := false }) else .next s
  | .idle | .guarding _ | .waiting _ => .next s

/-- RECEIVE_LINE_RELEASED (R144). -/
def execReceiveLineReleased (s : State) : Host.Outcome State Fault Refusal :=
  match s.bridge.line with
  | .recovery r =>
    if r.releasedAt.isNone then .next (s.recover { r with releasedAt := some s.now }) else .next s
  | .idle | .guarding _ | .waiting _ => .next s

end Sys2Proof.Machine
end

