-- ==== Sys2Proof/Machine/LinkCommands.lean ====
section
/-! DEFINITION. The commands of the Machine Link, the tables, the modes and the resets (09, 10). -/

namespace Sys2Proof.Machine

/-! ### Frames without a request (R147, R149, R150) -/

/-- LINK_BYTE_GAP (R147, R149): the bytes heard have begun a frame and the gap abandons it. -/
def execLinkByteGap (heard : List Byte) (s : State) : Host.Outcome State Fault Refusal :=
  match s.link.rx.feedAll heard with
  | (.assembling _, []) => .next s.frameTaken.linkError
  | _ => .next s

/-- OVER_LENGTH_FRAME (R147, R149). -/
def execOverLengthFrame (_node _kind _seq length : Byte) (s : State) : Host.Outcome State Fault Refusal :=
  if Config.payloadMax < length.toNat then .next s.frameTaken.linkError else .next s

/-- CHECK_VALUE_ERROR (R148, R149). -/
def execCheckValueError (frame : Frame) (check : Word) (s : State) : Host.Outcome State Fault Refusal :=
  if checkOf frame = check then .next s else .next s.frameTaken.linkError

/-- UNKNOWN_NODE (R150). -/
def execUnknownNode (node _kind seq : Byte) (_payload : List Byte) (s : State) : Host.Outcome State Fault Refusal :=
  if node.toNat < 16 then .next s else .next (s.frameTaken.transmit (replyFrame node seq 2 0 []))

/-- BAD_KIND (R150). -/
def execBadKind (kind seq : Byte) (_payload : List Byte) (s : State) : Host.Outcome State Fault Refusal :=
  if requestKinds.contains kind then .next s else .next (s.frameTaken.refuse seq .badKind)

/-! ### The Link Interface's requests (R152, R153, R155, R156) -/

/-- IDENTIFY (R152). -/
def execIdentify (seq : Byte) (_payload : List Byte) (s : State) : Host.Outcome State Fault Refusal :=
  .next (s.frameTaken.accept seq identityBlock)

/-- STATUS (R153): a clear flag that is left out is 0. -/
def execStatus (seq : Byte) (payload : List Byte) (s : State) : Host.Outcome State Fault Refusal :=
  let s := s.frameTaken
  match byteAt payload 0 with
  | 0 => .next (s.accept seq s.statusRecord)
  | 1 => .next ((s.accept seq s.statusRecord).modLink LinkUnit.clearCounts)
  | _ => .next (s.refuse seq .badArgument)

/-- FETCH_NOTICES (R156). -/
def execFetchNotices (seq : Byte) (payload : List Byte) (s : State) : Host.Outcome State Fault Refusal :=
  let s := s.frameTaken
  if payload.length < 1 then .next (s.refuse seq .badArgument)
  else
    let k := s.fetchCount (byteAt payload 0)
    .next ((s.accept seq (s.fetchData k)).modLink fun l => { l with notices := l.notices.drop k })

/-- SET_FLOOR (R155). -/
def execSetFloor (seq : Byte) (payload : List Byte) (s : State) : Host.Outcome State Fault Refusal :=
  let s := s.frameTaken
  if payload.length < 1 then .next (s.refuse seq .badArgument)
  else
    let floor := clampNat 1 7 (byteAt payload 0)
    .next ((s.modLink fun l => { l with floor := floor }).accept seq [u8 floor])

/-- The milliseconds after which the time stamp counter is 0 again (R154). -/
def stampPeriod : Nat := Config.stampModulus * Config.stampUnit

/-- TIME_STAMP_WRAP (R154): the clock comes to the counter's next wrap. -/
def execTimeStampWrap (s : State) : Host.Outcome State Fault Refusal :=
  .next (s.reach ((s.now / stampPeriod + 1) * stampPeriod))

/-! ### The Table Manager's requests (R161, R162, R163, R165, R167) -/

/-- The refusal of a STAGE_OPEN for a kind code and a first index, or the kind (R161). -/
def State.stageOpens (s : State) (code first : Nat) : Except Reason TableKind :=
  match TableKind.ofCode code with
  | none => .error .badArgument
  | some k =>
    if !k.hasIndex first then .error .badArgument
    else if s.tables.staging ≠ .empty then .error .busy
    else if k.timing = .configOnly ∧ s.tables.mode ≠ .config then .error .badMode
    else .ok k

/-- A change of the staging buffer. -/
def State.setStaging (s : State) (x : Staging) : State := s.modTables fun t => { t with staging := x }

/-- STAGE_OPEN (R161). -/
def execStageOpen (seq : Byte) (payload : List Byte) (s : State) : Host.Outcome State Fault Refusal :=
  let s := s.frameTaken
  let first := byteAt payload 1
  if payload.length < 2 then .next (s.refuse seq .badArgument)
  else
    match s.stageOpens (byteAt payload 0) first with
    | .error why => .next (s.refuse seq why)
    | .ok k =>
      let b := s.openBuffer k first
      .next ((s.setStaging (.opened b)).accept seq [u8 k.code, u8 first, u8 b.entries.length])

/-- Whether a write fits a buffer: whole entries, at least one, within the room (R162). -/
def Buffer.takesWrite (b : Buffer) (offset : Nat) (bytes : List Byte) : Bool :=
  bytes.length % b.kind.writtenSize = 0 && !bytes.isEmpty
    && offset + bytes.length / b.kind.writtenSize ≤ b.entries.length

/-- STAGE_WRITE (R162). -/
def execStageWrite (seq : Byte) (payload : List Byte) (s : State) : Host.Outcome State Fault Refusal :=
  let s := s.frameTaken
  let offset := byteAt payload 0
  let bytes := payload.drop 1
  if payload.length < 1 then .next (s.refuse seq .badArgument)
  else
    match s.tables.staging with
    | .empty => .next (s.refuse seq .notReady)
    | .pending _ => .next (s.refuse seq .busy)
    | .opened b =>
      if !b.takesWrite offset bytes then .next (s.refuse seq .badArgument)
      else
        let n := bytes.length / b.kind.writtenSize
        let b := b.write offset (chop b.kind.writtenSize n bytes)
        .next ((s.setStaging (.opened b)).accept seq [u8 offset, u8 n, u8 b.extent])

/-- The data of an ACCEPTED STAGE_COMMIT (R163). -/
def Buffer.commitData (b : Buffer) (disposition : Nat) : List Byte :=
  [u8 b.kind.code, u8 b.first, u8 b.committed.length, u8 disposition]

/-- A commit of an OPEN buffer that has passed the mode check (R163). -/
def State.commitBuffer (s : State) (seq : Byte) (b : Buffer) : State :=
  match s.validate b.kind b.committed with
  | .bad i => s.refuse seq .badArgument [u8 i]
  | .busy => s.refuse seq .busy
  | .passes =>
    if s.takesEffect b.kind then runDoing ((s.accept seq (b.commitData 0)).applyBuffer b 0)
    else (s.setStaging (.pending b)).accept seq (b.commitData 1)

/-- STAGE_COMMIT (R163). -/
def execStageCommit (seq : Byte) (_payload : List Byte) (s : State) : Host.Outcome State Fault Refusal :=
  let s := s.frameTaken
  match s.tables.staging with
  | .empty => .next (s.refuse seq .notReady)
  | .pending _ => .next (s.refuse seq .busy)
  | .opened b =>
    if b.kind.timing = .configOnly ∧ s.tables.mode ≠ .config then .next (s.refuse seq .badMode)
    else .next (s.commitBuffer seq b)

/-- STAGE_DISCARD (R161); the code of the buffer state is a free value (log 12). -/
def execStageDiscard (seq : Byte) (_payload : List Byte) (s : State) : Host.Outcome State Fault Refusal :=
  let s := s.frameTaken
  .next ((s.setStaging .empty).accept seq [Config.bufferStateCode s.tables.staging.number])

/-- READ_TABLE (R165). -/
def execReadTable (seq : Byte) (payload : List Byte) (s : State) : Host.Outcome State Fault Refusal :=
  let s := s.frameTaken
  let first := byteAt payload 1
  let count := byteAt payload 2
  if payload.length < 3 then .next (s.refuse seq .badArgument)
  else
    match TableKind.ofCode (byteAt payload 0) with
    | none => .next (s.refuse seq .badArgument)
    | some k =>
      if !k.hasIndex first ∨ count = 0 ∨ 16 < count then .next (s.refuse seq .badArgument)
      else .next (s.accept seq (s.readData k first count))

/-- The mode a MODE request may ask for (R167). -/
def askedMode : Nat → Option Mode
  | 0 => some .config
  | 1 => some .sales
  | _ => none

/-- The refusal of a MODE request (R167). -/
def State.modeRefusal (s : State) (m : Mode) : Option Reason :=
  if s.tables.mode = .service then some .badMode
  else if m = .sales ∧ !(s.tables.loadCommitted && s.tables.curveCommitted) then some .notReady
  else none

/-- MODE (R167). -/
def execMode (seq : Byte) (payload : List Byte) (s : State) : Host.Outcome State Fault Refusal :=
  let s := s.frameTaken
  if payload.length < 1 then .next (s.refuse seq .badArgument)
  else
    match askedMode (byteAt payload 0) with
    | none => .next (s.refuse seq .badArgument)
    | some m =>
      match s.modeRefusal m with
      | some why => .next (s.refuse seq why)
      | none => .next (run ((s.setMode m).accept seq [u8 m.code]) [])

/-! ### The door and the resets (R159, R166, R168) -/

/-- The door switch stands open or closed. -/
def State.setDoor (s : State) (isOpen : Bool) : State := s.modPins fun p => { p with doorOpen := isOpen }

/-- DOOR_OPEN (R166, R76, R90). -/
def execDoorOpen (s : State) : Host.Outcome State Fault Refusal :=
  match s.tables.mode with
  | .config | .sales => .next (runDoing (s.setDoor true).openDoor)
  | .service => .next (s.setDoor true)

/-- DOOR_CLOSE (R166). -/
def execDoorClose (s : State) : Host.Outcome State Fault Refusal :=
  match s.tables.mode with
  | .service => .next (run ((s.setDoor false).setMode s.tables.remembered) [])
  | .config | .sales => .next (s.setDoor false)

/-- RESTART (R168): the reply is formed before any effect. -/
def execRestart (seq : Byte) (_payload : List Byte) (s : State) : Host.Outcome State Fault Refusal :=
  .next (s.frameTaken.accept seq []).softRestart

/-- POWER_ON_RESET (R168). -/
def execPowerOnReset (s : State) : Host.Outcome State Fault Refusal := .next (s.resetBy 0)

/-- RESET_PIN (R159). -/
def execResetPin (s : State) : Host.Outcome State Fault Refusal := .next (s.resetBy 1)

end Sys2Proof.Machine
end

