-- ==== Sys2Proof/Machine/MoneyCommands.lean ====
section
/-! DEFINITION. The commands of the coin mechanism, the tubes, the session and the payout (01, 02, 03). -/

namespace Sys2Proof.Machine

/-- COIN_SIGNATURE (R5, R6, R8). -/
def execCoinSignature (size alloy thickness : Nat) (s : State) : Host.Outcome State Fault Refusal :=
  match s.judgeCoin size alloy thickness with
  | .accept e => .next (run (s.acceptCoin e) [])
  | .reject why subject => .next (s.rejectCoin why subject size alloy thickness)

/-- GATE_HOLD_END (R7). -/
def execGateHoldEnd (s : State) : Host.Outcome State Fault Refusal :=
  match s.coin.gate with
  | .opened since => .next (s.reach (since + Config.gateHold)).closeGate
  | .closed => .next s

/-- PATH_PASSAGE (R9, R11). -/
def execPathPassage (s : State) : Host.Outcome State Fault Refusal :=
  match s.coin.path with
  | .pending c => .next (run (s.confirmCoin c) [])
  | .empty => .next (s.raise .unexpectedCoin none [])

/-- PATH_TIMEOUT (R12). -/
def execPathTimeout (s : State) : Host.Outcome State Fault Refusal :=
  match s.coin.path with
  | .pending c =>
    .next (run (((s.reach (c.acceptedAt + Config.pathTimeout)).clearPath).raise .coinPathFault (some c.entry)
      [c.route.code]) [])
  | .empty => .next s

/-- LOW_SENSOR_CHANGE (R16). A reading that is the stored one is no change; there are five tubes. -/
def execLowSensorChange (tube : Nat) (covered : Bool) (s : State) : Host.Outcome State Fault Refusal :=
  if tube = 0 ∨ 5 < tube ∨ (s.tube tube).covered = covered then .next s
  else .next (run (s.takeLowSensor tube covered) [])

/-- The refusal of a TUBE_SET (R17). -/
def State.tubeSetRefusal (s : State) (tube : Nat) : Option Reason :=
  if s.tables.mode = .sales then some .badMode
  else if tube = 0 ∨ 5 < tube then some .badArgument
  else if (s.tube tube).state = .absent then some .badArgument
  else if s.paying then some .busy
  else none

/-- TUBE_SET (R17). -/
def execTubeSet (seq : Byte) (payload : List Byte) (s : State) : Host.Outcome State Fault Refusal :=
  let s := s.frameTaken
  let tube := byteAt payload 0
  if payload.length < 2 then .next (s.refuse seq .badArgument)
  else
    match s.tubeSetRefusal tube with
    | some why => .next (s.refuse seq why)
    | none =>
      let t := (s.tube tube).counted (byteAt payload 1)
      .next (run ((s.setTube tube t).accept seq [u8 tube, u8 t.count, u8 t.state.code]) [])

/-- END_SESSION (R32). -/
def execEndSession (seq : Byte) (_payload : List Byte) (s : State) : Host.Outcome State Fault Refusal :=
  let s := s.frameTaken
  match s.credit.session.state with
  | .idle => .next (s.refuse seq .noSession)
  | .opened => .next (run s [.closeRequest, .replySession seq])
  | .closeWait | .payout => .next (s.refuse seq .busy)

/-- COIN_RETURN (R33). -/
def execCoinReturn (s : State) : Host.Outcome State Fault Refusal :=
  if s.tables.mode = .config then .next s
  else
    match s.credit.session.state with
    | .idle => if s.credit.carried = 0 then .next s else .next (run s.openCash [.closeRequest])
    | .opened => if s.credit.session.funding = .cash then .next (run s [.closeRequest]) else .next s
    | .closeWait | .payout => .next s

/-- ASSURANCE_EVALUATION_COMPLETE (R47, R48). -/
def execAssuranceEvaluationComplete (s : State) : Host.Outcome State Fault Refusal :=
  match s.change.evaluating with
  | some e => .next (run (s.completeEvaluation e) [])
  | none => .next s

/-- PAYOUT_EXIT_BREAK (R53, R55, R59). -/
def execPayoutExitBreak (s : State) : Host.Outcome State Fault Refusal :=
  match s.change.seq with
  | .firstWait tube _ | .secondWait tube _ => .next (runDoing (s.confirmPaid tube))
  | .idle | .deferred | .claimWait => .next s

/-- EXIT_WAIT_EXPIRY (R54, R59). A dispense checks its tube before the second pulse too. -/
def execExitWaitExpiry (s : State) : Host.Outcome State Fault Refusal :=
  match s.change.seq with
  | .firstWait tube since =>
    let s := s.reach (since + Config.exitWait)
    if s.dispenseBlocked then .next (run (s.setJob .claimWait s.change.job) endDispense)
    else .next (s.pulse tube (.secondWait tube s.now))
  | .secondWait tube since => .next (runDoing ((s.reach (since + Config.exitWait)).tubeFails tube))
  | .idle | .deferred | .claimWait => .next s

/-- The refusal of a TUBE_DISPENSE (R58). -/
def State.dispenseRefusal (s : State) (tube coins : Nat) : Option Reason :=
  if s.tables.mode ≠ .service then some .badMode
  else if tube = 0 ∨ 5 < tube ∨ coins = 0 ∨ 20 < coins then some .badArgument
  else if (s.tube tube).state = .absent ∨ (s.tube tube).state = .jammed then some .badArgument
  else if s.paying then some .busy
  else none

/-- TUBE_DISPENSE (R58). -/
def execTubeDispense (seq : Byte) (payload : List Byte) (s : State) : Host.Outcome State Fault Refusal :=
  let s := s.frameTaken
  let tube := byteAt payload 0
  let coins := byteAt payload 1
  if payload.length < 2 then .next (s.refuse seq .badArgument)
  else
    match s.dispenseRefusal tube coins with
    | some why => .next (s.refuse seq why)
    | none =>
      .next (run ((s.setJob .claimWait (some (.dispense tube coins))).accept seq [u8 tube, u8 coins])
        [.place .payout .change])

end Sys2Proof.Machine
end

