-- ==== Sys2Proof/Machine/PlantCommands.lean ====
section
/-! DEFINITION. The commands of the refrigeration plant and the load budget (06, 07). -/

namespace Sys2Proof.Machine

/-- SENSOR_SAMPLE (R96). -/
def execSensorSample (cab coil cond : Nat) (s : State) : Host.Outcome State Fault Refusal :=
  .next (runDoing ((s.reach s.plant.sampleAt).takeSamples cab coil cond))

/-- MIN_OFF_END (R102). -/
def execMinOffEnd (s : State) : Host.Outcome State Fault Refusal :=
  match s.plant.compressor with
  | .offMin =>
    .next (run ((s.reach (secondsAfter s.plant.offSince s.plant.cooling.minOff)).setCompressor .offReady) [.demandTest])
  | .offReady | .startWait | .starting _ | .running _ | .protecting => .next s

/-- START_WINDOW_END (R104, R125). -/
def execStartWindowEnd (s : State) : Host.Outcome State Fault Refusal :=
  match s.plant.compressor with
  | .starting since =>
    .next (runDoing (((s.reach (secondsAfter since s.plant.cooling.startWindow)).setCompressor (.running since)).shrinkStart))
  | .offMin | .offReady | .startWait | .running _ | .protecting => .next s

/-- MIN_RUN_REACHED (R105). -/
def execMinRunReached (s : State) : Host.Outcome State Fault Refusal :=
  match s.plant.compressor with
  | .running since => .next (run (s.reach (secondsAfter since s.plant.cooling.minRun)) [.stopTest])
  | .offMin | .offReady | .startWait | .starting _ | .protecting => .next s

/-- FALLBACK_OFF_ELAPSED (R107). -/
def execFallbackOffElapsed (s : State) : Host.Outcome State Fault Refusal :=
  if s.plant.cab.state = .failed ∧ s.plant.resting then
    .next (run (s.reach (secondsAfter s.plant.offSince s.plant.cooling.fallbackOff)) [.demandTest])
  else .next s

/-- FALLBACK_ON_ELAPSED (R107). -/
def execFallbackOnElapsed (s : State) : Host.Outcome State Fault Refusal :=
  match s.plant.compressor with
  | .running since =>
    if s.plant.cab.state = .failed then
      .next (run (s.reach (secondsAfter since s.plant.cooling.fallbackOn)) [.stopTest])
    else .next s
  | .offMin | .offReady | .startWait | .starting _ | .protecting => .next s

/-- The moment at which the run-time total of a compressor whose relay closed at `since` reaches Defrost Interval (R108). DESIGN
CHOICE: where the kept total stands at or above Defrost Interval as the relay closes, as a soft restart can leave it, that moment is
the closing itself, on time 0; R108 tests each second of relay-on time and does not say whether on time 0 is one (log 54). -/
def PlantUnit.intervalAt (p : PlantUnit) (since : Nat) : Nat := since + (p.cooling.defrostInterval * 1000 - p.runMs)

/-- DEFROST_INTERVAL_REACHED (R108): the run-time total rises in STARTING and RUNNING alone. -/
def execDefrostIntervalReached (s : State) : Host.Outcome State Fault Refusal :=
  match s.plant.defrost, s.plant.compressor with
  | .idle, .starting since | .idle, .running since => .next (run (s.reach (s.plant.intervalAt since)) [.defrostDue .interval])
  | _, _ => .next s

/-- DEFROST_NOW (R108). -/
def execDefrostNow (seq : Byte) (_payload : List Byte) (s : State) : Host.Outcome State Fault Refusal :=
  let s := s.frameTaken
  if s.plant.defrost = .idle then .next (run s [.defrostDue .request, .replyDefrost seq]) else .next (s.refuse seq .busy)

/-- DEFROST_MAX_REACHED (R110). -/
def execDefrostMaxReached (s : State) : Host.Outcome State Fault Refusal :=
  match s.plant.defrost with
  | .heating _ since =>
    .next (runDoing ((s.reach (since + (s.plant.cooling.defrostMax * 1000 - s.plant.heatMs))).endHeating 2))
  | .idle | .due _ | .claiming _ | .suspended _ | .drip _ _ => .next s

/-- DRIP_END (R112). -/
def execDripEnd (s : State) : Host.Outcome State Fault Refusal :=
  match s.plant.defrost with
  | .drip _ since => .next (runDoing ((s.reach (secondsAfter since s.plant.cooling.drip)).endDrip))
  | .idle | .due _ | .claiming _ | .heating _ _ | .suspended _ => .next s

/-- EXPOSURE_STEP (R114, R115, R116). -/
def execExposureStep (s : State) : Host.Outcome State Fault Refusal :=
  .next (runDoing ((s.reach s.plant.stepAt).takeStep))

/-- MIN_RESUME_REACHED (R123): watched while a DEFROST is granted and the queue is not empty. -/
def execMinResumeReached (s : State) : Host.Outcome State Fault Refusal :=
  match s.load.defrostGrant, s.load.queue with
  | some d, _ :: _ => .next (run (s.reach (secondsAfter d.since s.load.table.minResume)) [.decide])
  | _, _ => .next s

/-- START_DEFER_LIMIT (R124). A limit that a Load Table commit has brought behind the claim's waiting is taken here, at the moment of
the command (log 57). -/
def execStartDeferLimit (s : State) : Host.Outcome State Fault Refusal :=
  match s.load.agingStart with
  | some c =>
    .next (run ((s.reach (secondsAfter c.arrival s.load.table.startDefer)).modLoad fun l => l.promote c) [.decide])
  | none => .next s

end Sys2Proof.Machine
end

