-- ==== Sys2Proof/Machine/VendCommands.lean ====
section
/-! DEFINITION. The commands of the selections, the vends, the motors and the drop sensor (04, 05). -/

namespace Sys2Proof.Machine

/-- SELECTION_CLEAR (R63). -/
def execSelectionClear (seq : Byte) (payload : List Byte) (s : State) : Host.Outcome State Fault Refusal :=
  let s := s.frameTaken
  let p := byteAt payload 0
  if payload.length < 1 ∨ 63 < p then .next (s.refuse seq .badArgument)
  else
    .next (run ((s.modSelection p Selection.cleared).accept seq [u8 p, u8 (s.selection p).state.code]) [.reprice])

/-- The refusal of a VEND by its checks 3 to 5, the session OPEN (R65). -/
def State.vendRefusal (s : State) (p : Nat) : Option Reason :=
  if !s.sellable p then some .unavailable
  else if Config.vendListMax ≤ s.sales.vends.length then some .listFull
  else if s.funds < (s.selection p).price + s.committed then some .noFunds
  else none

/-- A VEND that passes every check (R66): the record appended, the reply, then dispatch. -/
def State.acceptVend (s : State) (seq : Byte) (p : Nat) : Doing :=
  let s1 := s.modSales fun u => u.append (s.newVend p seq)
  (s1.accept seq ([u8 p, u8 (s1.sales.vends.countP Vend.unfinished)] ++ u16 (s1.funds - s1.committed)), [.dispatch])

/-- A VEND by its checks 3 to 5, the session OPEN (R65, R66). -/
def State.judgeVend (s : State) (seq : Byte) (p : Nat) : Doing :=
  match s.vendRefusal p with
  | some why => (s.refuse seq why, [])
  | none => s.acceptVend seq p

/-- VEND (R65, R66). -/
def execVend (seq : Byte) (payload : List Byte) (s : State) : Host.Outcome State Fault Refusal :=
  let s := s.frameTaken
  let p := byteAt payload 0
  if payload.length < 1 ∨ 63 < p then .next (s.refuse seq .badArgument)
  else if s.tables.mode ≠ .sales then .next (s.refuse seq .badMode)
  else
    match s.credit.session.state with
    | .opened => .next (runDoing (s.judgeVend seq p))
    | .idle => if s.credit.carried = 0 then .next (s.refuse seq .noFunds) else .next (runDoing (s.openCash.judgeVend seq p))
    | .closeWait | .payout => .next (s.refuse seq .noFunds)

/-- DROP_WINDOW_EXPIRY (R71) of the vend with this start order. -/
def execDropWindowExpiry (startOrder : Nat) (s : State) : Host.Outcome State Fault Refusal :=
  match s.windowOf startOrder with
  | some (v, since) => .next (runDoing ((s.reach (since + Config.dropWindow)).windowOver v))
  | none => .next s

/-- A change of the beam state. -/
def State.setBeam (s : State) (b : Beam) : State := s.modDrive fun d => { d with beam := b }

/-- DROP_EVENT (R72, R88): the break has lasted 5 ms. -/
def execDropEvent (s : State) : Host.Outcome State Fault Refusal :=
  match s.drive.beam with
  | .timing since => .next (runDoing (((s.reach (since + Config.dropFilter)).setBeam .broken).attributeDrop))
  | .clear | .broken => .next s

/-- DROP_BEAM_BREAK (R88, R89). -/
def execDropBeamBreak (s : State) : Host.Outcome State Fault Refusal :=
  match s.drive.beam with
  | .clear => .next (s.setBeam (.timing s.now))
  | .timing _ | .broken => .next s

/-- DROP_BEAM_CLEAR (R88). -/
def execDropBeamClear (s : State) : Host.Outcome State Fault Refusal := .next (s.setBeam .clear)

/-- HOME_LEAVE (R80): the home switch of a spiral opens for 20 ms; the leave is taken for the energized position alone. -/
def execHomeLeave (position : Nat) (s : State) : Host.Outcome State Fault Refusal :=
  .next ((s.setAway position true).leaveHome position)

/-- HOME_RETURN (R80, R82): the home switch of a spiral closes for 20 ms; the return is taken for the energized position
alone. -/
def execHomeReturn (position : Nat) (s : State) : Host.Outcome State Fault Refusal :=
  let s := s.setAway position false
  match s.turningAt position with
  | some t => .next (runDoing (s.endTurn (groupOf position) t))
  | none => .next s

/-- HOME_LEAVE_TIME (R81). -/
def execHomeLeaveTime (g : Group) (s : State) : Host.Outcome State Fault Refusal :=
  match (s.group g).state with
  | .starting t => .next (runDoing ((s.reach (t.energizedAt + Config.homeLeaveTime)).faultTurn g t .timeout))
  | .idle | .turning _ | .stopped _ => .next s

/-- TURN_TIMEOUT (R83). -/
def execTurnTimeout (g : Group) (s : State) : Host.Outcome State Fault Refusal :=
  match (s.group g).turn? with
  | some t => .next (runDoing ((s.reach (t.energizedAt + Config.turnTimeout)).faultTurn g t .timeout))
  | none => .next s

/-- CURRENT_SAMPLE (R84, R85). -/
def execCurrentSample (g : Group) (milliamps : Nat) (s : State) : Host.Outcome State Fault Refusal :=
  match (s.group g).turn? with
  | some t => .next (runDoing ((s.reach t.sampleAt).takeCurrent g t milliamps))
  | none => .next s

/-- FAULT_REST_END (R87). -/
def execFaultRestEnd (g : Group) (s : State) : Host.Outcome State Fault Refusal :=
  match (s.group g).state with
  | .stopped since =>
    .next (run ((s.reach (since + Config.faultRest)).modGroup g fun r => { r with state := .idle }) [.startHeld g])
  | .idle | .starting _ | .turning _ => .next s

/-- The refusal of a MOTOR_TEST (R91). -/
def State.testRefusal (s : State) (p : Nat) : Option Reason :=
  if s.tables.mode ≠ .service then some .badMode
  else if 63 < p then some .badArgument
  else if (s.group (groupOf p)).test.isSome then some .busy
  else none

/-- MOTOR_TEST (R91). -/
def execMotorTest (seq : Byte) (payload : List Byte) (s : State) : Host.Outcome State Fault Refusal :=
  let s := s.frameTaken
  let p := byteAt payload 0
  if payload.length < 1 then .next (s.refuse seq .badArgument)
  else
    match s.testRefusal p with
    | some why => .next (s.refuse seq why)
    | none =>
      .next (run ((s.modGroup (groupOf p) fun r => { r with test := some p }).accept seq [u8 p, u8 (Group.code (groupOf p))])
        [.place (.motor (groupOf p)) .test])

end Sys2Proof.Machine
end

