-- ==== Sys2Proof/Machine/Dispatch.lean ====
section
/-! DEFINITION. The meaning of every command, one arm for each row of spec/opcode_table.json. -/

namespace Sys2Proof.Machine

def exec (i : Instr) (s : State) : Host.Outcome State Fault Refusal :=
  match i with
  | .powerOnReset => Sys2Proof.Machine.execPowerOnReset s
  | .resetPin => Sys2Proof.Machine.execResetPin s
  | .coinSignature size alloy thickness => Sys2Proof.Machine.execCoinSignature size alloy thickness s
  | .gateHoldEnd => Sys2Proof.Machine.execGateHoldEnd s
  | .pathPassage => Sys2Proof.Machine.execPathPassage s
  | .pathTimeout => Sys2Proof.Machine.execPathTimeout s
  | .lowSensorChange tube covered => Sys2Proof.Machine.execLowSensorChange tube covered s
  | .tubeSet seq payload => Sys2Proof.Machine.execTubeSet seq payload s
  | .endSession seq payload => Sys2Proof.Machine.execEndSession seq payload s
  | .coinReturn => Sys2Proof.Machine.execCoinReturn s
  | .assuranceEvaluationComplete => Sys2Proof.Machine.execAssuranceEvaluationComplete s
  | .payoutExitBreak => Sys2Proof.Machine.execPayoutExitBreak s
  | .exitWaitExpiry => Sys2Proof.Machine.execExitWaitExpiry s
  | .tubeDispense seq payload => Sys2Proof.Machine.execTubeDispense seq payload s
  | .selectionClear seq payload => Sys2Proof.Machine.execSelectionClear seq payload s
  | .vend seq payload => Sys2Proof.Machine.execVend seq payload s
  | .dropWindowExpiry startOrder => Sys2Proof.Machine.execDropWindowExpiry startOrder s
  | .dropEvent => Sys2Proof.Machine.execDropEvent s
  | .dropBeamBreak => Sys2Proof.Machine.execDropBeamBreak s
  | .dropBeamClear => Sys2Proof.Machine.execDropBeamClear s
  | .homeLeave position => Sys2Proof.Machine.execHomeLeave position s
  | .homeReturn position => Sys2Proof.Machine.execHomeReturn position s
  | .homeLeaveTime g => Sys2Proof.Machine.execHomeLeaveTime g s
  | .turnTimeout g => Sys2Proof.Machine.execTurnTimeout g s
  | .currentSample g milliamps => Sys2Proof.Machine.execCurrentSample g milliamps s
  | .faultRestEnd g => Sys2Proof.Machine.execFaultRestEnd g s
  | .motorTest seq payload => Sys2Proof.Machine.execMotorTest seq payload s
  | .sensorSample cab coil cond => Sys2Proof.Machine.execSensorSample cab coil cond s
  | .minOffEnd => Sys2Proof.Machine.execMinOffEnd s
  | .startWindowEnd => Sys2Proof.Machine.execStartWindowEnd s
  | .minRunReached => Sys2Proof.Machine.execMinRunReached s
  | .fallbackOffElapsed => Sys2Proof.Machine.execFallbackOffElapsed s
  | .fallbackOnElapsed => Sys2Proof.Machine.execFallbackOnElapsed s
  | .defrostIntervalReached => Sys2Proof.Machine.execDefrostIntervalReached s
  | .defrostNow seq payload => Sys2Proof.Machine.execDefrostNow seq payload s
  | .defrostMaxReached => Sys2Proof.Machine.execDefrostMaxReached s
  | .dripEnd => Sys2Proof.Machine.execDripEnd s
  | .exposureStep => Sys2Proof.Machine.execExposureStep s
  | .minResumeReached => Sys2Proof.Machine.execMinResumeReached s
  | .startDeferLimit => Sys2Proof.Machine.execStartDeferLimit s
  | .peripheralFrame node kind seq payload => Sys2Proof.Machine.execPeripheralFrame node kind seq payload s
  | .guardEnd => Sys2Proof.Machine.execGuardEnd s
  | .pollDue channel => Sys2Proof.Machine.execPollDue channel s
  | .probeDue channel => Sys2Proof.Machine.execProbeDue channel s
  | .busFrameReceived frame check => Sys2Proof.Machine.execBusFrameReceived frame check s
  | .responseTimeout => Sys2Proof.Machine.execResponseTimeout s
  | .busByteGap heard => Sys2Proof.Machine.execBusByteGap heard s
  | .busStuck => Sys2Proof.Machine.execBusStuck s
  | .prstPulseEnd => Sys2Proof.Machine.execPrstPulseEnd s
  | .receiveLineReleased => Sys2Proof.Machine.execReceiveLineReleased s
  | .linkByteGap heard => Sys2Proof.Machine.execLinkByteGap heard s
  | .overLengthFrame node kind seq length => Sys2Proof.Machine.execOverLengthFrame node kind seq length s
  | .checkValueError frame check => Sys2Proof.Machine.execCheckValueError frame check s
  | .unknownNode node kind seq payload => Sys2Proof.Machine.execUnknownNode node kind seq payload s
  | .badKind kind seq payload => Sys2Proof.Machine.execBadKind kind seq payload s
  | .identify seq payload => Sys2Proof.Machine.execIdentify seq payload s
  | .status seq payload => Sys2Proof.Machine.execStatus seq payload s
  | .fetchNotices seq payload => Sys2Proof.Machine.execFetchNotices seq payload s
  | .setFloor seq payload => Sys2Proof.Machine.execSetFloor seq payload s
  | .timeStampWrap => Sys2Proof.Machine.execTimeStampWrap s
  | .stageOpen seq payload => Sys2Proof.Machine.execStageOpen seq payload s
  | .stageWrite seq payload => Sys2Proof.Machine.execStageWrite seq payload s
  | .stageCommit seq payload => Sys2Proof.Machine.execStageCommit seq payload s
  | .stageDiscard seq payload => Sys2Proof.Machine.execStageDiscard seq payload s
  | .readTable seq payload => Sys2Proof.Machine.execReadTable seq payload s
  | .doorOpen => Sys2Proof.Machine.execDoorOpen s
  | .doorClose => Sys2Proof.Machine.execDoorClose s
  | .mode seq payload => Sys2Proof.Machine.execMode seq payload s
  | .restart seq payload => Sys2Proof.Machine.execRestart seq payload s
  | .busOverLengthFrame node kind seq length => Sys2Proof.Machine.execBusOverLengthFrame node kind seq length s

end Sys2Proof.Machine
end

