-- ==== Sys2Proof/Machine/Step.lean ====
section
/-! DEFINITION. One step: the command at the front of the queue, or one millisecond of the clock on an empty queue
(log 2). -/

namespace Sys2Proof.Machine

/-- The command at the front of the queue is carried out with the queue's rest; an empty queue lets 1 ms pass (log 2). -/
def step (s : State) : Host.Outcome State Fault Refusal :=
  match s.pending with
  | [] => .next (s.reach (s.now + 1))
  | c :: rest => exec c { s with pending := rest }

/-- The command a word spells put at the front of the queue; no word of the table spells one (Decode.lean). -/
def State.withFetchWord (s : State) (nbits w : Nat) : State :=
  match decodeTableWord nbits w with
  | some c => { s with pending := c :: s.pending }
  | none => s

end Sys2Proof.Machine
end

