-- ==== Sys2Proof/WellFormed.lean ====
section
/-! DEFINITION. Which commands the outside can send: readings within the ranges the rules state, payloads of at most 60 bytes,
frames that are what their row says they are. `exec` is total on ill-formed commands too. -/

namespace Sys2Proof

open Machine

/-- A payload that fits a frame (09, section 9.1). -/
def payloadFits (p : List Byte) : Bool := p.length ≤ Config.payloadMax

/-- Bytes after which the assembler, started hunting, is inside a frame that it has neither completed nor abandoned
(R147: the gap abandons that frame). -/
def endsInsideFrame (heard : List Byte) : Bool :=
  match Assembler.hunting.feedAll heard with
  | (.assembling _, []) => true
  | _ => false

/-- The commands the outside can send. -/
def Instr.wellFormed : Instr → Bool
  | .coinSignature s a t => s ≤ 1023 && a ≤ 1023 && t ≤ 1023
  | .lowSensorChange n _ => 1 ≤ n && n ≤ 5
  | .dropWindowExpiry n => 1 ≤ n && n ≤ 4
  | .homeLeave p => p ≤ 63
  | .homeReturn p => p ≤ 63
  | .currentSample _ m => m ≤ 4000
  | .sensorSample a b c => a ≤ 4095 && b ≤ 4095 && c ≤ 4095
  | .peripheralFrame n _ _ p => 1 ≤ n.toNat && n.toNat ≤ 15 && payloadFits p
  | .pollDue c => c ≤ 3
  | .probeDue c => c ≤ 3
  | .busFrameReceived f _ => payloadFits f.payload
  | .busByteGap h => endsInsideFrame h
  | .linkByteGap h => endsInsideFrame h
  | .overLengthFrame _ _ _ l => Config.payloadMax < l.toNat
  | .busOverLengthFrame _ _ _ l => Config.payloadMax < l.toNat
  | .checkValueError f c => payloadFits f.payload && checkOf f ≠ c
  | .unknownNode n _ _ p => 16 ≤ n.toNat && payloadFits p
  | .badKind k _ p => !requestKinds.contains k && payloadFits p
  | .tubeSet _ p | .endSession _ p | .tubeDispense _ p | .selectionClear _ p | .vend _ p | .motorTest _ p
  | .defrostNow _ p | .identify _ p | .status _ p | .fetchNotices _ p | .setFloor _ p | .stageOpen _ p
  | .stageWrite _ p | .stageCommit _ p | .stageDiscard _ p | .readTable _ p | .mode _ p | .restart _ p => payloadFits p
  | .powerOnReset | .resetPin | .gateHoldEnd | .pathPassage | .pathTimeout | .coinReturn
  | .assuranceEvaluationComplete | .payoutExitBreak | .exitWaitExpiry | .dropEvent | .dropBeamBreak | .dropBeamClear
  | .homeLeaveTime _ | .turnTimeout _ | .faultRestEnd _ | .minOffEnd | .startWindowEnd
  | .minRunReached | .fallbackOffElapsed | .fallbackOnElapsed | .defrostIntervalReached | .defrostMaxReached | .dripEnd
  | .exposureStep | .minResumeReached | .startDeferLimit | .guardEnd | .responseTimeout | .busStuck | .prstPulseEnd
  | .receiveLineReleased | .timeStampWrap | .doorOpen | .doorClose => true

end Sys2Proof
end

