-- ==== Sys2Proof/Safety.lean ====
section
/-! DEFINITION. The terms the statements use: the parts of State that a command may leave as they were, the invariants of the
machine, and the decisions of spec/ written as relations, apart from the functions that compute them. -/

namespace Sys2Proof.Machine

/-! ### Parts of State, and what stays as it was -/

/-- The parts of State. Every field of State lies in exactly one part. -/
inductive Part where
  | now
  | draws
  | pins
  | coin
  | tubes
  | policy
  | notes
  | session
  | carried
  | settlements
  /-- the two holds and the mask last handed over (R28, R29) -/
  | holds
  /-- the mark of a change of credit that has no CREDIT_CHANGED yet (log 4) -/
  | unreported
  /-- stored assurance, short amount, the running evaluation, the re-run mark -/
  | assurance
  | maxPrice
  /-- the coin sequencer: state, job, deferred change due, pulses given -/
  | payout
  | selections
  /-- the Vend List, the start sequence and the next vend's id -/
  | vends
  | drive
  | plant
  | load
  | bridge
  /-- the Notice Queue and the dropped count -/
  | notices
  /-- the REPLY frames formed -/
  | replies
  /-- the receive assembler -/
  | receiver
  /-- the notice level floor, the link error count and the report mark -/
  | linkCounts
  | tables
  | pending
deriving DecidableEq, Repr

/-- Whether a part of two states is the same. -/
def Part.same (p : Part) (s t : State) : Prop :=
  match p with
  | .now => t.now = s.now
  | .draws => t.draws = s.draws
  | .pins => t.pins = s.pins
  | .coin => t.coin = s.coin
  | .tubes => t.tubes = s.tubes
  | .policy => t.credit.policy = s.credit.policy
  | .notes => t.credit.notes = s.credit.notes
  | .session => t.credit.session = s.credit.session
  | .carried => t.credit.carried = s.credit.carried
  | .settlements => t.credit.settlements = s.credit.settlements
  | .holds =>
    t.credit.answer = s.credit.answer ∧ t.credit.maskDue = s.credit.maskDue ∧ t.credit.maskLast = s.credit.maskLast
      ∧ t.credit.deny = s.credit.deny
  | .unreported => t.credit.changed = s.credit.changed
  | .assurance =>
    t.change.assured = s.change.assured ∧ t.change.short = s.change.short ∧ t.change.evaluating = s.change.evaluating
      ∧ t.change.rerun = s.change.rerun
  | .maxPrice => t.change.maxPrice = s.change.maxPrice
  | .payout =>
    t.change.seq = s.change.seq ∧ t.change.job = s.change.job ∧ t.change.deferred = s.change.deferred
      ∧ t.change.pulses = s.change.pulses
  | .selections => t.sales.selections = s.sales.selections
  | .vends => t.sales.vends = s.sales.vends ∧ t.sales.started = s.sales.started ∧ t.sales.nextId = s.sales.nextId
  | .drive => t.drive = s.drive
  | .plant => t.plant = s.plant
  | .load => t.load = s.load
  | .bridge => t.bridge = s.bridge
  | .notices => t.link.notices = s.link.notices ∧ t.link.dropped = s.link.dropped
  | .replies => t.link.sent = s.link.sent
  | .receiver => t.link.rx = s.link.rx
  | .linkCounts => t.link.floor = s.link.floor ∧ t.link.errors = s.link.errors ∧ t.link.reported = s.link.reported
  | .tables => t.tables = s.tables
  | .pending => t.pending = s.pending

/-- Every part outside a list is as it was. -/
def SameExcept (ps : List Part) (s t : State) : Prop := ∀ p, p ∉ ps → p.same s t

/-- The parts that the end of a command may change beside the command's own: the holds hand their commands to the channels,
whose transaction may start (R28, R29, R134), and a change of credit is reported (R38). -/
def closing : List Part := [.holds, .unreported, .draws, .bridge, .notices]

/-- A notice as it is raised at a state's present moment (R154). -/
def State.notice (s : State) (k : NoticeKind) (subject : Option Nat) (values : List Nat) : Notice :=
  { kind := k, stamp := s.stamp, subject := subject, values := values }

/-- Between two states these notices, and no others, have met the Notice Queue, in this order (R154, R155). -/
def Raised (s t : State) (ns : List Notice) : Prop :=
  t.link.notices = (ns.foldl LinkUnit.push s.link).notices ∧ t.link.dropped = (ns.foldl LinkUnit.push s.link).dropped

/-! ### Conditions on a state -/

/-- No claim waits for supply and no placement is held (R120). -/
def NothingWaits (s : State) : Prop := s.load.queue = [] ∧ s.load.held = []

/-- The buffer holds no load that waits for the session (R163). -/
def NothingPending (s : State) : Prop := ∀ b, s.tables.staging ≠ .pending b

/-- Every change of credit has been reported (R38). -/
def Reported (s : State) : Prop := s.credit.changed = false

/-! ### The invariants -/

/-- R109: the heater's stages of a defrost and the compressor's run exclude each other. -/
def HeaterApart (s : State) : Prop :=
  (s.plant.compressor = .startWait → s.plant.defrost = .idle)
    ∧ (s.plant.relay = true → s.plant.defrost = .idle ∨ s.plant.defrost.isDue = true)

/-- R120: Base Load and the granted units fit the Budget; a load that waits in the buffer is of a deferred kind (R163), so
that no Budget is applied without its check. -/
def WithinBudget (s : State) : Prop :=
  s.load.drawn ≤ s.load.table.budget ∧ ∀ b, s.tables.staging = .pending b → b.kind.timing = .deferred

/-- R120: a kind stands at most once among the waiting and the granted claims; COMPRESSOR_RUN, which is never placed, is left
aside. -/
def OneOfAKind (s : State) : Prop :=
  ((s.load.queue.map Claim.kind ++ s.load.granted.map Grant.kind).filter (· ≠ .compressorRun)).Nodup

/-- The capacities and the counters: the Notice Queue (R154), the Vend List (R65), each channel's queue (R131), each tube's count
and jam count (R15), the counters of the link (R149, R155), the notice level floor (R155), Carried Credit (R23), Exposure (R114)
and accepted counts (R2); and the Cooling Table, each field in its range, the clamped Setpoint and Band among them (6.3), and
Condenser Reset below Condenser Cutout (R100). A load that waits in the buffer is of a deferred kind (R163), so that no Cooling
Table is applied without its check. -/
def Bounded (s : State) : Prop :=
  s.link.notices.length ≤ 24 ∧ s.sales.vends.length ≤ 4 ∧ s.link.errors ≤ 255 ∧ s.link.dropped ≤ 255
    ∧ (1 ≤ s.link.floor ∧ s.link.floor ≤ 7) ∧ s.credit.carried ≤ 20000 ∧ s.plant.exposure ≤ 65535
    ∧ (∀ c ∈ s.bridge.channels, c.queue.length ≤ c.cfg.allocation)
    ∧ (∀ t ∈ s.tubes, t.count ≤ t.capacity ∧ t.jamCount ≤ 255) ∧ (∀ e ∈ s.coin.table, e.accepted ≤ 65535)
    ∧ s.plant.cooling.inRange = true ∧ (-50 ≤ s.plant.cooling.setpoint ∧ s.plant.cooling.setpoint ≤ 150)
    ∧ (5 ≤ s.plant.cooling.band ∧ s.plant.cooling.band ≤ 100) ∧ ∀ b, s.tables.staging = .pending b → b.kind.timing = .deferred

/-- R166: the mode is SERVICE exactly while the door is open, and SERVICE is never the remembered mode. -/
def ModeFollowsDoor (s : State) : Prop :=
  (s.tables.mode = .service ↔ s.pins.doorOpen = true) ∧ s.tables.remembered ≠ .service

/-! ### Coins (R3, R5, R6) -/

/-- An enabled entry's three windows contain the three readings (R3). -/
def EntryTakes (e : CoinEntry) (size alloy thickness : Nat) : Prop :=
  e.enabled = true ∧ (e.size.low ≤ size ∧ size ≤ e.size.high) ∧ (e.alloy.low ≤ alloy ∧ alloy ≤ e.alloy.high)
    ∧ (e.thickness.low ≤ thickness ∧ thickness ≤ e.thickness.high)

/-- The coin belongs to entry `i`: the first one that contains its signature (R3). -/
def BelongsTo (s : State) (size alloy thickness i : Nat) : Prop :=
  (∃ e, s.coin.table[i]? = some e ∧ EntryTakes e size alloy thickness)
    ∧ ∀ j, j < i → ∀ e, s.coin.table[j]? = some e → ¬ EntryTakes e size alloy thickness

/-- The prospective cash credit in an IDLE session and in another one (R4). -/
def creditBefore (s : State) : Nat :=
  if s.credit.session.state = .idle then s.credit.carried else s.credit.session.cashCredit

/-- The money checks of R5, checks 4 to 7, do not reject a coin of entry `i`. -/
def MoneyPasses (s : State) (i : Nat) : Prop :=
  s.credit.session.funding ≠ .card ∧ (s.credit.session.state = .idle ∨ s.credit.session.state = .opened)
    ∧ creditBefore s + (s.coinEntry i).value ≤ s.credit.policy.maxCredit
    ∧ (s.change.assured = true ∨ creditBefore s + (s.coinEntry i).value ≤ s.change.maxPrice)

/-- The checks of R5 in their order: what rejects a signature, with the subject of its notice. -/
inductive Rejects (s : State) (size alloy thickness : Nat) : Rejection → Option Nat → Prop
  | pathBusy (c : PendingCoin) : s.coin.path = .pending c → Rejects s size alloy thickness .pathBusy none
  | mode : s.coin.path = .empty → s.tables.mode = .config → Rejects s size alloy thickness .mode none
  | noMatch : s.coin.path = .empty → s.tables.mode ≠ .config → (∀ i, ¬ BelongsTo s size alloy thickness i) →
      Rejects s size alloy thickness .noMatch none
  | funding (i : Nat) : s.coin.path = .empty → s.tables.mode = .sales → BelongsTo s size alloy thickness i →
      s.credit.session.funding = .card → Rejects s size alloy thickness .funding (some i)
  | closing (i : Nat) : s.coin.path = .empty → s.tables.mode = .sales → BelongsTo s size alloy thickness i →
      s.credit.session.funding ≠ .card →
      (s.credit.session.state = .closeWait ∨ s.credit.session.state = .payout) →
      Rejects s size alloy thickness .closing (some i)
  | limit (i : Nat) : s.coin.path = .empty → s.tables.mode = .sales → BelongsTo s size alloy thickness i →
      s.credit.session.funding ≠ .card → (s.credit.session.state = .idle ∨ s.credit.session.state = .opened) →
      s.credit.policy.maxCredit < creditBefore s + (s.coinEntry i).value →
      Rejects s size alloy thickness .limit (some i)
  | exact (i : Nat) : s.coin.path = .empty → s.tables.mode = .sales → BelongsTo s size alloy thickness i →
      s.credit.session.funding ≠ .card → (s.credit.session.state = .idle ∨ s.credit.session.state = .opened) →
      creditBefore s + (s.coinEntry i).value ≤ s.credit.policy.maxCredit → s.change.assured = false →
      s.change.maxPrice < creditBefore s + (s.coinEntry i).value → Rejects s size alloy thickness .exact (some i)

/-- A signature passes every check of R5 as a coin of entry `i`: in SERVICE without the money checks. -/
def Passes (s : State) (size alloy thickness i : Nat) : Prop :=
  s.coin.path = .empty ∧ BelongsTo s size alloy thickness i
    ∧ (s.tables.mode = .service ∨ s.tables.mode = .sales ∧ MoneyPasses s i)

/-- Tube `n` takes a coin of entry `i` (R6). -/
def TubeTakes (s : State) (i n : Nat) : Prop :=
  (s.coinEntry i).route = .tube n ∧ (s.tube n).entry = some i
    ∧ ((s.tube n).state = .normal ∨ (s.tube n).state = .low ∨ (s.tube n).state = .empty)
    ∧ (s.tube n).count < (s.tube n).capacity

/-- The route of an accepted coin of entry `i` (R6). -/
def Routed (s : State) (i : Nat) (r : Route) : Prop :=
  (∃ n, TubeTakes s i n ∧ r = .tube n) ∨ ((∀ n, ¬ TubeTakes s i n) ∧ r = .cashbox)

/-! ### The holds and the acceptance mask (R26, R28, R29) -/

/-- The pending coin credit (R26): the value of a coin that falls with credit due. -/
def fallingCredit (s : State) : Nat :=
  match s.coin.path with
  | .pending c => if c.creditDue = true then c.value else 0
  | .empty => 0

/-- An ESCROW of the note index `k`, taken at this moment, is answered STACK (R26). -/
def Stacks (s : State) (k : Nat) : Prop :=
  let x := s.credit.session
  let total := creditBefore s + fallingCredit s + (s.noteEntry k).value
  k ≤ 7 ∧ (s.noteEntry k).enabled = true ∧ s.tables.mode = .sales ∧ x.funding ≠ .card ∧ (x.state = .idle ∨ x.state = .opened)
    ∧ total ≤ s.credit.policy.maxCredit ∧ (s.change.assured = true ∨ total ≤ s.change.maxPrice)

/-- The channel of a money role: the first enabled one (R129 admits one alone). -/
def HasRole (s : State) (r : Role) (n : Nat) : Prop :=
  (n < 4 ∧ (s.channel n).cfg.hostNode ≠ 0 ∧ (s.channel n).cfg.role = r)
    ∧ ∀ m, m < n → (s.channel m).cfg.hostNode = 0 ∨ (s.channel m).cfg.role ≠ r

/-- A channel that READY or SUSPECT is said of, AWAIT with its standing among them (R130). -/
def Live (c : Channel) : Prop := c.state = .ready ∨ c.state = .suspect ∨ ∃ y, c.state = .await y

/-- The channel of a money role is there, READY or SUSPECT, and its slot is empty (R29). -/
def SlotFree (s : State) (r : Role) : Prop := ∃ n, HasRole s r n ∧ Live (s.channel n) ∧ (s.channel n).slot = none

/-- The channel of a money role is there, READY or SUSPECT. -/
def Reachable (s : State) (r : Role) : Prop := ∃ n, HasRole s r n ∧ Live (s.channel n)

/-- The note acceptor's hold at the end of a command (R28, R29), with the command `x` that enters the slot: the escrow answer
first, and the mask `flags` behind it when it is due, which it is besides when the flags differ from those last handed over; while
none has been handed over since reset, differing flags make none due (log 44). An answer is discarded while the channel is away; a
due mask is kept. -/
def NoteHoldServed (s t : State) (flags : Byte) (x : Option Command) : Prop :=
  let due := s.credit.maskDue = true ∨ ∃ m, s.credit.maskLast = some m ∧ m ≠ flags
  let kept := (t.credit.maskDue = true ↔ due) ∧ t.credit.maskLast = s.credit.maskLast
  (¬ Reachable s .noteAcceptor → x = none ∧ t.credit.answer = none ∧ kept)
    ∧ (Reachable s .noteAcceptor → ¬ SlotFree s .noteAcceptor → x = none ∧ t.credit.answer = s.credit.answer ∧ kept)
    ∧ (SlotFree s .noteAcceptor →
      (s.credit.answer = some .stack → x = some .stack ∧ t.credit.answer = none ∧ kept)
        ∧ (s.credit.answer = some .giveBack → x = some .giveBack ∧ t.credit.answer = none ∧ kept)
        ∧ (s.credit.answer = none → due →
          x = some (.acceptMask flags) ∧ t.credit.answer = none ∧ t.credit.maskDue = false ∧ t.credit.maskLast = some flags)
        ∧ (s.credit.answer = none → ¬ due → x = none ∧ t.credit.answer = none ∧ kept))

/-- The card reader's DENY at the end of a command (R29), with the command `y` that enters the slot: it is discarded while the
channel is away. -/
def CardHoldServed (s t : State) (y : Option Command) : Prop :=
  (s.credit.deny = true → SlotFree s .cardReader → y = some .deny ∧ t.credit.deny = false)
    ∧ (s.credit.deny = true → Reachable s .cardReader → ¬ SlotFree s .cardReader → y = none ∧ t.credit.deny = true)
    ∧ ((s.credit.deny = false ∨ ¬ Reachable s .cardReader) → y = none ∧ t.credit.deny = false)

/-- The commands `x` and `y` have entered the slots of the note acceptor and the card reader, and nothing else of the bridge has
changed (R29, R143). -/
def SlotsFilled (s t : State) (x y : Option Command) : Prop :=
  t.bridge = { s.bridge with channels := t.bridge.channels } ∧ t.bridge.channels.length = s.bridge.channels.length
    ∧ ∀ n, n < s.bridge.channels.length →
      (∀ c, HasRole s .noteAcceptor n → x = some c → t.channel n = { s.channel n with slot := some c })
        ∧ (∀ c, HasRole s .cardReader n → y = some c → t.channel n = { s.channel n with slot := some c })
        ∧ ((HasRole s .noteAcceptor n → x = none) → (HasRole s .cardReader n → y = none) → t.channel n = s.channel n)

/-! ### Exact payments (R42) -/

/-- Numbers of coins, one for each line of an order, that the tubes can give. -/
def Affordable (order : List SearchLine) (ks : List Nat) : Prop :=
  ks.length = order.length ∧ ∀ (i : Nat) (l : SearchLine) (k : Nat), order[i]? = some l → ks[i]? = some k → k ≤ l.usable

/-- What numbers of coins are worth; lines that are not reached count nothing. -/
def worth : List SearchLine → List Nat → Nat
  | l :: ls, k :: ks => k * l.value + worth ls ks
  | _, _ => 0

/-! ### The payout -/

/-- A payout run of the change due `due` has ended between the states `v` and `t` with the remainder `r` (R56, R35, R38), after
the notices `before` and a last confirmed coin of `paid`: CHANGE_SHORT, the remainder to Carried Credit, SESSION_CLOSED and
CREDIT_CHANGED; the session and the sequencer are IDLE and the claim is released. That delivered vends and opened at are 0 too in
the session's cleared record is the model's choice (log 49). -/
def RunEndsShort (v t : State) (due r paid : Nat) (before : List Notice) : Prop :=
  let z := v.credit.session
  t.credit.session = .reset ∧ t.credit.carried = min 20000 (v.credit.carried + r)
    ∧ t.change.seq = .idle ∧ t.change.job = none
    ∧ t.load = { v.load with granted := v.load.granted.filter fun g => !(g.kind = .payout && g.owner = .change) }
    ∧ Raised v t
        (before ++
          [v.notice .changeShort none [r, due],
            v.notice .sessionClosed none [z.carriedIn, z.coinIn, z.noteIn, z.charged, z.changePaid + paid, r],
            v.notice .creditChanged none [0, 0, 0, 0, t.credit.carried]])

/-! ### Table loads -/

/-- `new` is the table `old` with these entries put into it from an index on, each record as `f` makes it of its entry and the
record that stood there; every other record is as it was (R164). -/
def Loaded {α : Type} (old new : List α) (first : Nat) (entries : List (List Byte)) (f : List Byte → α → Option α) : Prop :=
  new.length = old.length
    ∧ (∀ j e x y, entries[j]? = some e → old[first + j]? = some x → f e x = some y → new[first + j]? = some y)
    ∧ ∀ j, (j < first ∨ first + entries.length ≤ j) → new[j]? = old[j]?

/-! ### Selections and vends -/

/-- A position is sellable (R61). -/
def Sellable (s : State) (p : Nat) : Prop :=
  0 < (s.selection p).price ∧ (s.selection p).state = .available
    ∧ ¬ ((s.selection p).health = .chilled ∧ s.plant.lockout = true)

/-- `m` is the highest price among the sellable records, or 0 (R50). -/
def HighestPrice (xs : List Selection) (lockout : Bool) (m : Nat) : Prop :=
  (∀ x ∈ xs, x.sellable lockout = true → x.price ≤ m)
    ∧ (m = 0 ∨ ∃ x ∈ xs, x.sellable lockout = true ∧ x.price = m)

/-- A motor claim of a group is granted as soon as it is placed: none of its kind is waiting or granted, nothing waits, and
it fits the Budget (R121, R122). -/
def GrantsMotor (s : State) (g : Group) : Prop :=
  NothingWaits s ∧ (∀ x ∈ s.load.granted, x.kind ≠ .motor g)
    ∧ s.load.drawn + s.load.table.units (.motor g) ≤ s.load.table.budget

/-- A grant made now (R122). -/
def grantNow (s : State) (k : LoadKind) (o : Claimant) : Grant :=
  { kind := k, owner := o, units := s.load.table.units k, since := s.now, arrival := s.now }

/-- `v` is the only vend, without a result, in an OPEN session. -/
def OnlyVend (s : State) (v : Vend) : Prop :=
  s.sales.vends = [v] ∧ v.result = none ∧ s.credit.session.state = .opened

/-- `v` is the only vend of an OPEN session and waits; `load` is the load without its claim: a QUEUED vend has none, and one in
WAIT_POWER has the only claim that waits (R68, R74, R75). -/
def WaitsAlone (s : State) (v : Vend) (load : LoadUnit) : Prop :=
  OnlyVend s v
    ∧ (v.state = .queued ∧ NothingWaits s ∧ load = s.load
      ∨ v.state = .waitPower ∧ s.load.held = [] ∧ load = { s.load with queue := [] }
        ∧ (∃ c, s.load.queue = [c] ∧ c.kind = .motor (groupOf v.position) ∧ c.owner = .vend)
        ∧ ∀ g ∈ s.load.granted, ¬ (g.kind = .motor (groupOf v.position) ∧ g.owner = .vend))

/-- The values of the VEND_RESULT of a vend with the result of a code (R73). -/
def resultValues (v : Vend) (code : Nat) : List Nat :=
  [code, v.price, v.turnsMade, boolCode v.droppedEarly, v.request.toNat]

/-- The sales without the vend `v` (R73, steps 3 and 5), the only one listed. -/
def SalesUnit.without (u : SalesUnit) (v : Vend) : SalesUnit :=
  { u with vends := [], started := u.started.filter (· ≠ v.id) }

/-- The last vend `v` has ended with the result of the code `r` and closes its session (R31, R34; R73 steps 2 to 6): `s` is the
state the end found, `x` the selection and `z` the session that it leaves, the charge among it. Behind VEND_RESULT a CASH session
that owes nothing is over (R35) with SESSION_CLOSED; one that owes change enters PAYOUT, whose claim is granted at once and whose
first tube is pulsed (R51, R52); a CARD session settles into the slot or onto the list (R36). CREDIT_CHANGED follows (R38). That
delivered vends and opened at are 0 in a cleared session record is the model's choice (log 49). -/
def EndCloses (s : State) (v : Vend) (r : Nat) (x : Selection) (z : Session) (out : Host.Outcome State Fault Refusal) :
    Prop :=
  let result := s.notice .vendResult (some v.position) (resultValues v r)
  let sales : SalesUnit := { s.sales.without v with selections := s.sales.selections.set v.position x }
  NothingWaits s → NothingPending s →
  (z.card = none → z.cashCredit = 0 →
      ∃ t : State, out = .next t ∧ t.credit.session = .reset ∧ t.sales = sales
        ∧ Raised s t
            [result, s.notice .sessionClosed none [z.carriedIn, z.coinIn, z.noteIn, z.charged, z.changePaid, 0],
              s.notice .creditChanged none [0, 0, 0, 0, s.credit.carried]]
        ∧ SameExcept (([.session, .selections, .vends] : List Part) ++ closing) s t)
    ∧ (∀ l ls, z.card = none → z.cashCredit ≠ 0 → s.change.seq = .idle → (∀ g ∈ s.load.granted, g.kind ≠ .payout) →
      s.load.drawn + s.load.table.payout ≤ s.load.table.budget → planFor s.searchOrder z.cashCredit = l :: ls →
      ∃ t : State, out = .next t ∧ t.credit.session = { z with state := .payout } ∧ t.sales = sales
        ∧ t.change =
          { s.change with
            seq := .firstWait l.tube s.now
            job := some (.payout z.cashCredit z.cashCredit (l :: ls))
            pulses := editAt (· + 1) (l.tube - 1) s.change.pulses }
        ∧ t.load = { s.load with granted := s.load.granted ++ [grantNow s .payout .change] }
        ∧ Raised s t [result, s.notice .creditChanged none [3, z.funding.code, z.cashCredit, 0, s.credit.carried]]
        ∧ SameExcept (([.session, .selections, .vends, .payout, .load] : List Part) ++ closing) s t)
    ∧ ∀ c, z.card = some c → (s.bridge.channels[c.channel]?).isSome →
      let settled : Settlement :=
        { channel := c.channel, amount := z.cardUsed, vends := z.delivered, openedAt := z.openedAt }
      let free := (s.channel c.channel).isReady = true ∧ (s.channel c.channel).slot = none ∧ s.credit.deny = false
        ∧ ∀ y ∈ s.credit.settlements, y.channel ≠ c.channel
      ∃ t : State, out = .next t ∧ t.credit.session = .reset ∧ t.sales = sales
        ∧ (free → (t.channel c.channel).slot = some (.settle settled) ∧ t.credit.settlements = s.credit.settlements)
        ∧ (¬ free → t.credit.settlements = s.credit.settlements ++ [settled])
        ∧ (∀ d, (free ∧ d = 0 ∨ ¬ free ∧ d = 1) →
          Raised s t
            [result, s.notice .sessionClosed (some c.channel) [c.limit, z.cardUsed, z.delivered, d],
              s.notice .creditChanged none [0, 0, 0, 0, s.credit.carried]])
        ∧ SameExcept (([.session, .settlements, .selections, .vends] : List Part) ++ closing) s t

/-- `load` is the load once the claim of `v` has been given back (R73, step 1): a vend that turns has a granted claim, one in
WAIT_POWER the only claim that waits, and any other none. -/
def ClaimGone (s : State) (v : Vend) (load : LoadUnit) : Prop :=
  (v.state = .queued ∨ ∃ since, v.state = .dropWait since) ∧ load = s.load
    ∨ v.state = .turning
      ∧ load =
        { s.load with granted := s.load.granted.filter fun g => !(g.kind = .motor (groupOf v.position) && g.owner = .vend) }
    ∨ v.state = .waitPower ∧ s.load.held = [] ∧ load = { s.load with queue := [] }
      ∧ (∃ c, s.load.queue = [c] ∧ c.kind = .motor (groupOf v.position) ∧ c.owner = .vend)
      ∧ ∀ g ∈ s.load.granted, ¬ (g.kind = .motor (groupOf v.position) ∧ g.owner = .vend)

/-- A vend is a candidate for a drop (R72). -/
def CanTake (v : Vend) : Prop :=
  v.result = none ∧ (v.state = .turning ∧ v.droppedEarly = false ∨ ∃ since, v.state = .dropWait since)

/-- What a fault of the turn `t` of group `g` leaves of the state `s` (R86): the group rests from now on, the position is JAMMED
and Max Available Price computed anew (R64, R50), MOTOR_JAM carries the reason, the phase, elapsed, the last current and the
owner, and the claim is released. A test has then ended (R93); the only vend ends JAMMED with its VEND_RESULT (R70), which in
CLOSE_WAIT completes the close (R31; `EndCloses`), and a second one that is QUEUED at the position ends CANCELLED before MOTOR_JAM
(R74). No claim waits. -/
def Faulted (s : State) (g : Group) (t : Turn) (why : MotorFault) (phase : Nat) (out : Host.Outcome State Fault Refusal) :
    Prop :=
  let p := t.position
  let xs := s.sales.selections.set p { s.selection p with state := .jammed }
  let values := fun owner => [why.code, phase, min 4000 (s.now - t.energizedAt), (s.group g).lastCurrent, owner]
  let released := fun o : Claimant =>
    { s.load with granted := s.load.granted.filter fun c => !(c.kind = .motor g && c.owner = o) }
  NothingWaits s →
  (t.owner = .test → (∀ v ∈ s.sales.vends, v.position = p → v.waits = false) →
      ∃ m, HighestPrice xs s.plant.lockout m
        ∧ out =
          .next
            (State.conclude
              (State.modGroup
                (State.raise
                  { s with
                    sales := { s.sales with selections := xs }
                    change := { s.change with maxPrice := m }
                    load := released .test }
                  .motorJam (some p) (values 1))
                g
                fun r => { r with state := .stopped s.now, test := none })))
    ∧ (t.owner = .vend → ∀ v, OnlyVend s v → v.state = .turning → v.position = p → groupOf p = g →
      ∃ m, HighestPrice xs s.plant.lockout m
        ∧ out =
          .next
            (State.conclude
              (State.modGroup
                ((State.raise
                    { s with
                      sales :=
                        { s.sales with selections := xs, vends := [], started := s.sales.started.filter (· ≠ v.id) }
                      change := { s.change with maxPrice := m }
                      load := released .vend }
                    .motorJam (some p) (values 0)).raise
                  .vendResult (some p) [2, v.price, v.turnsMade, boolCode v.droppedEarly, v.request.toNat])
                g
                fun r => { r with state := .stopped s.now })))
    ∧ (t.owner = .vend → ∀ v, s.sales.vends = [v] → v.result = none → s.credit.session.state = .closeWait →
      v.state = .turning → v.position = p → groupOf p = g →
      ∃ m, HighestPrice xs s.plant.lockout m
        ∧ EndCloses
            (State.modGroup
              (State.raise { s with change := { s.change with maxPrice := m }, load := released .vend } .motorJam (some p)
                (values 0))
              g
              fun r => { r with state := .stopped s.now })
            v 2 { s.selection p with state := .jammed } s.credit.session out)
    ∧ (t.owner = .vend → ∀ v w, s.sales.vends = [v, w] → v.id ≠ w.id → v.result = none → w.result = none →
      s.credit.session.state = .opened → v.state = .turning → w.state = .queued → v.position = p → w.position = p →
      groupOf p = g →
      ∃ m, HighestPrice xs s.plant.lockout m
        ∧ out =
          .next
            (State.conclude
              (State.modGroup
                (((State.raise
                    { s with
                      sales :=
                        { s.sales with
                          selections := xs, vends := []
                          started := s.sales.started.filter fun i => decide (i ≠ v.id ∧ i ≠ w.id) }
                      change := { s.change with maxPrice := m }
                      load := released .vend }
                    .vendResult (some p) (resultValues w 5)).raise
                  .motorJam (some p) (values 0)).raise
                  .vendResult (some p) (resultValues v 2))
                g
                fun r => { r with state := .stopped s.now })))

/-! ### Temperatures (R98) -/

/-- Counts that rise strictly. -/
def Rising (curve : List CurvePoint) : Prop := curve.Pairwise fun p q => p.count < q.count

/-- A sensor's record after a sample (R96, R97): a good count is converted through the curve and makes it VALID; a bad one keeps
the working temperature, that of point 0 where there is none, raises the bad run to at most 60, stores the fault, and makes the
sensor FAILED at 60. -/
def SensorAfter (x : Sensor) (curve : List CurvePoint) (count : Nat) (y : Sensor) : Prop :=
  (16 ≤ count ∧ count ≤ 4079 →
      y = { state := .valid, temp := some (convert curve count), badRun := 0, lastFault := none })
    ∧ ((count < 16 ∨ 4079 < count) →
      y.badRun = min 60 (x.badRun + 1)
        ∧ y.lastFault = some (if count < 16 then .short else .opened)
        ∧ y.temp = some (x.temp.getD (pointZero curve))
        ∧ y.state = if x.state = .failed ∨ y.badRun = 60 then .failed else .holding)

/-! ### The Peripheral Bus (R130 to R138) -/

/-- The work a channel has at a moment, in the order of R134: the slot's command, the head of the queue, a POLL with the last
event number, and a PROBE after 1 s in PROBING or 2 s in LOST. -/
inductive HasWork (c : Channel) (now : Nat) : WorkItem → Prop
  | slot (x : Command) : (c.state = .ready ∨ c.state = .suspect) → c.slot = some x →
      HasWork c now { work := .internal, kind := x.wire.1, payload := x.wire.2 }
  | queue (f : HostFrame) (fs : List HostFrame) : (c.state = .ready ∨ c.state = .suspect) → c.slot = none →
      c.queue = f :: fs → HasWork c now { work := .host, kind := f.kind, payload := f.payload }
  | poll : (c.state = .ready ∨ c.state = .suspect) → c.slot = none → c.queue = [] →
      c.lastActivity + 50 * c.cfg.pollInterval ≤ now →
      HasWork c now { work := .poll, kind := 0x42, payload := c.lastEvent.toList }
  | probe : (c.state = .probing ∧ c.lastProbe + 1000 ≤ now ∨ c.state = .lost ∧ c.lastProbe + 2000 ≤ now) →
      HasWork c now { work := .probe, kind := 0x40, payload := [] }

/-- A transaction of channel `n` has started (R135): its frame is on the bus with the channel's node and a bus sequence that
differs from the channel's last one, whichever it is; the sequence is stored, a READY or SUSPECT channel is in AWAIT with that
standing, and the channel is last served. DE is asserted, and released when the payload's and seven more bytes of 10 bits have
been sent at 19 200 baud (R128), in whole milliseconds (log 35). (`draws` counts the free values drawn, log 10.) -/
def Started (s : State) (n : Nat) (j : WorkItem) (t : State) : Prop :=
  ∃ q, q ≠ (s.channel n).lastSeq ∧
    let c := s.channel n
    let state :=
      match c.state with
      | .ready => .await .ready
      | .suspect => .await .suspect
      | other => other
    t.de = true ∧ t =
      { s with
        draws := s.draws + 1
        bridge :=
          { s.bridge with
            channels := s.bridge.channels.set n { c with state := state, lastSeq := q }
            line := .waiting
              { channel := n, work := j.work, node := u8 c.cfg.node, seq := q
                sentAt := s.now + ((j.payload.length + 7) * 10000 + 19199) / 19200 }
            lastServed := n
            sent := s.bridge.sent ++ [{ node := u8 c.cfg.node, kind := j.kind, seq := q, payload := j.payload }] } }

/-- The scheduler has looked for work with the line IDLE (R134): from the channel after last served on, round from 3 to 0, the
first channel with work starts it; without work nothing starts. -/
def Looks (s : State) (out : Host.Outcome State Fault Refusal) : Prop :=
  ((∀ n, n < 4 → ∀ j, ¬ HasWork (s.channel n) s.now j) → out = .next s.conclude)
    ∧ ∀ i j, i < 4 →
      (∀ k, k < i → ∀ x, ¬ HasWork (s.channel ((s.bridge.lastServed + 1 + k) % 4)) s.now x) →
      HasWork (s.channel ((s.bridge.lastServed + 1 + i) % 4)) s.now j →
      ∃ t, Started s ((s.bridge.lastServed + 1 + i) % 4) j t ∧ out = .next t.conclude

/-- What the scheduler's look leaves of a state, when it takes one (R134): with the line IDLE the first work in its order has
started (`Started`, with logs 10 and 35). -/
def Looked (s t : State) : Prop :=
  ((s.bridge.line ≠ .idle ∨ ∀ n, n < 4 → ∀ j, ¬ HasWork (s.channel n) s.now j) → t = s)
    ∧ ∀ i j, s.bridge.line = .idle → i < 4 →
      (∀ k, k < i → ∀ x, ¬ HasWork (s.channel ((s.bridge.lastServed + 1 + k) % 4)) s.now x) →
      HasWork (s.channel ((s.bridge.lastServed + 1 + i) % 4)) s.now j →
      Started s ((s.bridge.lastServed + 1 + i) % 4) j t

/-- The end of a command leaves `t` of `s` (log 4), by way of `u`: the change of credit, if there is one, has its CREDIT_CHANGED
(R38); the holds are served with the acceptance mask as its inputs then stand (R28, R29); and the scheduler looks for work when a
command has entered a slot (R134). -/
def ConcludedBy (s t u : State) (flags : Byte) (x y : Option Command) : Prop :=
  (∀ k, k < 8 → (flags.getLsbD k = true ↔ Stacks s k))
    ∧ NoteHoldServed s u flags x ∧ CardHoldServed s u y ∧ SlotsFilled s u x y
    ∧ u.credit.changed = false
    ∧ Raised s u
        (if s.credit.changed = true then
          [s.notice .creditChanged none
            [s.credit.session.state.code, s.credit.session.funding.code, s.credit.session.cashCredit,
             s.credit.session.cardLeft, s.credit.carried]]
        else [])
    ∧ SameExcept [.holds, .unreported, .bridge, .notices] s u
    ∧ (x = none → y = none → t = u) ∧ (x ≠ none ∨ y ≠ none → Looked u t)

/-- What the end of a command leaves (R28, R29, R38; log 4). -/
def Concluded (s t : State) : Prop := ∃ u flags x y, ConcludedBy s t u flags x y

/-- The settlement listed first for a channel has moved to its empty slot, no DENY being held; with none listed, or no room for
it, nothing has (R37). -/
def HeadMoved (n : Nat) (s t : State) : Prop :=
  (∀ r ahead behind, s.credit.settlements = ahead ++ r :: behind → r.channel = n → (∀ y ∈ ahead, y.channel ≠ n) →
      (s.channel n).slot = none → s.credit.deny = false →
      t =
        { s with
          credit := { s.credit with settlements := ahead ++ behind }
          bridge := { s.bridge with channels := s.bridge.channels.set n { s.channel n with slot := some (.settle r) } } })
    ∧ (((s.channel n).slot ≠ none ∨ s.credit.deny = true ∨ ∀ y ∈ s.credit.settlements, y.channel ≠ n) → t = s)

/-- The Credit Session Unit is told that channel `n` has become READY (R130): a mask is due to the note acceptor (R28), and the
settlement listed first for the card reader moves to its slot (R37). -/
def BecomesReady (n : Nat) (s t : State) : Prop :=
  match (s.channel n).cfg.role with
  | .noteAcceptor => t = { s with credit := { s.credit with maskDue := true } }
  | .cardReader => HeadMoved n s t
  | .passive => t = s

/-- What the host receives for a frame that fails (R133): a REFUSED reply with the reason, or with early accept the notice. -/
def hostFails (s : State) (n : Nat) (f : HostFrame) (why : Reason) : State :=
  if (s.channel n).cfg.early = true then s.raise .peripheralTimeout (some n) [f.kind.toNat, f.seq.toNat, why.code]
  else s.transmit { node := f.hostNode, kind := 0x80, seq := f.seq, payload := [1, u8 why.code] }

/-- The transaction `x` has missed in the state `s` (R137, R138): in AWAIT the miss count rises, and the channel is SUSPECT below
the miss limit; a host frame leaves its queue and fails with TIMEOUT, and anything else stays as it is; PROBING counts its misses
too, and LOST only notes the PROBE. At the limit the channel is LOST: its other queued frames `fs` fail with CHANNEL_LOST in queue
order, its slot is emptied with a SETTLE handed back, its hold is discarded, CHANNEL_LOST is raised with the node, the number of
`fs` and the slot's outcome, and then a host frame that was on the bus fails with TIMEOUT (log 25). The line is then in GUARD. -/
def Missed (s : State) (x : Txn) (out : Host.Outcome State Fault Refusal) : Prop :=
  let n := x.channel
  let c := s.channel n
  let misses := min 15 (c.misses + 1)
  let with' := fun (s : State) (c : Channel) =>
    { s with bridge := { s.bridge with channels := s.bridge.channels.set n c, line := .guarding s.now } }
  ((∃ y, c.state = .await y) → misses < c.cfg.missLimit → x.work ≠ .host →
      out = .next (with' s { c with misses := misses, state := .suspect }).conclude)
    ∧ (∀ f fs, (∃ y, c.state = .await y) → misses < c.cfg.missLimit → x.work = .host → c.queue = f :: fs →
      out = .next (hostFails (with' s { c with misses := misses, state := .suspect, queue := fs }) n f .timeout).conclude)
    ∧ (c.state = .probing → misses < c.cfg.missLimit → x.work = .probe →
      out = .next (with' s { c with misses := misses, lastProbe := s.now }).conclude)
    ∧ (c.state = .lost → x.work = .probe → out = .next (with' s { c with lastProbe := s.now }).conclude)
    ∧ ∀ (onBus : Option HostFrame) (fs : List HostFrame) (settles : List Settlement) (slotCode : Nat),
      ((∃ y, c.state = .await y) ∨ c.state = .probing) → c.cfg.missLimit ≤ misses →
      (x.work ≠ .host ∧ onBus = none ∧ fs = c.queue ∨ x.work = .host ∧ ∃ f, onBus = some f ∧ c.queue = f :: fs) →
      (c.slot = none ∧ settles = [] ∧ slotCode = 0 ∨ (∃ r, c.slot = some (.settle r) ∧ settles = [r] ∧ slotCode = 1)
        ∨ ∃ y, c.slot = some y ∧ (∀ r, y ≠ .settle r) ∧ settles = [] ∧ slotCode = 2) →
      let u := with' s { c with misses := misses, state := .lost, slot := none, queue := [], lastProbe := s.now }
      let failed := fs.foldl (fun s f => hostFails s n f .channelLost) u
      let lost :=
        State.raise
          { failed with
            credit :=
              { s.credit with
                settlements := s.credit.settlements ++ settles
                answer := if c.cfg.role = .noteAcceptor then none else s.credit.answer
                deny := if c.cfg.role = .cardReader then false else s.credit.deny } }
          .channelLost (some n) [c.cfg.node, fs.length, slotCode]
      out =
        .next
          (match onBus with
            | some f => hostFails lost n f .timeout
            | none => lost).conclude

/-! ### The Machine Link (R149) -/

/-- A receive error (R149): the link error count rises by 1 to at most 255, and the eighth, with the report mark clear, raises
LINK_ERRORS and sets the mark; there is no reply. -/
def ErrorCounted (s : State) (out : Host.Outcome State Fault Refusal) : Prop :=
  let u : State := { s with link := { s.link with rx := .hunting, errors := min 255 (s.link.errors + 1) } }
  (¬ (s.link.errors = 7 ∧ s.link.reported = false) → out = .next u)
    ∧ (s.link.errors = 7 → s.link.reported = false →
      ∃ t : State, t = u.raise .linkErrors none [8] ∧ out = .next { t with link := { t.link with reported := true } })

end Sys2Proof.Machine
end

