-- ==== Sys2Proof/Certificates/Slice0/Obligations.lean ====
section
/-! DEFINITION. The statements for the provers. Each docstring names the rules of spec/ it formalises; a statement that rests
on a choice of the model says so and names the log entry. `State.raise`, `State.accept` and `State.refuse` form a notice and
a reply (R151, R154); `State.conclude` is the end of a command (log 4). -/

open Sys2Proof Sys2Proof.Machine

/-! ### The machine -/

/-- A step carries out the command at the front of the queue with the queue's rest; on an empty queue one millisecond passes
and nothing else changes (the last is the model's choice, log 2). -/
def Obligations.StepRunsFront : Prop :=
  (∀ s c rest, s.pending = c :: rest → step s = exec c { s with pending := rest })
    ∧ ∀ s, s.pending = [] → step s = .next { s with now := s.now + 1 }

/-- The machine after reset meets the invariants that the statements below say every step keeps. -/
def Obligations.ResetMeetsInvariants : Prop :=
  HeaterApart State.reset ∧ WithinBudget State.reset ∧ OneOfAKind State.reset ∧ Bounded State.reset
    ∧ ModeFollowsDoor State.reset ∧ Reported State.reset

/-- R109: no step brings the compressor relay and the defrost heater on together. -/
def Obligations.HeaterApartKept : Prop :=
  ∀ s t, HeaterApart s → step s = .next t → HeaterApart t ∧ ¬ (t.plant.relay = true ∧ t.plant.heater = true)

/-- R120: Base Load and the units of all granted claims stay within the Budget. -/
def Obligations.BudgetKept : Prop :=
  ∀ s t, WithinBudget s → step s = .next t → WithinBudget t

/-- R120: no step puts a kind twice among the waiting and granted claims (COMPRESSOR_RUN left aside). -/
def Obligations.OneOfAKindKept : Prop :=
  ∀ s t, OneOfAKind s → step s = .next t → OneOfAKind t

/-- The queues stay within their capacities and the counters at or below their maximum: the Notice Queue (R154, R155), the Vend
List (R65), each channel's queue at its allocation (R131), each tube's count at its capacity and jam counts (R15), the link's
counters and floor (R149, R155), Carried Credit (R23), Exposure (R114) and accepted counts (R2). Every field of the Cooling Table
stays in its range, with Condenser Reset below Condenser Cutout (R100), and a load that waits is of a deferred kind (R163). -/
def Obligations.BoundsKept : Prop :=
  ∀ s t, Bounded s → step s = .next t → Bounded t

/-- R166: the mode stays SERVICE exactly while the door is open. -/
def Obligations.ModeFollowsDoorKept : Prop :=
  ∀ s t, ModeFollowsDoor s → step s = .next t → ModeFollowsDoor t

/-- R38: when a command ends, no change of credit is left without its CREDIT_CHANGED, which the model raises once, as the last
notice of the command (log 4). A step that changes the session's state, funding, cash credit or card used, or Carried Credit, has
raised CREDIT_CHANGED with its five values: it stands last in the Notice Queue, unless the floor or a full queue of notices of
level 4 and above has kept it out (R155). Resets and a soft restart raise none. -/
def Obligations.ReportedKept : Prop :=
  ∀ s t, Reported s → step s = .next t →
    Reported t
      ∧ ((∀ c rest, s.pending = c :: rest → c ≠ .powerOnReset ∧ c ≠ .resetPin ∧ ∀ seq p, c ≠ .restart seq p) →
        (t.credit.session.state ≠ s.credit.session.state ∨ t.credit.session.funding ≠ s.credit.session.funding
          ∨ t.credit.session.cashCredit ≠ s.credit.session.cashCredit
          ∨ t.credit.session.cardUsed ≠ s.credit.session.cardUsed ∨ t.credit.carried ≠ s.credit.carried) →
        4 < t.link.floor
          ∨ t.link.notices.getLast? =
              some
                (t.notice .creditChanged none
                  [t.credit.session.state.code, t.credit.session.funding.code, t.credit.session.cashCredit,
                   match t.credit.session.card with
                   | some c => c.limit - t.credit.session.cardUsed
                   | none => 0,
                   t.credit.carried])
          ∨ 24 ≤ t.link.notices.length ∧ 1 ≤ t.link.dropped ∧ ∀ x ∈ t.link.notices, 4 ≤ x.kind.level)

/-! ### Coins (01) -/

/-- A coin signature that a check of R5 rejects raises COIN_REJECTED with the reason, the matched entry where there is one,
and the three readings; PATH_BUSY closes the gate; nothing else changes. -/
def Obligations.CoinRejected : Prop :=
  ∀ s size alloy thickness why subject, Rejects s size alloy thickness why subject →
    exec (.coinSignature size alloy thickness) s =
      .next
        ((if why = .pathBusy then { s with coin := { s.coin with gate := .closed } } else s).raise .coinRejected subject
          [why.code, size, alloy, thickness])

/-- A coin signature that passes every check of R5 is accepted by R6: the gate opens and Gate Hold starts, and the path record
holds the entry, its value, the route, credit due in SALES alone, and the moment. The end of the command follows. -/
def Obligations.CoinAccepted : Prop :=
  ∀ s size alloy thickness i, Passes s size alloy thickness i →
    ∃ r, Routed s i r ∧
      exec (.coinSignature size alloy thickness) s =
        .next
          { s with
            coin :=
              { s.coin with
                gate := .opened s.now
                path := .pending
                  { entry := i, value := (s.coinEntry i).value, route := r, creditDue := decide (s.tables.mode = Mode.sales),
                    acceptedAt := s.now } } }.conclude

/-- GATE_HOLD_END closes an open gate 300 ms after it opened (R7). PATH_TIMEOUT, 600 ms after the acceptance, returns the
pending coin: the path is EMPTY, the selector rests at CASHBOX, and COIN_PATH_FAULT names the entry and the route (R12).
With no gate open or no coin pending, the command changes nothing. That the command brings the clock to the deadline is the
model's choice (log 2). -/
def Obligations.CoinTimersEnd : Prop :=
  (∀ s since, s.coin.gate = .opened since →
      exec .gateHoldEnd s =
        .next { s with now := max s.now (since + 300), coin := { s.coin with gate := .closed } })
    ∧ (∀ s, s.coin.gate = .closed → exec .gateHoldEnd s = .next s)
    ∧ (∀ s c, s.coin.path = .pending c →
      ∃ t, exec .pathTimeout s = .next t ∧ t.selector = .cashbox ∧
        t =
          (State.raise
            { s with
              now := max s.now (c.acceptedAt + 600)
              coin := { s.coin with path := .empty, gate := .closed } }
            .coinPathFault (some c.entry) [c.route.code]).conclude)
    ∧ ∀ s, s.coin.path = .empty → exec .pathTimeout s = .next s

/-- R11: a passage with the path EMPTY raises UNEXPECTED_COIN without subject and values, and changes nothing else; the
selector rests at CASHBOX. -/
def Obligations.PassageUnexpected : Prop :=
  ∀ s, s.coin.path = .empty →
    s.selector = .cashbox ∧
      exec .pathPassage s =
        .next
          { s with
            link :=
              s.link.push { kind := .unexpectedCoin, stamp := s.stamp, subject := none, values := [] } }

/-- A passage with a coin pending (R9): the gate is closed, the path EMPTY and the entry's accepted count raised by 1 (R2,
stopping at 65535); a coin routed to a tube that still names its entry raises that tube's count by 1, up to the capacity
(R15), and no other tube changes; without credit due no credit changes. -/
def Obligations.PassageConfirms : Prop :=
  ∀ s c, s.coin.path = .pending c →
    ∃ t, exec .pathPassage s = .next t
      ∧ t.coin =
          { table := editAt (fun e => { e with accepted := min 65535 (e.accepted + 1) }) c.entry s.coin.table
            path := .empty, gate := .closed }
      ∧ (∀ n, c.route = .tube n → (s.tube n).entry = some c.entry →
          t.tubes =
            s.tubes.set (n - 1)
              ({ s.tube n with
                  count := if (s.tube n).count < (s.tube n).capacity then (s.tube n).count + 1 else (s.tube n).count
                  }.derive false))
      ∧ ((c.route = .cashbox ∨ ∃ n, c.route = .tube n ∧ (s.tube n).entry ≠ some c.entry) → t.tubes = s.tubes)
      ∧ (c.creditDue = false → Part.session.same s t ∧ Part.carried.same s t)
      ∧ SameExcept ([.coin, .tubes, .assurance, .session, .carried] ++ closing) s t

/-- The credit of a confirmed coin (R9 step 5, R10, R21, R22): in an IDLE session a CASH session opens with the Carried Credit
as carried in; in a CASH session that is OPEN or CLOSE_WAIT, or has just opened, the part that keeps cash credit at or below
the ceiling goes to coin in and the excess to Carried Credit; with CARD funding or in PAYOUT all of it goes to Carried
Credit. Carried Credit stops at 20000. -/
def Obligations.PassageCredits : Prop :=
  ∀ s c, s.coin.path = .pending c → c.creditDue = true →
    ∃ t, exec .pathPassage s = .next t
      ∧ (s.credit.session.state = .idle →
          let into := min c.value (max s.credit.policy.maxCredit s.credit.carried - s.credit.carried)
          t.credit.session =
              { Session.reset with
                state := .opened, funding := .cash, carriedIn := s.credit.carried, coinIn := into, openedAt := s.stamp }
            ∧ t.credit.carried = min 20000 (c.value - into))
      ∧ (s.credit.session.funding = .cash ∧ (s.credit.session.state = .opened ∨ s.credit.session.state = .closeWait) →
          let into :=
            min c.value
              (max s.credit.policy.maxCredit s.credit.session.carriedIn - s.credit.session.cashCredit)
          t.credit.session = { s.credit.session with coinIn := s.credit.session.coinIn + into }
            ∧ t.credit.carried =
              if into = c.value then s.credit.carried else min 20000 (s.credit.carried + (c.value - into)))
      ∧ (s.credit.session.state ≠ .idle
          ∧ (s.credit.session.funding ≠ .cash ∨ s.credit.session.state = .payout) →
          t.credit.session = s.credit.session ∧ t.credit.carried = min 20000 (s.credit.carried + c.value))

/-- A low sensor's change of reading (R16): on a tube that is not ABSENT, a change to COVERED with the count at or below the
low mark sets the count to low mark + 1, at most the capacity, and a change to UNCOVERED with the count above the low mark
sets it to the low mark; the state is derived anew (R15), an assurance evaluation is triggered by a change, and TUBE_RECOUNT
carries the count before and after. Any other change of reading is stored alone. That no evaluation starts where count and state
stay as they were is the model's reading of R15 (log 15), and that TUBE_RECOUNT is raised even where the count stays, with the low
mark at the capacity, its reading of R16 (log 32). -/
def Obligations.LowSensorCorrects : Prop :=
  ∀ s n covered, 1 ≤ n → n ≤ 5 → (s.tube n).covered ≠ covered →
    let x := s.tube n
    (∀ c, x.state ≠ .absent →
        (covered = true ∧ x.count ≤ x.lowMark ∧ c = min (x.lowMark + 1) x.capacity
          ∨ covered = false ∧ x.lowMark < x.count ∧ c = x.lowMark) →
        let y := { x with covered := covered, count := c }.derive false
        let u : State := { s with tubes := s.tubes.set (n - 1) y }
        exec (.lowSensorChange n covered) s =
          .next
            ((if x.count = c ∧ x.state = y.state then u else u.triggerAssurance).raise .tubeRecount (some n)
              [x.count, c]).conclude)
      ∧ ((x.state = .absent ∨ covered = true ∧ x.lowMark < x.count ∨ covered = false ∧ x.count ≤ x.lowMark) →
        exec (.lowSensorChange n covered) s =
          .next (State.conclude { s with tubes := s.tubes.set (n - 1) { x with covered := covered } }))

/-- TUBE_SET (R17): the four refusals in their order, and otherwise the stored count, clamped to the capacity, the state
derived anew with JAMMED cleared, and the reply with tube, count and state; a change of count or state triggers an assurance
evaluation (R15), and that one which changes neither starts none is the model's reading (log 15). A payload without both bytes is
refused BAD_ARGUMENT (R150); that this comes before the rule's own checks is the model's choice (log 14). -/
def Obligations.TubeSetTaken : Prop :=
  (∀ s seq p, p.length < 2 → exec (.tubeSet seq p) s = .next (s.frameTaken.refuse seq .badArgument))
    ∧ ∀ s seq (b d : Byte) rest,
      let n := b.toNat
      let x := s.tube n
      let y := { x with count := min d.toNat x.capacity }.derive true
      let u : State := { s.frameTaken with tubes := s.tubes.set (n - 1) y }
      exec (.tubeSet seq (b :: d :: rest)) s =
        .next
          (if s.tables.mode = .sales then s.frameTaken.refuse seq .badMode
            else if ¬ (1 ≤ n ∧ n ≤ 5) then s.frameTaken.refuse seq .badArgument
            else if x.state = .absent then s.frameTaken.refuse seq .badArgument
            else if s.change.seq ≠ .idle then s.frameTaken.refuse seq .busy
            else
              ((if x.count = y.count ∧ x.state = y.state then u else u.triggerAssurance).accept seq
                [u8 n, u8 y.count, u8 y.state.code]).conclude)

/-! ### Sessions (02) -/

/-- END_SESSION in IDLE is refused NO_SESSION, and in CLOSE_WAIT or PAYOUT refused BUSY (R32). A press of coin return is ignored in
CONFIG, in an IDLE session without Carried Credit, in an OPEN session that is not a CASH one, and in CLOSE_WAIT and PAYOUT (R33). A
close request, by END_SESSION or by a press of coin return in an OPEN CASH session outside CONFIG, while every vend turns or waits
for its drop (R31) brings CLOSE_WAIT and ends nothing; END_SESSION is answered with that state. Vends that are QUEUED end CANCELLED
in list order before it (R75, R73), the others being left to finish. A vend that waits alone, QUEUED or with its claim, which is
withdrawn, ends CANCELLED first, and the close then goes on as one without vends (R31, R75). -/
def Obligations.CloseTurnedAwayOrWaits : Prop :=
  (∀ s seq p, s.credit.session.state = .idle →
      exec (.endSession seq p) s = .next (s.frameTaken.refuse seq .noSession))
    ∧ (∀ s seq p, s.credit.session.state = .closeWait ∨ s.credit.session.state = .payout →
      exec (.endSession seq p) s = .next (s.frameTaken.refuse seq .busy))
    ∧ (∀ s, s.tables.mode = .config ∨ s.credit.session.state = .idle ∧ s.credit.carried = 0
        ∨ s.credit.session.state = .opened ∧ s.credit.session.funding ≠ .cash
        ∨ s.credit.session.state = .closeWait ∨ s.credit.session.state = .payout →
      exec .coinReturn s = .next s)
    ∧ (∀ s seq p, s.credit.session.state = .opened → s.sales.vends ≠ [] →
      (∀ v ∈ s.sales.vends, v.state ≠ .queued ∧ v.state ≠ .waitPower) →
      let waits := fun u : State =>
        State.conclude
          { u with
            credit := { s.credit with session := { s.credit.session with state := .closeWait }, changed := true } }
      exec (.endSession seq p) s = .next (waits (s.frameTaken.accept seq [2]))
        ∧ (s.tables.mode ≠ .config → s.credit.session.funding = .cash → exec .coinReturn s = .next (waits s)))
    ∧ (∀ s seq p, s.credit.session.state = .opened → s.sales.vends.length ≤ 4 → (s.sales.vends.map Vend.id).Nodup →
      (∀ v ∈ s.sales.vends, v.result = none ∧ v.state ≠ .waitPower) → (∃ v ∈ s.sales.vends, v.state ≠ .queued) →
      let queued := s.sales.vends.filter fun v => v.state = .queued
      let z := s.credit.session
      let closed := fun (out : Host.Outcome State Fault Refusal) (replies : List Frame) (ps : List Part) =>
        ∃ t : State, out = .next t
          ∧ t.credit.session = { z with state := .closeWait }
          ∧ t.sales =
            { s.sales with
              vends := s.sales.vends.filter fun v => v.state ≠ .queued
              started := s.sales.started.filter fun i => !(queued.any fun v => v.id = i) }
          ∧ Raised s t
              (queued.map (fun v => s.notice .vendResult (some v.position) (resultValues v 5))
                ++ [s.notice .creditChanged none [2, z.funding.code, z.cashCredit, z.cardLeft, s.credit.carried]])
          ∧ t.link.sent = s.link.sent ++ replies
          ∧ SameExcept (([.session, .vends] : List Part) ++ ps ++ closing) s t
      closed (exec (.endSession seq p) s) [replyFrame 0 seq 0 0 [2]] [.replies, .receiver]
        ∧ (s.tables.mode ≠ .config → z.funding = .cash → closed (exec .coinReturn s) [] []))
    ∧ ∀ s seq p v load, WaitsAlone s v load → NothingPending s →
      let u :=
        State.raise { s with sales := s.sales.without v, load := load } .vendResult (some v.position) (resultValues v 5)
      exec (.endSession seq p) s = exec (.endSession seq p) u
        ∧ (s.tables.mode ≠ .config → s.credit.session.funding = .cash → exec .coinReturn s = exec .coinReturn u)

/-- A close of a CASH session that pays no coin. Without vends and without cash credit (R31, R35, R38) the session returns to IDLE
with its record cleared, SESSION_CLOSED carries the record's values and remainder 0, and CREDIT_CHANGED follows; END_SESSION is
answered with the state IDLE (R32), and a press of coin return does the same (R33). With a plan that holds no coin (R51, R56) no
claim is placed, CHANGE_SHORT carries the remainder and the change due, the remainder goes to Carried Credit and SESSION_CLOSED
follows. The buffer holds no load that waits for this moment. That delivered vends and opened at are 0 too in the session's
cleared record is the model's choice (log 49). -/
def Obligations.CashCloseUnpaid : Prop :=
  (∀ s seq p, s.credit.session.state = .opened → s.credit.session.card = none → s.credit.session.cashCredit = 0 →
      s.sales.vends = [] → NothingPending s →
      let x := s.credit.session
      let raised := [s.notice .sessionClosed none [x.carriedIn, x.coinIn, x.noteIn, x.charged, x.changePaid, 0],
        s.notice .creditChanged none [0, 0, 0, 0, s.credit.carried]]
      (∃ t, exec (.endSession seq p) s = .next t ∧ t.credit.session = .reset ∧ Raised s t raised
          ∧ t.link.sent = s.link.sent ++ [replyFrame 0 seq 0 0 [0]]
          ∧ SameExcept ([.session, .replies, .receiver] ++ closing) s t)
        ∧ (s.tables.mode ≠ .config → x.funding = .cash →
          ∃ t, exec .coinReturn s = .next t ∧ t.credit.session = .reset ∧ Raised s t raised
            ∧ SameExcept ([.session] ++ closing) s t))
    ∧ ∀ s seq p, s.credit.session.state = .opened → s.credit.session.card = none → s.credit.session.cashCredit ≠ 0 →
      s.sales.vends = [] → s.change.seq = .idle → s.change.job = none → NothingWaits s →
      (∀ g ∈ s.load.granted, g.kind ≠ .payout) → NothingPending s →
      planFor s.searchOrder s.credit.session.cashCredit = [] →
      let x := s.credit.session
      let due := x.cashCredit
      ∃ t, exec (.endSession seq p) s = .next t
        ∧ t.credit.session = .reset
        ∧ t.credit.carried = min 20000 (s.credit.carried + due)
        ∧ Raised s t
            [s.notice .changeShort none [due, due],
              s.notice .sessionClosed none [x.carriedIn, x.coinIn, x.noteIn, x.charged, x.changePaid, due],
              s.notice .creditChanged none [0, 0, 0, 0, t.credit.carried]]
        ∧ t.link.sent = s.link.sent ++ [replyFrame 0 seq 0 0 [0]]
        ∧ SameExcept ([.session, .carried, .replies, .receiver] ++ closing) s t

/-- A close of a CASH session that owes change (R35, R51, R52): with the sequencer IDLE, no claim waiting, a PAYOUT claim that
fits, and a plan that begins with `l`, the session enters PAYOUT, the run's job is recorded, the claim is granted at once and
the solenoid of `l`'s tube is pulsed; END_SESSION is answered with the state PAYOUT. A press of coin return in an IDLE session
with Carried Credit opens a session and closes it in the same way (R33). A dispense in progress goes on, and the change due is
deferred (R51). -/
def Obligations.CashClosePays : Prop :=
  (∀ s seq p l ls, s.credit.session.state = .opened → s.credit.session.card = none → s.credit.session.cashCredit ≠ 0 →
    s.sales.vends = [] → s.change.seq = .idle → NothingWaits s → (∀ g ∈ s.load.granted, g.kind ≠ .payout) →
    s.load.drawn + s.load.table.payout ≤ s.load.table.budget →
    planFor s.searchOrder s.credit.session.cashCredit = l :: ls →
    let due := s.credit.session.cashCredit
    ∃ t, exec (.endSession seq p) s = .next t
      ∧ t.credit.session = { s.credit.session with state := .payout }
      ∧ t.change =
          { s.change with
            seq := .firstWait l.tube s.now
            job := some (.payout due due (l :: ls))
            pulses := editAt (· + 1) (l.tube - 1) s.change.pulses }
      ∧ t.load = { s.load with granted := s.load.granted ++ [grantNow s .payout .change] }
      ∧ t.link.sent = s.link.sent ++ [replyFrame 0 seq 0 0 [3]]
      ∧ SameExcept (([.session, .payout, .load, .replies, .receiver] : List Part) ++ closing) s t)
    ∧ (∀ s seq p tube coins, s.credit.session.state = .opened → s.credit.session.card = none →
      s.credit.session.cashCredit ≠ 0 → s.sales.vends = [] → s.change.job = some (.dispense tube coins) →
      (s.change.seq = .claimWait ∨ ∃ n since, s.change.seq = .firstWait n since ∨ s.change.seq = .secondWait n since) →
      ∃ t, exec (.endSession seq p) s = .next t
        ∧ t.credit.session = { s.credit.session with state := .payout }
        ∧ t.change = { s.change with deferred := some s.credit.session.cashCredit }
        ∧ t.link.sent = s.link.sent ++ [replyFrame 0 seq 0 0 [3]]
        ∧ SameExcept (([.session, .payout, .replies, .receiver] : List Part) ++ closing) s t)
    ∧ ∀ s l ls, s.credit.session.state = .idle → s.tables.mode ≠ .config → s.credit.carried ≠ 0 →
    s.sales.vends = [] → s.change.seq = .idle → NothingWaits s → (∀ g ∈ s.load.granted, g.kind ≠ .payout) →
    s.load.drawn + s.load.table.payout ≤ s.load.table.budget →
    planFor s.searchOrder s.credit.carried = l :: ls →
    let due := s.credit.carried
    ∃ t, exec .coinReturn s = .next t
      ∧ t.credit.session =
          { Session.reset with
            state := .payout, funding := .cash, carriedIn := s.credit.carried, openedAt := s.stamp }
      ∧ t.credit.carried = 0
      ∧ t.change =
          { s.change with
            seq := .firstWait l.tube s.now
            job := some (.payout due due (l :: ls))
            pulses := editAt (· + 1) (l.tube - 1) s.change.pulses }
      ∧ t.load = { s.load with granted := s.load.granted ++ [grantNow s .payout .change] }
      ∧ SameExcept (([.session, .carried, .payout, .load] : List Part) ++ closing) s t

/-- A close of a CARD session without vends (R36, R38): a settlement record of what the session used enters the channel's slot
as SETTLE when the channel is READY, its slot empty, no DENY held and no record of the channel listed; otherwise it is appended
to the Pending Settlement List. SESSION_CLOSED names the channel and says which, and the session returns to IDLE. That delivered
vends and opened at are 0 too in its cleared record is the model's choice (log 49). -/
def Obligations.CardCloseSettles : Prop :=
  ∀ s seq p c, s.credit.session.state = .opened → s.credit.session.card = some c → s.sales.vends = [] →
    NothingPending s → (s.bridge.channels[c.channel]?).isSome →
    let x := s.credit.session
    let r : Settlement := { channel := c.channel, amount := x.cardUsed, vends := x.delivered, openedAt := x.openedAt }
    let free := (s.channel c.channel).isReady = true ∧ (s.channel c.channel).slot = none ∧ s.credit.deny = false
      ∧ ∀ y ∈ s.credit.settlements, y.channel ≠ c.channel
    ∃ t, exec (.endSession seq p) s = .next t
      ∧ t.credit.session = .reset
      ∧ (free → (t.channel c.channel).slot = some (.settle r) ∧ t.credit.settlements = s.credit.settlements)
      ∧ (¬ free → t.credit.settlements = s.credit.settlements ++ [r])
      ∧ (∀ d, (free ∧ d = 0 ∨ ¬ free ∧ d = 1) →
          Raised s t
            [s.notice .sessionClosed (some c.channel) [c.limit, x.cardUsed, x.delivered, d],
              s.notice .creditChanged none [0, 0, 0, 0, s.credit.carried]])
      ∧ t.link.sent = s.link.sent ++ [replyFrame 0 seq 0 0 [0]]
      ∧ SameExcept ([.session, .settlements, .replies, .receiver] ++ closing) s t

/-! ### Change (03) -/

/-- An evaluation completes (R45, R47, R48): the stored assurance is true exactly when every multiple of the Base Unit up to the
limit is exactly payable from the inputs taken at its start, with the short amount 0, and otherwise the short amount is the least
that is not. EXACT_CHANGE is raised when the stored assurance changes, and then alone. Without the re-run mark the evaluation state
is IDLE; with it, the mark is cleared and a new evaluation starts with the inputs of that moment. One that starts with an Assurance
Limit of 0 completes at once (R46), true (R45), with an EXACT_CHANGE of its own where that changes the stored assurance; that it
does so within the same step is the model's reading (log 16). With none running nothing changes. -/
def Obligations.AssuranceCompletes : Prop :=
  (∀ s, s.change.evaluating = none → exec .assuranceEvaluationComplete s = .next s)
    ∧ ∀ s e, s.change.evaluating = some e →
      let fails := fun m => 1 ≤ m ∧ m ≤ e.limit / e.baseUnit ∧ payable e.order (m * e.baseUnit) = false
      let exact := fun (assured : Bool) (short : Nat) => s.notice .exactChange none [boolCode assured, short]
      ∃ assured short t, exec .assuranceEvaluationComplete s = .next t
        ∧ (assured = true ↔ ∀ m, ¬ fails m)
        ∧ (assured = true → short = 0)
        ∧ (assured = false → ∃ m, fails m ∧ short = m * e.baseUnit ∧ ∀ k, k < m → ¬ fails k)
        ∧ t.change.rerun = false
        ∧ SameExcept ([.assurance] ++ closing) s t
        ∧ (let first := if assured = s.change.assured then [] else [exact assured short]
          (s.change.rerun = false ∨ s.credit.policy.assuranceLimit ≠ 0 →
              t.change.assured = assured ∧ t.change.short = short ∧ (Reported s → Raised s t first))
            ∧ (s.change.rerun = false → t.change.evaluating = none)
            ∧ (s.change.rerun = true → s.credit.policy.assuranceLimit ≠ 0 →
              t.change.evaluating =
                some { order := s.searchOrder, baseUnit := s.credit.policy.baseUnit, limit := s.credit.policy.assuranceLimit })
            ∧ (s.change.rerun = true → s.credit.policy.assuranceLimit = 0 →
              t.change.assured = true ∧ t.change.short = 0 ∧ t.change.evaluating = none
                ∧ (Reported s → Raised s t (first ++ if assured = true then [] else [exact true 0]))))

/-- The exact search (R42, R43). A plan it finds takes at most each tube's usable count and pays the amount exactly, and no other
payment that does so takes more coins of the first tube in which the two differ. When every branch of it has failed, the tubes
cannot pay the amount exactly. -/
def Obligations.SearchFindsGreatest : Prop :=
  (∀ order amount ks, exactSearch order amount = .found ks →
      worth order ks = amount ∧ ks.length ≤ order.length
        ∧ Affordable order (ks ++ List.replicate (order.length - ks.length) 0)
        ∧ ((∀ l ∈ order, 0 < l.value) →
          ∀ js, Affordable order js → worth order js = amount →
            js = ks ++ List.replicate (order.length - ks.length) 0
              ∨ ∃ i, js.take i = (ks ++ List.replicate (order.length - ks.length) 0).take i
                ∧ js.getD i 0 < (ks ++ List.replicate (order.length - ks.length) 0).getD i 0))
    ∧ ∀ order amount left, exactSearch order amount = .failed left → ∀ ks, Affordable order ks → worth order ks ≠ amount

/-- R55: a break of the payout exit sensor while no Exit Wait is open changes nothing. -/
def Obligations.ExitBreakIgnored : Prop :=
  ∀ s, (s.change.seq = .idle ∨ s.change.seq = .deferred ∨ s.change.seq = .claimWait) →
    exec .payoutExitBreak s = .next s

/-- The first expiry of an Exit Wait pulses the tube's solenoid a second time and opens a new wait (R54); a dispense whose tube
has become ABSENT or JAMMED ends instead (R59). The second one in a dispense (R54, R59) makes the tube JAMMED, raises its jam
count and TUBE_JAM with the value 0, and ends the dispense: the claim is released and the sequencer IDLE. In a payout run
TUBE_JAM carries the amount remaining, and a new plan for it is paid from at once, its first tube pulsed; with no coin in the new
plan the run ends short (`RunEndsShort`). A change due that was deferred begins its run at the dispense's end (R51), its claim
granted at once. With no wait open nothing changes. That the command brings the clock to the deadline is the model's choice (log 2),
and so is the 0 of delivered vends and opened at in a cleared session record (log 49); that a tube which is JAMMED already, its
count and state the same, starts no evaluation is its reading of R15 (log 15). -/
def Obligations.ExitWaitExpires : Prop :=
  (∀ s tube since, s.change.seq = .firstWait tube since →
      (∀ n coins, s.change.job = some (.dispense n coins) → (s.tube n).state ≠ .absent ∧ (s.tube n).state ≠ .jammed) →
      let now := max s.now (since + 400)
      exec .exitWaitExpiry s =
        .next
          { s with
            now := now
            change :=
              { s.change with seq := .secondWait tube now, pulses := editAt (· + 1) (tube - 1) s.change.pulses } })
    ∧ (∀ s tube since n coins, s.change.seq = .firstWait tube since → s.change.job = some (.dispense n coins) →
      ((s.tube n).state = .absent ∨ (s.tube n).state = .jammed) → s.change.deferred = none → NothingWaits s →
      exec .exitWaitExpiry s =
        .next
          (State.conclude
            { s with
              now := max s.now (since + 400)
              change := { s.change with seq := .idle, job := none }
              load :=
                { s.load with granted := s.load.granted.filter fun g => !(g.kind = .payout && g.owner = .change) } }))
    ∧ (∀ s tube since due remaining old, s.change.seq = .secondWait tube since →
      s.change.job = some (.payout due remaining old) → 1 ≤ tube → tube ≤ s.tubes.length →
      let x := s.tube tube
      let y := { x with state := .jammed, jamCount := min 255 (x.jamCount + 1) }
      let now := max s.now (since + 400)
      let u : State := { s with now := now, tubes := s.tubes.set (tube - 1) y }
      let v := if x.state = .jammed then u else u.triggerAssurance
      let jam := v.notice .tubeJam (some tube) [y.jamCount, remaining]
      (∀ l ls, planFor u.searchOrder remaining = l :: ls →
          ∃ t, exec .exitWaitExpiry s = .next t
            ∧ t.tubes = u.tubes ∧ t.change.seq = .firstWait l.tube now
            ∧ t.change.job = some (.payout due remaining (l :: ls))
            ∧ t.change.pulses = editAt (· + 1) (l.tube - 1) s.change.pulses
            ∧ (Reported s → Raised v t [jam])
            ∧ SameExcept (([.now, .tubes, .assurance, .payout] : List Part) ++ closing) s t)
        ∧ (planFor u.searchOrder remaining = [] → remaining ≠ 0 → NothingWaits s → NothingPending s →
          ∃ t, exec .exitWaitExpiry s = .next t
            ∧ t.tubes = u.tubes ∧ RunEndsShort v t due remaining 0 [jam]
            ∧ SameExcept (([.now, .tubes, .assurance, .payout, .session, .carried, .load] : List Part) ++ closing) s t))
    ∧ (∀ s tube since t' coins, s.change.seq = .secondWait tube since → s.change.job = some (.dispense t' coins) →
      s.change.deferred = none → NothingWaits s → 1 ≤ tube → tube ≤ s.tubes.length →
      let x := s.tube tube
      let y := { x with state := .jammed, jamCount := min 255 (x.jamCount + 1) }
      let u : State := { s with now := max s.now (since + 400), tubes := s.tubes.set (tube - 1) y }
      let v := if x.state = .jammed then u else u.triggerAssurance
      ∃ t, exec .exitWaitExpiry s = .next t
        ∧ t.tubes = u.tubes ∧ t.change.seq = .idle ∧ t.change.job = none
        ∧ t.load = { s.load with granted := s.load.granted.filter fun g => !(g.kind = .payout && g.owner = .change) }
        ∧ (Reported s → Raised v t [v.notice .tubeJam (some tube) [y.jamCount, 0]])
        ∧ SameExcept (([.now, .tubes, .assurance, .payout, .load] : List Part) ++ closing) s t)
    ∧ (∀ s tube since t' coins amount l ls, s.change.seq = .secondWait tube since →
      s.change.job = some (.dispense t' coins) → s.change.deferred = some amount → NothingWaits s → 1 ≤ tube →
      tube ≤ s.tubes.length →
      let x := s.tube tube
      let y := { x with state := .jammed, jamCount := min 255 (x.jamCount + 1) }
      let u : State := { s with now := max s.now (since + 400), tubes := s.tubes.set (tube - 1) y }
      let v := if x.state = .jammed then u else u.triggerAssurance
      let left := s.load.granted.filter fun g => !(g.kind = .payout && g.owner = .change)
      planFor u.searchOrder amount = l :: ls → (∀ g ∈ left, g.kind ≠ .payout) →
      10 + grantedUnits left + s.load.table.payout ≤ s.load.table.budget →
      ∃ t, exec .exitWaitExpiry s = .next t
        ∧ t.tubes = u.tubes ∧ t.change.seq = .firstWait l.tube u.now
        ∧ t.change.job = some (.payout amount amount (l :: ls)) ∧ t.change.deferred = none
        ∧ t.change.pulses = editAt (· + 1) (l.tube - 1) s.change.pulses
        ∧ t.load = { s.load with granted := left ++ [grantNow u .payout .change] }
        ∧ (Reported s → Raised v t [v.notice .tubeJam (some tube) [y.jamCount, 0]])
        ∧ SameExcept (([.now, .tubes, .assurance, .payout, .load] : List Part) ++ closing) s t)
    ∧ ∀ s, (s.change.seq = .idle ∨ s.change.seq = .deferred ∨ s.change.seq = .claimWait) →
      exec .exitWaitExpiry s = .next s

/-- A coin of a payout run confirmed at the exit with more to pay (R53): the tube's count falls by 1, not below 0, its state is
derived anew, change paid rises by the line's captured value, the amount remaining falls by it, and the line holds one coin
less. The next line not being stale (R52), its tube is pulsed and a first Exit Wait opens; a stale one has the plan made anew for
the amount remaining from the tubes as they then stand, and the first tube of the new plan is pulsed. -/
def Obligations.PayoutGoesOn : Prop :=
  ∀ s tube since due remaining l ls next rest,
    (s.change.seq = .firstWait tube since ∨ s.change.seq = .secondWait tube since) →
    s.change.job = some (.payout due remaining (l :: ls)) → remaining - l.value ≠ 0 →
    (if l.coins ≤ 1 then ls else { l with coins := l.coins - 1 } :: ls) = next :: rest →
    let x := s.tube tube
    let tubes := s.tubes.set (tube - 1) ({ x with count := x.count - 1 }.derive false)
    let u : State := { s with tubes := tubes }
    ∀ first lines,
      (u.stale next = false ∧ first = next ∧ lines = rest
        ∨ u.stale next = true ∧ planFor u.searchOrder (remaining - l.value) = first :: lines) →
      ∃ t, exec .payoutExitBreak s = .next t
        ∧ t.tubes = tubes
        ∧ t.credit.session = { s.credit.session with changePaid := s.credit.session.changePaid + l.value }
        ∧ t.change.seq = .firstWait first.tube s.now
        ∧ t.change.job = some (.payout due (remaining - l.value) (first :: lines))
        ∧ t.change.pulses = editAt (· + 1) (first.tube - 1) s.change.pulses
        ∧ SameExcept (([.tubes, .assurance, .payout, .session] : List Part) ++ closing) s t

/-- The last coin of a payout run (R53, R56, R35): change paid rises, the claim is released, SESSION_CLOSED is raised with
remainder 0, the session returns to IDLE and the sequencer too; Carried Credit does not change. With an amount still remaining, a
greedy plan paid in full, or a stale line (R52) whose new plan holds no coin, ends the run short of it (`RunEndsShort`). That
delivered vends and opened at are 0 too in the session's cleared record is the model's choice (log 49), and that a coin which
leaves the tube's count and state as they were starts no evaluation its reading of R15 (log 15). -/
def Obligations.PayoutEnds : Prop :=
  (∀ s tube since due remaining l ls,
    (s.change.seq = .firstWait tube since ∨ s.change.seq = .secondWait tube since) →
    s.change.job = some (.payout due remaining (l :: ls)) → remaining - l.value ≠ 0 → NothingWaits s → NothingPending s →
    let x := s.tube tube
    let y := { x with count := x.count - 1 }.derive false
    let u : State := { s with tubes := s.tubes.set (tube - 1) y }
    let v := if x.count = y.count ∧ x.state = y.state then u else u.triggerAssurance
    let plan := if l.coins ≤ 1 then ls else { l with coins := l.coins - 1 } :: ls
    (plan = [] ∨ ∃ next rest, plan = next :: rest ∧ u.stale next = true ∧ planFor u.searchOrder (remaining - l.value) = []) →
    ∃ t, exec .payoutExitBreak s = .next t
      ∧ t.tubes = u.tubes ∧ RunEndsShort v t due (remaining - l.value) l.value []
      ∧ SameExcept (([.tubes, .assurance, .payout, .session, .carried, .load] : List Part) ++ closing) s t)
    ∧ ∀ s tube since due l ls,
    (s.change.seq = .firstWait tube since ∨ s.change.seq = .secondWait tube since) →
    s.change.job = some (.payout due l.value (l :: ls)) → NothingWaits s → NothingPending s →
    let x := s.tube tube
    let y := { x with count := x.count - 1 }.derive false
    let z := s.credit.session
    let u : State := { s with tubes := s.tubes.set (tube - 1) y }
    let v := if x.count = y.count ∧ x.state = y.state then u else u.triggerAssurance
    ∃ t, exec .payoutExitBreak s = .next t
      ∧ t.tubes = s.tubes.set (tube - 1) y
      ∧ t.credit.session = .reset
      ∧ t.change.seq = .idle ∧ t.change.job = none
      ∧ t.load = { s.load with granted := s.load.granted.filter fun g => !(g.kind = .payout && g.owner = .change) }
      ∧ Raised v t
          [s.notice .sessionClosed none [z.carriedIn, z.coinIn, z.noteIn, z.charged, z.changePaid + l.value, 0],
            s.notice .creditChanged none [0, 0, 0, 0, s.credit.carried]]
      ∧ SameExcept (([.tubes, .assurance, .payout, .session, .load] : List Part) ++ closing) s t

/-- TUBE_DISPENSE (R58, R59): the four refusals in their order; otherwise the job is recorded and answered with the tube and
the count, and a PAYOUT claim that is granted at once pulses the tube's solenoid. A coin of a dispense confirmed at the exit
lowers the tube's count and the coins remaining, and no credit changes: with coins remaining and the tube neither ABSENT nor
JAMMED its solenoid is pulsed again; otherwise the dispense ends, its claim released, and a change due that was deferred begins
its run (R51), whose claim is granted at once. A payload too short is refused BAD_ARGUMENT (R150); that this comes before the
rule's own checks is the model's choice (log 14), and that a coin confirmed from a tube at count 0, its count and state the same,
starts no evaluation its reading of R15 (log 15). -/
def Obligations.TubeDispenseTaken : Prop :=
  (∀ s seq p, p.length < 2 → exec (.tubeDispense seq p) s = .next (s.frameTaken.refuse seq .badArgument))
    ∧ (∀ s tube since n coins, (s.change.seq = .firstWait tube since ∨ s.change.seq = .secondWait tube since) →
      s.change.job = some (.dispense n coins) →
      let x := s.tube tube
      let y := { x with count := x.count - 1 }.derive false
      let u : State := { s with tubes := s.tubes.set (tube - 1) y }
      let v := if x.count = y.count ∧ x.state = y.state then u else u.triggerAssurance
      let blocked := (u.tube n).state = .absent ∨ (u.tube n).state = .jammed
      let left := s.load.granted.filter fun g => !(g.kind = .payout && g.owner = .change)
      (1 < coins → ¬ blocked →
          exec .payoutExitBreak s =
            .next
              (State.conclude
                { v with
                  change :=
                    { v.change with
                      seq := .firstWait n s.now
                      job := some (.dispense n (coins - 1))
                      pulses := editAt (· + 1) (n - 1) s.change.pulses } }))
        ∧ ((coins ≤ 1 ∨ blocked) → NothingWaits s →
          (s.change.deferred = none →
              exec .payoutExitBreak s =
                .next
                  (State.conclude
                    { v with
                      change := { v.change with seq := .idle, job := none }
                      load := { s.load with granted := left } }))
            ∧ ∀ amount l ls, s.change.deferred = some amount → planFor u.searchOrder amount = l :: ls →
              (∀ g ∈ left, g.kind ≠ .payout) → 10 + grantedUnits left + s.load.table.payout ≤ s.load.table.budget →
              exec .payoutExitBreak s =
                .next
                  (State.conclude
                    { v with
                      change :=
                        { v.change with
                          seq := .firstWait l.tube s.now
                          job := some (.payout amount amount (l :: ls))
                          deferred := none
                          pulses := editAt (· + 1) (l.tube - 1) s.change.pulses }
                      load := { s.load with granted := left ++ [grantNow s .payout .change] } })))
    ∧ ∀ s seq (b d : Byte) rest,
      let n := b.toNat
      let coins := d.toNat
      let bad := ¬ (1 ≤ n ∧ n ≤ 5) ∨ ¬ (1 ≤ coins ∧ coins ≤ 20) ∨ (s.tube n).state = .absent ∨ (s.tube n).state = .jammed
      (s.tables.mode ≠ .service →
          exec (.tubeDispense seq (b :: d :: rest)) s = .next (s.frameTaken.refuse seq .badMode))
        ∧ (s.tables.mode = .service → bad →
          exec (.tubeDispense seq (b :: d :: rest)) s = .next (s.frameTaken.refuse seq .badArgument))
        ∧ (s.tables.mode = .service → ¬ bad → s.change.seq ≠ .idle →
          exec (.tubeDispense seq (b :: d :: rest)) s = .next (s.frameTaken.refuse seq .busy))
        ∧ (s.tables.mode = .service → ¬ bad → s.change.seq = .idle → NothingWaits s →
          (∀ g ∈ s.load.granted, g.kind ≠ .payout) →
          s.load.drawn + s.load.table.payout ≤ s.load.table.budget →
          exec (.tubeDispense seq (b :: d :: rest)) s =
            .next
              (State.conclude
                { s.frameTaken.accept seq [b, d] with
                  change :=
                    { s.change with
                      seq := .firstWait n s.now
                      job := some (.dispense n coins)
                      pulses := editAt (· + 1) (n - 1) s.change.pulses }
                  load := { s.load with granted := s.load.granted ++ [grantNow s .payout .change] } }))

/-! ### Selections and vends (04) -/

/-- R63: SELECTION_CLEAR makes the position AVAILABLE with a miss streak of 0 and keeps its other fields; the reply gives the
position and its state before the clear; Max Available Price is the highest sellable price of the records as they then stand
(R50); no vend changes. A position outside 0-63 is refused BAD_ARGUMENT. -/
def Obligations.SelectionCleared : Prop :=
  ∀ s seq (b : Byte) rest,
    (63 < b.toNat → exec (.selectionClear seq (b :: rest)) s = .next (s.frameTaken.refuse seq .badArgument))
      ∧ (b.toNat ≤ 63 →
        let p := b.toNat
        let xs := s.sales.selections.set p { s.selection p with state := .available, missStreak := 0 }
        ∃ m, HighestPrice xs s.plant.lockout m
          ∧ exec (.selectionClear seq (b :: rest)) s =
            .next
              (State.conclude
                { s.frameTaken.accept seq [b, u8 (s.selection p).state.code] with
                  sales := { s.sales with selections := xs }
                  change := { s.change with maxPrice := m } }))

/-- The refusals of VEND in the order of R65: a payload without a position in 0-63, the mode, the session, the position's
sellability, the Vend List at 4, and the funds, which are the cash credit or the card's limit less card used against the
price and the prices of the vends listed. An IDLE session with Carried Credit opens first and takes it in (R21), and the
request is then judged as one in an OPEN session. A payload too short is refused BAD_ARGUMENT (R150); that this comes before
the rule's own checks is the model's choice (log 14). -/
def Obligations.VendRefused : Prop :=
  (∀ s seq, exec (.vend seq []) s = .next (s.frameTaken.refuse seq .badArgument))
    ∧ ∀ s seq (b : Byte) rest,
      let p := b.toNat
      let session := s.credit.session
      let sum := (s.selection p).price + (s.sales.vends.map Vend.price).sum
      let poor := session.funding ≠ .card ∧ session.cashCredit < sum
        ∨ ∃ c, session.funding = .card ∧ session.card = some c ∧ c.limit - session.cardUsed < sum
      let taken := p ≤ 63 ∧ s.tables.mode = .sales
      (63 < p → exec (.vend seq (b :: rest)) s = .next (s.frameTaken.refuse seq .badArgument))
        ∧ (p ≤ 63 → s.tables.mode ≠ .sales → exec (.vend seq (b :: rest)) s = .next (s.frameTaken.refuse seq .badMode))
        ∧ (taken →
          (session.state = .closeWait ∨ session.state = .payout ∨ session.state = .idle ∧ s.credit.carried = 0) →
          exec (.vend seq (b :: rest)) s = .next (s.frameTaken.refuse seq .noFunds))
        ∧ (taken → session.state = .opened → ¬ Sellable s p →
          exec (.vend seq (b :: rest)) s = .next (s.frameTaken.refuse seq .unavailable).conclude)
        ∧ (taken → session.state = .opened → Sellable s p → 4 ≤ s.sales.vends.length →
          exec (.vend seq (b :: rest)) s = .next (s.frameTaken.refuse seq .listFull).conclude)
        ∧ (taken → session.state = .opened → Sellable s p → s.sales.vends.length < 4 → poor →
          exec (.vend seq (b :: rest)) s = .next (s.frameTaken.refuse seq .noFunds).conclude)
        ∧ (taken → session.state = .idle → s.credit.carried ≠ 0 →
          exec (.vend seq (b :: rest)) s =
            exec (.vend seq (b :: rest))
              { s with
                credit :=
                  { s.credit with
                    session :=
                      { Session.reset with
                        state := .opened, funding := .cash, carriedIn := s.credit.carried, openedAt := s.stamp }
                    carried := 0
                    changed := true } })

/-- A VEND that passes every check of R65 in an OPEN session (R66, R68, R69): its record stands at the tail of the Vend List and
the reply gives the position, the number of unfinished vends and the funds left uncommitted. With its group busy, and no other
vend to dispatch, it stays QUEUED. As the only vend, with its group IDLE and its motor claim granted at once, it is TURNING
with one turn made and first in the start sequence, and its position is energized with the high-current run and the last
current 0 and no-motor checked no: STARTING with the home switch AT_HOME, TURNING with it AWAY (R79, R80). -/
def Obligations.VendAccepted : Prop :=
  ∀ s seq (b : Byte) rest,
    let p := b.toNat
    let g := groupOf p
    let session := s.credit.session
    let sum := (s.selection p).price + (s.sales.vends.map Vend.price).sum
    let figure := if session.funding = .card then session.cardLeft else session.cashCredit
    let v : Vend :=
      { id := s.sales.nextId, position := p, price := (s.selection p).price, funding := session.funding, request := seq,
        state := .queued, turnsMade := 0, droppedEarly := false, result := none }
    let u := s.frameTaken.accept seq
      ([b, u8 ((s.sales.vends.countP fun w => w.result = none) + 1)] ++ u16 (figure - sum))
    p ≤ 63 → s.tables.mode = .sales → session.state = .opened → Sellable s p → s.sales.vends.length < 4 → sum ≤ figure →
    (s.groupBusy g = true → (∀ w ∈ s.sales.vends, w.state = .queued → s.groupBusy (groupOf w.position) = true) →
        exec (.vend seq (b :: rest)) s =
          .next
            (State.conclude
              { u with sales := { s.sales with vends := s.sales.vends ++ [v], nextId := s.sales.nextId + 1 } }))
      ∧ (s.sales.vends = [] → s.sales.started = [] → (s.group g).state = .idle → GrantsMotor s g →
        let turn : Turn :=
          { position := p, owner := .vend, energizedAt := s.now, home := .atHome, sampleAt := s.now + 10 }
        exec (.vend seq (b :: rest)) s =
          .next
            (State.conclude
              (State.modGroup
                { u with
                  sales :=
                    { s.sales with
                      vends := [{ v with state := .turning, turnsMade := 1 }]
                      started := [v.id]
                      nextId := s.sales.nextId + 1 }
                  load := { s.load with granted := s.load.granted ++ [grantNow s (.motor g) .vend] } }
                g
                fun r =>
                  { r with
                    state := if s.pins.away.getLsbD p then .turning { turn with home := .away } else .starting turn
                    highRun := 0, lastCurrent := 0, noMotorChecked := false })))

/-- A Drop Window that runs out (R71), the clock then standing at its end at the earliest. With turns made above the add-on
turns, or with the position no longer sellable, the vend ends: HELD_COLD when a turn was due and the lockout holds the
CHILLED position, which changes no selection; NO_DROP otherwise, which raises the miss streak and makes an AVAILABLE
position SOLD_OUT at 2 (R64), with its notice and Max Available Price before the VEND_RESULT (R73), and before it the CANCELLED of
a second vend that is QUEUED there (R74; that it ends inside step 2 of R73 is the model's reading, log 21). A sellable vend due a
turn turns again: at once as the only vend with its claim granted at once, and QUEUED while its group is busy (no two vends
of the list carrying one number of the model's, log 7). With no vend at that place of the start sequence the command changes
nothing. That the command brings the clock to the deadline is the model's choice (log 2). -/
def Obligations.DropWindowExpires : Prop :=
  (∀ s n, (n = 0 ∨ s.sales.started[n - 1]? = none) → exec (.dropWindowExpiry n) s = .next s)
    ∧ (∀ s n v since, OnlyVend s v → v.state = .dropWait since → 1 ≤ n → s.sales.started[n - 1]? = some v.id →
      let p := v.position
      let x := s.selection p
      let cold := x.health = .chilled ∧ s.plant.lockout = true
      let values := fun r => [r, v.price, v.turnsMade, boolCode v.droppedEarly, v.request.toNat]
      let left := { s.sales with vends := [], started := s.sales.started.filter (· ≠ v.id) }
      let streak := min 15 (x.missStreak + 1)
      let soldOut := x.state = .available ∧ 2 ≤ streak
      let now := max s.now (since + 1500)
      ((x.addOn < v.turnsMade ∨ ¬ Sellable s p ∧ ¬ cold) → ¬ soldOut →
          exec (.dropWindowExpiry n) s =
            .next
              (State.raise
                { s with
                  now := now
                  sales := { left with selections := s.sales.selections.set p { x with missStreak := streak } } }
                .vendResult (some p) (values 1)).conclude)
        ∧ ((x.addOn < v.turnsMade ∨ ¬ Sellable s p ∧ ¬ cold) → soldOut →
          let xs := s.sales.selections.set p { x with missStreak := streak, state := .soldOut }
          ∃ m, HighestPrice xs s.plant.lockout m
            ∧ exec (.dropWindowExpiry n) s =
              .next
                ((State.raise
                    { s with
                      now := now
                      sales := { left with selections := xs }
                      change := { s.change with maxPrice := m } }
                    .soldOut (some p) [streak]).raise
                  .vendResult (some p) (values 1)).conclude)
        ∧ (v.turnsMade ≤ x.addOn → cold →
          exec (.dropWindowExpiry n) s =
            .next (State.raise { s with now := now, sales := left } .vendResult (some p) (values 4)).conclude)
        ∧ (v.turnsMade ≤ x.addOn → Sellable s p → (s.group (groupOf p)).state = .idle → GrantsMotor s (groupOf p) →
          exec (.dropWindowExpiry n) s =
            .next
              (State.conclude
                (State.modGroup
                  { s with
                    now := now
                    sales := { s.sales with vends := [{ v with state := .turning, turnsMade := v.turnsMade + 1 }] }
                    load :=
                      { s.load with
                        granted := s.load.granted ++ [grantNow { s with now := now } (.motor (groupOf p)) .vend] } }
                  (groupOf p)
                  fun r => r.energize (energized p .vend (s.pins.away.getLsbD p) now)))))
    ∧ (∀ s n v w since, s.sales.vends = [v, w] → v.id ≠ w.id → v.result = none → w.result = none →
      s.credit.session.state = .opened → v.state = .dropWait since → w.state = .queued → w.position = v.position → 1 ≤ n →
      s.sales.started[n - 1]? = some v.id →
      let p := v.position
      let x := s.selection p
      let streak := min 15 (x.missStreak + 1)
      let xs := s.sales.selections.set p { x with missStreak := streak, state := .soldOut }
      x.addOn < v.turnsMade → x.state = .available → 2 ≤ streak →
      ∃ m, HighestPrice xs s.plant.lockout m
        ∧ exec (.dropWindowExpiry n) s =
          .next
            (((State.raise
                  { s with
                    now := max s.now (since + 1500)
                    sales :=
                      { s.sales with
                        selections := xs, vends := []
                        started := s.sales.started.filter fun i => decide (i ≠ v.id ∧ i ≠ w.id) }
                    change := { s.change with maxPrice := m } }
                  .soldOut (some p) [streak]).raise
                .vendResult (some p) (resultValues w 5)).raise
              .vendResult (some p) (resultValues v 1)).conclude)
    ∧ ∀ s n v since, (s.sales.vends.map Vend.id).Nodup → s.vend? v.id = some v → v.result = none →
      v.state = .dropWait since → 1 ≤ n →
      s.sales.started[n - 1]? = some v.id → v.turnsMade ≤ (s.selection v.position).addOn → Sellable s v.position →
      s.groupBusy (groupOf v.position) = true →
      (∀ w ∈ s.sales.vends, w.state = .queued → s.groupBusy (groupOf w.position) = true) →
      exec (.dropWindowExpiry n) s =
        .next
          (State.conclude
            { s with
              now := max s.now (since + 1500)
              sales :=
                { s.sales with
                  vends := s.sales.vends.map fun w => if w.id = v.id then { w with state := .queued } else w } })

/-! ### The drop sensor and the motors (05) -/

/-- The drop monitor (R88) and the attribution of a drop (R72). A break on a CLEAR beam begins to be timed, a restored beam
is CLEAR at once. A break of 5 ms makes the beam BROKEN: without a candidate it is a STRAY_DROP and changes nothing else;
the candidate of the lowest start order is marked dropped early while it turns; in DROP_WAIT it ends DELIVERED (R64, R73,
R24): miss streak 0, vend count raised to at most 65535, VEND_RESULT, and the charge to the session of its funding.
(Multi-vend is on in that clause; `DeliveryCloses` has the closes.) With no break timed the command changes nothing.
That the command brings the clock to the deadline is the model's choice (log 2). -/
def Obligations.DropAttributed : Prop :=
  (∀ s, (s.drive.beam = .clear →
        exec .dropBeamBreak s = .next { s with drive := { s.drive with beam := .timing s.now } })
      ∧ (s.drive.beam ≠ .clear → exec .dropBeamBreak s = .next s)
      ∧ exec .dropBeamClear s = .next { s with drive := { s.drive with beam := .clear } }
      ∧ ((s.drive.beam = .clear ∨ s.drive.beam = .broken) → exec .dropEvent s = .next s))
    ∧ ∀ s since, s.drive.beam = .timing since →
      let u : State := { s with now := max s.now (since + 5), drive := { s.drive with beam := .broken } }
      ((∀ v ∈ s.sales.vends, ¬ CanTake v) → exec .dropEvent s = .next (u.raise .strayDrop none []).conclude)
        ∧ (∀ ahead behind v, s.sales.started = ahead ++ v.id :: behind → s.vend? v.id = some v → CanTake v →
          (∀ i ∈ ahead, ∀ w, s.vend? i = some w → ¬ CanTake w) → v.state = .turning →
          exec .dropEvent s =
            .next
              (State.conclude
                { u with
                  sales :=
                    { s.sales with
                      vends := s.sales.vends.map fun w => if w.id = v.id then { w with droppedEarly := true } else w } }))
        ∧ ∀ v w, OnlyVend s v → v.state = .dropWait w → v.id ∈ s.sales.started → s.credit.policy.multiVend = true →
          (v.funding = .cash ∨ v.funding = .card) →
          let p := v.position
          let x := s.selection p
          let z := s.credit.session
          let served := min 255 (z.delivered + 1)
          exec .dropEvent s =
            .next
              (State.raise
                { u with
                  sales :=
                    { s.sales with
                      selections :=
                        s.sales.selections.set p { x with missStreak := 0, vendCount := min 65535 (x.vendCount + 1) }
                      vends := []
                      started := s.sales.started.filter (· ≠ v.id) }
                  credit :=
                    { s.credit with
                      session :=
                        if v.funding = .cash then { z with charged := z.charged + v.price, delivered := served }
                        else { z with cardUsed := z.cardUsed + v.price, delivered := served }
                      changed := true } }
                .vendResult (some p) [0, v.price, v.turnsMade, boolCode v.droppedEarly, v.request.toNat]).conclude

/-- The end of the last vend that closes the session (R31, R34; `EndCloses`): in an OPEN session with Multi-vend off a vend that
ends DELIVERED, and in CLOSE_WAIT a vend with any result. The vend of a normal turn end whose item has already fallen ends
DELIVERED (R70), its claim released first, and so does the vend in DROP_WAIT that a drop reaches (R72); the price is charged (R24),
the miss streak is 0 and the vend count rises. In CLOSE_WAIT nothing else is charged: a Drop Window that runs out ends the last
vend NO_DROP or HELD_COLD (R71), the position becoming SOLD_OUT first where the streak reaches 2, with its notice and Max Available
Price (R64, R50; inside step 2 of R73, log 21); and the door's opening ends it ABORTED_DOOR, its claim given back and the groups
de-energized before it, no motor test ending there (R76, R90; log 30). A JAMMED end that closes is said with the faults, in
TurnFaults and CurrentSampled (`Faulted`); the end by R74 of a vend that waits for a further turn in CLOSE_WAIT is left aside. That
the close is tested once the vend has left the list is the model's reading (log 31); the cleared session record and the clock
brought to the deadline are its choices (logs 49, 2). -/
def Obligations.DeliveryCloses : Prop :=
  (∀ s v, s.sales.vends = [v] → v.result = none → (v.funding = .cash ∨ v.funding = .card) →
      (s.credit.session.state = .closeWait ∨ s.credit.session.state = .opened ∧ s.credit.policy.multiVend = false) →
      let p := v.position
      let g := groupOf p
      let x := s.selection p
      let y := { x with missStreak := 0, vendCount := min 65535 (x.vendCount + 1) }
      let served := { s.credit.session with delivered := min 255 (s.credit.session.delivered + 1) }
      let z :=
        if v.funding = .cash then { served with charged := served.charged + v.price }
        else { served with cardUsed := served.cardUsed + v.price }
      (∀ turn, (s.group g).state = .turning turn → turn.owner = .vend → turn.position = p → (s.group g).held = none →
          v.state = .turning → v.droppedEarly = true → NothingWaits s →
          let released := s.load.granted.filter fun c => !(c.kind = .motor g && c.owner = .vend)
          let u : State :=
            { s with
              pins := { s.pins with away := s.pins.away &&& ~~~ BitVec.twoPow 64 p }
              load := { s.load with granted := released } }
          EndCloses (u.modGroup g fun r => { r with state := .idle }) v 0 y z (exec (.homeReturn p) s))
        ∧ ∀ since w, s.drive.beam = .timing since → v.state = .dropWait w → v.id ∈ s.sales.started →
          EndCloses { s with now := max s.now (since + 5), drive := { s.drive with beam := .broken } } v 0 y z
            (exec .dropEvent s))
    ∧ (∀ s v load, s.sales.vends = [v] → v.result = none → s.credit.session.state = .closeWait → s.tables.mode ≠ .service →
      s.drive.a.testEndsAtDoor = false → s.drive.b.testEndsAtDoor = false → ClaimGone s v load →
      let stopped := fun r : GroupRec =>
        { r with
          state := match r.state with
            | .stopped since => .stopped since
            | _ => .idle
          held := none }
      EndCloses
        { s with
          pins := { s.pins with doorOpen := true }
          tables := { s.tables with remembered := s.tables.mode, mode := .service }
          drive := { s.drive with a := stopped s.drive.a, b := stopped s.drive.b }
          load := load }
        v 3 (s.selection v.position) s.credit.session (exec .doorOpen s))
    ∧ ∀ s n v since, s.sales.vends = [v] → v.result = none → s.credit.session.state = .closeWait → v.state = .dropWait since →
      1 ≤ n → s.sales.started[n - 1]? = some v.id →
      let x := s.selection v.position
      let cold := x.health = .chilled ∧ s.plant.lockout = true
      let streak := min 15 (x.missStreak + 1)
      let u : State := { s with now := max s.now (since + 1500) }
      let out := exec (.dropWindowExpiry n) s
      ((x.addOn < v.turnsMade ∨ ¬ Sellable s v.position ∧ ¬ cold) → (x.state ≠ .available ∨ streak < 2) →
          EndCloses u v 1 { x with missStreak := streak } s.credit.session out)
        ∧ ((x.addOn < v.turnsMade ∨ ¬ Sellable s v.position ∧ ¬ cold) → x.state = .available → 2 ≤ streak →
          let y := { x with missStreak := streak, state := .soldOut }
          ∃ m, HighestPrice (s.sales.selections.set v.position y) s.plant.lockout m
            ∧ EndCloses
                (State.raise { u with change := { s.change with maxPrice := m } } .soldOut (some v.position) [streak]) v 1 y
                s.credit.session out)
        ∧ (v.turnsMade ≤ x.addOn → cold → EndCloses u v 4 x s.credit.session out)

/-- Home events. A leave moves a group in STARTING to TURNING, with elapsed, sampling and the high-current run as they were
(R80). A return in TURNING ends the turn (R82): the group is IDLE and the claim is released; a test ends without a notice
(R93); a vend whose item has not fallen enters DROP_WAIT and its Drop Window opens (R70); a held request is then energized
(R79). Home events are taken of the energized position alone, and not in IDLE and STOPPED_FAULT; a return in STARTING changes
no state. The switch then stands as it was left, and that is the reading at the next energizing. That a command names the
spiral whose switch moves is the model's choice (log 47). -/
def Obligations.HomeEvents : Prop :=
  let leaves := fun (s : State) (p : Nat) => { s.pins with away := s.pins.away ||| BitVec.twoPow 64 p }
  let returns := fun (s : State) (p : Nat) => { s.pins with away := s.pins.away &&& ~~~ BitVec.twoPow 64 p }
  (∀ s p t, t.position = p → ((s.group (groupOf p)).state = .starting t ∨ (s.group (groupOf p)).state = .turning t) →
      exec (.homeLeave p) s =
        .next
          (State.modGroup { s with pins := leaves s p } (groupOf p) fun r =>
            { r with state := .turning { t with home := .away } }))
    ∧ (∀ s p, (∀ t, t.position = p → (s.group (groupOf p)).state ≠ .starting t ∧ (s.group (groupOf p)).state ≠ .turning t) →
      exec (.homeLeave p) s = .next { s with pins := leaves s p }
        ∧ exec (.homeReturn p) s = .next { s with pins := returns s p })
    ∧ (∀ s p t, (s.group (groupOf p)).state = .starting t → exec (.homeReturn p) s = .next { s with pins := returns s p })
    ∧ ∀ s p t, (s.group (groupOf p)).state = .turning t → t.position = p → NothingWaits s →
      let g := groupOf p
      let released := fun o : Claimant =>
        { s.load with granted := s.load.granted.filter fun c => !(c.kind = .motor g && c.owner = o) }
      let home := returns s p
      (t.owner = .test → (s.group g).held = none →
          exec (.homeReturn p) s =
            .next
              (State.conclude
                (State.modGroup { s with pins := home, load := released .test } g fun r =>
                  { r with state := .idle, test := none })))
        ∧ (t.owner = .test → ∀ q, (s.group g).held = some (q, .vend) →
          exec (.homeReturn p) s =
            .next
              (State.conclude
                (State.modGroup { s with pins := home, load := released .test } g fun r =>
                  { r.energize (energized q .vend (home.away.getLsbD q) s.now) with held := none, test := none })))
        ∧ (t.owner = .vend → (s.group g).held = none → ∀ v, OnlyVend s v → v.state = .turning → groupOf v.position = g →
          v.droppedEarly = false →
          exec (.homeReturn p) s =
            .next
              (State.conclude
                (State.modGroup
                  { s with
                    pins := home
                    load := released .vend
                    sales := { s.sales with vends := [{ v with state := .dropWait s.now }] } }
                  g
                  fun r => { r with state := .idle })))

/-- The faults of a turn. STARTING at 600 ms (R81) and STARTING or TURNING at 4000 ms (R83) are TIMEOUT; what a fault does (R86,
R64, R70, R93) is `Faulted`, the close it completes in CLOSE_WAIT among it (R31). A group that is not so turning ignores the
command. That the command brings the clock to the deadline, and that delivered vends and opened at are 0 in a cleared session
record, is the model's choice (logs 2, 49); that the close is tested once the vend has left the list is its reading (log 31). -/
def Obligations.TurnFaults : Prop :=
  (∀ s g t, (s.group g).state = .starting t →
      Faulted { s with now := max s.now (t.energizedAt + 600) } g t .timeout 0 (exec (.homeLeaveTime g) s))
    ∧ (∀ s g t, (s.group g).state = .turning t →
      exec (.homeLeaveTime g) s = .next s
        ∧ Faulted { s with now := max s.now (t.energizedAt + 4000) } g t .timeout 1 (exec (.turnTimeout g) s))
    ∧ (∀ s g t, (s.group g).state = .starting t →
      Faulted { s with now := max s.now (t.energizedAt + 4000) } g t .timeout 0 (exec (.turnTimeout g) s))
    ∧ ∀ s g since, (s.group g).state = .idle ∨ (s.group g).state = .stopped since →
      exec (.homeLeaveTime g) s = .next s ∧ exec (.turnTimeout g) s = .next s

/-- A current sample of a turn (R84, R85): it is the last current; above 1600 mA the high-current run rises by 1, otherwise it is
0. A run of 20 ends the turn in a STALL; the No-Motor check, made once at 300 ms, ends it in NO_MOTOR below 60 mA; otherwise the
turn goes on and nothing else changes. Without a turn the command changes nothing. That the command brings the clock to the
deadline is the model's choice (log 2); that the next sample is due 10 ms after this one, and the check is made at the first sample
at 300 ms or later, is its reading of R84 and R85 (log 42). Of the close that a fault completes in CLOSE_WAIT (R31, in `Faulted`),
that it is tested once the vend has left the list is the model's reading (log 31), and that delivered vends and opened at are 0 in
the cleared session record its choice (log 49). -/
def Obligations.CurrentSampled : Prop :=
  (∀ s g milliamps t phase,
      ((s.group g).state = .starting t ∧ phase = 0 ∨ (s.group g).state = .turning t ∧ phase = 1) →
      let now := max s.now t.sampleAt
      let run := if 1600 < milliamps then min 20 ((s.group g).highRun + 1) else 0
      let check := (s.group g).noMotorChecked = false ∧ 300 ≤ min 4000 (now - t.energizedAt)
      let x : Turn := { t with sampleAt := now + 10 }
      let y := if phase = 0 then GroupState.starting x else .turning x
      let u := State.modGroup { s with now := now } g fun r =>
        { r with
          state := y, lastCurrent := milliamps, highRun := run
          noMotorChecked := r.noMotorChecked || decide (300 ≤ min 4000 (now - t.energizedAt)) }
      (20 ≤ run → Faulted u g x .stall phase (exec (.currentSample g milliamps) s))
        ∧ (run < 20 → check → milliamps < 60 → Faulted u g x .noMotor phase (exec (.currentSample g milliamps) s))
        ∧ (run < 20 → ¬ (check ∧ milliamps < 60) → exec (.currentSample g milliamps) s = .next u.conclude))
    ∧ ∀ s g milliamps since, (s.group g).state = .idle ∨ (s.group g).state = .stopped since →
      exec (.currentSample g milliamps) s = .next s

/-- MOTOR_TEST (R91, R92): the refusals in their order; otherwise the reply gives the position and its group, and a claim
that is granted at once energizes the position of an IDLE group with owner TEST, or holds the request of a group in
STOPPED_FAULT (R79). The end of Fault Rest (R87), 1000 ms after the fault: the group is IDLE, or energizes its held request;
any other state of the group stays as it is. A payload too short is refused BAD_ARGUMENT (R150); that this comes before the
rule's own checks is the model's choice (log 14). That the command brings the clock to the deadline is the model's choice
(log 2). -/
def Obligations.MotorTestTaken : Prop :=
  (∀ s g since, (s.group g).state = .stopped since →
      let now := max s.now (since + 1000)
      ((s.group g).held = none →
          exec (.faultRestEnd g) s =
            .next (State.conclude (State.modGroup { s with now := now } g fun r => { r with state := .idle })))
        ∧ ∀ p o, (s.group g).held = some (p, o) →
          exec (.faultRestEnd g) s =
            .next
              (State.conclude
                (State.modGroup { s with now := now } g fun r =>
                  { r.energize (energized p o (s.pins.away.getLsbD p) now) with held := none })))
    ∧ (∀ s g t, (s.group g).state = .idle ∨ (s.group g).state = .starting t ∨ (s.group g).state = .turning t →
      exec (.faultRestEnd g) s = .next s)
    ∧ (∀ s seq, exec (.motorTest seq []) s = .next (s.frameTaken.refuse seq .badArgument))
    ∧ ∀ s seq (b : Byte) rest,
      let p := b.toNat
      let g := groupOf p
      (s.tables.mode ≠ .service → exec (.motorTest seq (b :: rest)) s = .next (s.frameTaken.refuse seq .badMode))
        ∧ (s.tables.mode = .service → 63 < p →
          exec (.motorTest seq (b :: rest)) s = .next (s.frameTaken.refuse seq .badArgument))
        ∧ (s.tables.mode = .service → p ≤ 63 → (s.group g).test ≠ none →
          exec (.motorTest seq (b :: rest)) s = .next (s.frameTaken.refuse seq .busy))
        ∧ (s.tables.mode = .service → p ≤ 63 → (s.group g).test = none → GrantsMotor s g →
          let granted := { s.load with granted := s.load.granted ++ [grantNow s (.motor g) .test] }
          let u : State := { s.frameTaken.accept seq [b, if p < 32 then 0 else 1] with load := granted }
          ((s.group g).state = .idle →
              exec (.motorTest seq (b :: rest)) s =
                .next
                  (State.conclude
                    (u.modGroup g fun r =>
                      { r.energize (energized p .test (s.pins.away.getLsbD p) s.now) with test := some p })))
            ∧ ∀ since, (s.group g).state = .stopped since →
              exec (.motorTest seq (b :: rest)) s =
                .next (State.conclude (u.modGroup g fun r => { r with held := some (p, .test), test := some p })))

/-! ### The refrigeration plant (06) -/

/-- The three samples of one second (R96, R97): each sensor's record follows its count by `SensorAfter`, whatever the tests
of the sample bring about, and the next samples are due one second later. In a plant at rest (compressor in OFF_MIN, no
defrost, a condenser within its limit) the thermostat decides demand (R101), and beside it: a COIL that stays good changes
nothing else; a sensor that recovers, and one whose bad run reaches 60, raise SENSOR_FAILED with their own subject, and with COND
FAILED the condenser limit is not applied (R106). A CAB that becomes FAILED also brings the lockout with COLD_LOCKOUT and cause 2
(R115) and fallback duty (R107): at rest demand arises once the off time has reached Fallback Off, in RUNNING the compressor runs
on until Fallback On. That the command brings the clock to the deadline is the model's choice (log 2). The order of the tests is
log 23; demand under fallback duty is log 24. -/
def Obligations.SensorsSampled : Prop :=
  (∀ s cab coil cond, ∃ t, exec (.sensorSample cab coil cond) s = .next t
      ∧ t.now = max s.now s.plant.sampleAt ∧ t.plant.sampleAt = s.plant.sampleAt + 1000
      ∧ SensorAfter s.plant.cab (s.plant.curve.take 8) cab t.plant.cab
      ∧ SensorAfter s.plant.coil ((s.plant.curve.drop 8).take 8) coil t.plant.coil
      ∧ SensorAfter s.plant.cond ((s.plant.curve.drop 16).take 8) cond t.plant.cond)
    ∧ ∀ s cab coil cond,
      let p := s.plant
      let good := fun c : Nat => 16 ≤ c ∧ c ≤ 4079
      let air := convert (p.curve.take 8) cab
      let ice := convert ((p.curve.drop 8).take 8) coil
      let hot := convert ((p.curve.drop 16).take 8) cond
      let valid := fun t => ({ state := .valid, temp := some t, badRun := 0, lastFault := none } : Sensor)
      let now := max s.now p.sampleAt
      let demand :=
        if p.cooling.setpoint + p.cooling.band ≤ air then true else if air ≤ p.cooling.setpoint then false else p.demand
      let u := fun y =>
        { s with
          now := now
          plant :=
            { p with cab := valid air, coil := y, cond := valid hot, sampleAt := p.sampleAt + 1000, demand := demand } }
      let fault := fun c : Nat => if c < 16 then SensorFault.short else .opened
      let code := fun c : Nat => if c < 16 then 1 else 2
      let failed := fun (t : Int) (c : Nat) =>
        ({ state := .failed, temp := some t, badRun := 60, lastFault := some (fault c) } : Sensor)
      (p.defrost = .idle → good cab → good coil → p.cab.state ≠ .failed → p.coil.state ≠ .failed → p.compressor = .offMin →
          (good cond → p.cond.state = .failed → hot ≤ p.cooling.condCutout →
              exec (.sensorSample cab coil cond) s =
                .next ((u (valid ice)).raise .sensorFailed (some 2) [0, signed16 hot]).conclude)
            ∧ (¬ good cond → p.cond.state ≠ .failed → 59 ≤ p.cond.badRun →
              let held := p.cond.temp.getD (pointZero ((p.curve.drop 16).take 8))
              exec (.sensorSample cab coil cond) s =
                .next
                  (State.raise
                    { s with
                      now := now
                      plant :=
                        { p with
                          cab := valid air, coil := valid ice, cond := failed held cond, sampleAt := p.sampleAt + 1000
                          demand := demand } }
                    .sensorFailed (some 2) [1, code cond, signed16 held]).conclude))
        ∧ (p.defrost = .idle → good cab → good coil → good cond → p.cab.state = .failed → p.coil.state ≠ .failed →
          p.cond.state ≠ .failed → p.compressor = .offMin → hot ≤ p.cooling.condCutout →
          exec (.sensorSample cab coil cond) s =
            .next ((u (valid ice)).raise .sensorFailed (some 0) [0, signed16 air]).conclude)
        ∧ (p.defrost = .idle → ¬ good cab → good coil → good cond → p.cab.state ≠ .failed → 59 ≤ p.cab.badRun →
          p.coil.state ≠ .failed → p.cond.state ≠ .failed → hot ≤ p.cooling.condCutout → p.lockout = false →
          s.sales.vends = [] →
          ∀ demand, (p.compressor = .offMin ∧ demand = decide (p.cooling.fallbackOff * 1000 ≤ now - p.offSince)
              ∨ (∃ since, p.compressor = .running since
                  ∧ (now - since < p.cooling.minRun * 1000 ∨ now - since < p.cooling.fallbackOn * 1000)) ∧ demand = true) →
          let held := p.cab.temp.getD (pointZero (p.curve.take 8))
          ∃ m, HighestPrice s.sales.selections true m
            ∧ exec (.sensorSample cab coil cond) s =
              .next
                ((State.raise
                    { s with
                      now := now
                      change := { s.change with maxPrice := m }
                      plant :=
                        { p with
                          cab := failed held cab, coil := valid ice, cond := valid hot, sampleAt := p.sampleAt + 1000
                          demand := demand, lockout := true } }
                    .sensorFailed (some 0) [1, code cab, signed16 held]).raise
                  .coldLockout none [1, p.exposure, 2]).conclude)
        ∧ (p.compressor = .offMin → p.defrost = .idle → good cab → good cond → p.cab.state ≠ .failed →
          p.cond.state ≠ .failed → hot ≤ p.cooling.condCutout →
          (good coil → p.coil.state ≠ .failed →
              exec (.sensorSample cab coil cond) s = .next (State.conclude (u (valid ice))))
            ∧ (good coil → p.coil.state = .failed →
              exec (.sensorSample cab coil cond) s =
                .next ((u (valid ice)).raise .sensorFailed (some 1) [0, signed16 ice]).conclude)
            ∧ (¬ good coil → p.coil.state ≠ .failed → 59 ≤ p.coil.badRun →
              let held := p.coil.temp.getD (pointZero ((p.curve.drop 8).take 8))
              exec (.sensorSample cab coil cond) s =
                .next ((u (failed held coil)).raise .sensorFailed (some 1) [1, code coil, signed16 held]).conclude))

/-- R98: how a good count becomes a temperature. Below point 0 and above the last point the end temperatures hold; otherwise the
first segment, in point order, whose end counts take the count gives its start plus the fraction of its change, the division
cut toward zero. A count equal to a point's count gives that point's temperature, every result lies within the temperatures of
the points, and a bad count is not converted. -/
def Obligations.CurveConversion : Prop :=
  ∀ curve, Rising curve → curve.length = 8 →
    (∀ p c, curve[0]? = some p → c < p.count → convert curve c = p.temp)
      ∧ (∀ p c, curve[7]? = some p → p.count < c → convert curve c = p.temp)
      ∧ (∀ (i : Nat) (p q : CurvePoint) (c : Nat), curve[i]? = some p → curve[i + 1]? = some q → p.count ≤ c → c ≤ q.count →
        (∀ (j : Nat) (x y : CurvePoint), j < i → curve[j]? = some x → curve[j + 1]? = some y →
          ¬ (x.count ≤ c ∧ c ≤ y.count)) →
        convert curve c =
          p.temp + (((c : Int) - p.count) * (q.temp - p.temp)).tdiv ((q.count : Int) - p.count))
      ∧ (∀ p ∈ curve, convert curve p.count = p.temp)
      ∧ (∀ low high c, (∀ p ∈ curve, low ≤ p.temp ∧ p.temp ≤ high) → low ≤ convert curve c ∧ convert curve c ≤ high)
      ∧ ∀ (x : Sensor) (t : Int) (c : Nat), x.temp = some t → (c < 16 ∨ 4079 < c) → (x.sampled curve c).temp = some t

/-- How the compressor starts (R101 to R104). The end of Min Off brings OFF_READY, where demand is tested at once, the
thermostat's or that of fallback duty: without demand, in a defrost, or under the condenser limit it stays there; otherwise it
moves to START_WAIT with its claim, which is granted at once when nothing waits, no start claim is granted and it fits: the
relay is on and STARTING begins. Under fallback duty (R107) the end of Fallback Off brings demand and its test in the same way:
OFF_READY starts, waits for its claim, or stays in a defrost and under the condenser limit; OFF_MIN and PROTECT only note the
demand (R102, R106; in PROTECT log 33); in START_WAIT, STARTING and RUNNING, and without fallback duty, it changes nothing. The
end of Start Window brings RUNNING and shrinks the grant (R104, R125). Outside OFF_MIN the end of Min Off changes nothing, and
outside STARTING that of Start Window. That the command brings the clock to the deadline is the model's choice (log 2). Demand
under fallback duty is log 24. -/
def Obligations.CompressorStarts : Prop :=
  (∀ s wants, s.plant.compressor = .offMin →
      let p := s.plant
      let now := max s.now (p.offSince + p.cooling.minOff * 1000)
      ((p.cab.state = .failed ∧ wants = (p.demand || decide (p.cooling.fallbackOff * 1000 ≤ now - p.offSince)))
        ∨ p.cab.state ≠ .failed ∧ ∃ t, p.cab.temp = some t
          ∧ wants = (decide (p.cooling.setpoint + p.cooling.band ≤ t) || (decide (p.cooling.setpoint < t) && p.demand))) →
      (wants = false ∨ p.defrost ≠ .idle ∨ p.limitApplies = true →
          exec .minOffEnd s =
            .next (State.conclude { s with now := now, plant := { p with compressor := .offReady, demand := wants } }))
        ∧ (wants = true → p.defrost = .idle → p.limitApplies = false → NothingWaits s →
          (∀ g ∈ s.load.granted, g.kind ≠ .compressorStart) →
          (s.load.drawn + s.load.table.compressorStart ≤ s.load.table.budget →
              exec .minOffEnd s =
                .next
                  (State.conclude
                    { s with
                      now := now
                      plant := { p with compressor := .starting now, demand := true }
                      load :=
                        { s.load with
                          granted := s.load.granted ++ [grantNow { s with now := now } .compressorStart .plant] } }))
            ∧ (s.load.table.budget < s.load.drawn + s.load.table.compressorStart →
              (∀ g ∈ s.load.granted, g.kind ≠ .defrost) →
              exec .minOffEnd s =
                .next
                  (State.conclude
                    { s with
                      now := now
                      plant := { p with compressor := .startWait, demand := true }
                      load :=
                        { s.load with
                          queue :=
                            [{ kind := .compressorStart, owner := .plant, units := s.load.table.compressorStart,
                               priority := 3, arrival := now }] } }))))
    ∧ (∀ s, s.plant.compressor = .offReady → s.plant.cab.state = .failed → s.plant.defrost = .idle →
      s.plant.limitApplies = false → NothingWaits s → (∀ g ∈ s.load.granted, g.kind ≠ .compressorStart) →
      s.load.drawn + s.load.table.compressorStart ≤ s.load.table.budget →
      let now := max s.now (s.plant.offSince + s.plant.cooling.fallbackOff * 1000)
      exec .fallbackOffElapsed s =
        .next
          (State.conclude
            { s with
              now := now
              plant := { s.plant with compressor := .starting now, demand := true }
              load :=
                { s.load with
                  granted := s.load.granted ++ [grantNow { s with now := now } .compressorStart .plant] } }))
    ∧ (∀ s, s.plant.cab.state = .failed →
      let p := s.plant
      let now := max s.now (p.offSince + p.cooling.fallbackOff * 1000)
      ((p.compressor = .offMin ∨ p.compressor = .protecting
            ∨ p.compressor = .offReady ∧ (p.defrost ≠ .idle ∨ p.limitApplies = true)) →
          exec .fallbackOffElapsed s = .next (State.conclude { s with now := now, plant := { p with demand := true } }))
        ∧ (p.compressor = .offReady → p.defrost = .idle → p.limitApplies = false → NothingWaits s →
          (∀ g ∈ s.load.granted, g.kind ≠ .compressorStart) → (∀ g ∈ s.load.granted, g.kind ≠ .defrost) →
          s.load.table.budget < s.load.drawn + s.load.table.compressorStart →
          exec .fallbackOffElapsed s =
            .next
              (State.conclude
                { s with
                  now := now
                  plant := { p with compressor := .startWait, demand := true }
                  load :=
                    { s.load with
                      queue :=
                        [{ kind := .compressorStart, owner := .plant, units := s.load.table.compressorStart,
                           priority := 3, arrival := now }] } }))
        ∧ ((p.compressor = .startWait ∨ ∃ since, p.compressor = .starting since ∨ p.compressor = .running since) →
          exec .fallbackOffElapsed s = .next s))
    ∧ (∀ s since, s.plant.compressor = .starting since → NothingWaits s →
      exec .startWindowEnd s =
        .next
          (State.conclude
            { s with
              now := max s.now (since + s.plant.cooling.startWindow * 1000)
              plant := { s.plant with compressor := .running since }
              load :=
                { s.load with
                  granted := s.load.granted.map fun g =>
                    if g.kind = .compressorStart then
                      { g with kind := .compressorRun, units := min s.load.table.compressorRun g.units }
                    else g } }))
    ∧ ∀ s, (s.plant.compressor ≠ .offMin → exec .minOffEnd s = .next s)
      ∧ (s.plant.cab.state ≠ .failed → exec .fallbackOffElapsed s = .next s)
      ∧ ((∀ since, s.plant.compressor ≠ .starting since) → exec .startWindowEnd s = .next s)

/-- How a running compressor stops (R105, R107). When Min Run is reached, with demand lapsed, or under fallback duty with
Fallback On over, the relay goes off, the claim is released, OFF_MIN begins with the off time at 0, the run-time total keeps
the run up to 86400 s, and demand under fallback duty lapses; otherwise it runs on. The end of Fallback On stops it in the
same way once Min Run is met. A stop that finds the defrost DUE lets it proceed to CLAIMING, and its claim, granted at once,
to HEATING (R109). In other states the two commands change nothing. At a sample the condenser limit brings PROTECT from every
other state (R106): a run stops, even inside Min Run, with its claim released, a waiting claim is withdrawn, and
COMPRESSOR_PROTECT carries 1 and COND. A good COND at or below Condenser Reset ends PROTECT in OFF_MIN with the off time at 0 and
COMPRESSOR_PROTECT with 0 and COND; demand under fallback duty lapses at this stop too (R107). That the command brings the clock
to the deadline is the model's choice (log 2). That demand lapses at the stop is log 24, and that the off time counts from the
stop with which PROTECT begins is log 33; the order of a sample's tests is log 23. Condenser Reset lies below Condenser Cutout, as
R100 has it and `BoundsKept` keeps it. -/
def Obligations.CompressorStops : Prop :=
  (∀ s cab coil cond,
    let p := s.plant
    let good := fun c : Nat => 16 ≤ c ∧ c ≤ 4079
    let air := convert (p.curve.take 8) cab
    let ice := convert ((p.curve.drop 8).take 8) coil
    let hot := convert ((p.curve.drop 16).take 8) cond
    let valid := fun t => ({ state := .valid, temp := some t, badRun := 0, lastFault := none } : Sensor)
    let now := max s.now p.sampleAt
    let read :=
      { p with
        cab := valid air, coil := valid ice, cond := valid hot, sampleAt := p.sampleAt + 1000
        demand :=
          if p.cooling.setpoint + p.cooling.band ≤ air then true else if air ≤ p.cooling.setpoint then false else p.demand }
    let out := exec (.sensorSample cab coil cond) s
    let protects := fun (q : PlantUnit) (load : LoadUnit) =>
      .next
        (State.raise { s with now := now, plant := { q with compressor := .protecting }, load := load } .compressorProtect none
          [1, signed16 hot]).conclude
    good coil → good cond → p.coil.state ≠ .failed → p.cond.state ≠ .failed → p.defrost = .idle →
    (good cab → p.cab.state ≠ .failed → p.cooling.condReset < p.cooling.condCutout → p.cooling.condCutout < hot →
        (p.compressor = .offMin ∨ p.compressor = .offReady → out = protects read s.load)
          ∧ (∀ c, p.compressor = .startWait → s.load.queue = [c] → c.kind = .compressorStart → c.owner = .plant →
            s.load.held = [] → out = protects read { s.load with queue := [] })
          ∧ ∀ since k, (p.compressor = .starting since ∧ k = .compressorStart ∨ p.compressor = .running since ∧ k = .compressorRun) →
            NothingWaits s →
            out =
              protects { read with offSince := now, runMs := min 86400000 (p.runMs + (now - since)) }
                { s.load with granted := s.load.granted.filter fun g => !(g.kind = k && g.owner = .plant) })
      ∧ (good cab → p.cab.state ≠ .failed → p.compressor = .protecting →
        (p.cooling.condReset < hot → out = .next (State.conclude { s with now := now, plant := read }))
          ∧ (hot ≤ p.cooling.condReset →
            out =
              .next
                (State.raise { s with now := now, plant := { read with compressor := .offMin, offSince := now } }
                  .compressorProtect none [0, signed16 hot]).conclude))
      ∧ (¬ good cab → p.cab.state = .failed → p.compressor = .protecting → hot ≤ p.cooling.condReset →
        ∃ y, SensorAfter p.cab (p.curve.take 8) cab y
          ∧ out =
            .next
              (State.raise
                { s with
                  now := now
                  plant := { read with cab := y, compressor := .offMin, offSince := now, demand := false } }
                .compressorProtect none [0, signed16 hot]).conclude))
    ∧
  (∀ s since, s.plant.compressor = .running since → NothingWaits s →
      let p := s.plant
      let failed := p.cab.state = .failed
      let halted := fun now : Nat =>
        { p with
          compressor := .offMin, offSince := now, runMs := min 86400000 (p.runMs + (now - since))
          demand := if p.cab.state = .failed then false else p.demand }
      let left := s.load.granted.filter fun g => !(g.kind = .compressorRun && g.owner = .plant)
      let minRun := max s.now (since + p.cooling.minRun * 1000)
      let onTime := max s.now (since + p.cooling.fallbackOn * 1000)
      let stops := p.demand = false ∨ failed ∧ p.cooling.fallbackOn * 1000 ≤ minRun - since
      (stops → p.defrost.isDue = false →
          exec .minRunReached s =
            .next (State.conclude { s with now := minRun, plant := halted minRun, load := { s.load with granted := left } }))
        ∧ (¬ stops → p.defrost.isDue = false → exec .minRunReached s = .next (State.conclude { s with now := minRun }))
        ∧ (∀ c, p.defrost = .due c → p.coilEnd = false → (∀ g ∈ s.load.granted, g.kind ≠ .defrost) →
          10 + grantedUnits left + s.load.table.defrost ≤ s.load.table.budget →
          exec .minRunReached s =
            .next
              (State.conclude
                { s with
                  now := minRun
                  plant := { halted minRun with defrost := .heating c minRun }
                  load :=
                    { s.load with granted := left ++ [grantNow { s with now := minRun } .defrost .plant] } }))
        ∧ (failed → p.cooling.minRun * 1000 ≤ onTime - since → p.defrost.isDue = false →
          exec .fallbackOnElapsed s =
            .next (State.conclude { s with now := onTime, plant := halted onTime, load := { s.load with granted := left } })))
    ∧ ∀ s, ((∀ since, s.plant.compressor ≠ .running since) →
        exec .minRunReached s = .next s ∧ exec .fallbackOnElapsed s = .next s)
      ∧ (s.plant.cab.state ≠ .failed → exec .fallbackOnElapsed s = .next s)

/-- How a defrost begins (R108, R109). DEFROST_NOW outside NONE is refused BUSY. In NONE the defrost becomes DUE with its
notice: a STARTING compressor, and a RUNNING one inside Min Run, leave it so; a RUNNING one past Min Run stops for it, and one in
START_WAIT gives up its claim; a compressor at rest lets it proceed to CLAIMING, whose claim is granted at once, and HEATING
begins, or waits; the reply gives the state the request leaves. The run-time total reaching Defrost Interval while the relay is
on brings DUE with the cause INTERVAL in the same way; without relay-on time, or in a defrost, that command changes nothing. That
the command brings the clock to the deadline is the model's choice (log 2), and so is that a total which stands at Defrost Interval as
the relay closes has reached it at on time 0 (log 54); that the deadline is reckoned from a run-time total kept in milliseconds is
log 34. -/
def Obligations.DefrostStarts : Prop :=
  (∀ s seq p, s.plant.defrost ≠ .idle → exec (.defrostNow seq p) s = .next (s.frameTaken.refuse seq .busy))
    ∧ (∀ s seq p since, s.plant.defrost = .idle →
      (s.plant.compressor = .starting since
        ∨ s.plant.compressor = .running since ∧ s.now - since < s.plant.cooling.minRun * 1000) →
      exec (.defrostNow seq p) s =
        .next
          ((State.raise { s.frameTaken with plant := { s.plant with defrost := .due .request } } .defrost none
            [1, 2]).accept seq [1]).conclude)
    ∧ (∀ s seq p, s.plant.defrost = .idle → NothingWaits s → (∀ g ∈ s.load.granted, g.kind ≠ .defrost) →
      (s.plant.compressor = .offMin ∨ s.plant.compressor = .offReady ∨ s.plant.compressor = .protecting) →
      let fits := s.load.drawn + s.load.table.defrost ≤ s.load.table.budget
      (fits → s.plant.coilEnd = false →
          exec (.defrostNow seq p) s =
            .next
              ((State.raise
                  { s.frameTaken with
                    plant := { s.plant with defrost := .heating .request s.now }
                    load := { s.load with granted := s.load.granted ++ [grantNow s .defrost .plant] } }
                  .defrost none [1, 2]).accept
                seq [3]).conclude)
        ∧ (¬ fits →
          exec (.defrostNow seq p) s =
            .next
              ((State.raise
                  { s.frameTaken with
                    plant := { s.plant with defrost := .claiming .request }
                    load :=
                      { s.load with
                        queue :=
                          [{ kind := .defrost, owner := .plant, units := s.load.table.defrost, priority := 4,
                             arrival := s.now }] } }
                  .defrost none [1, 2]).accept
                seq [2]).conclude))
    ∧ (∀ s seq p c, s.plant.defrost = .idle → s.plant.compressor = .startWait → s.load.queue = [c] →
      c.kind = .compressorStart → c.owner = .plant → s.load.held = [] → (∀ g ∈ s.load.granted, g.kind ≠ .defrost) →
      s.load.drawn + s.load.table.defrost ≤ s.load.table.budget → s.plant.coilEnd = false →
      exec (.defrostNow seq p) s =
        .next
          ((State.raise
              { s.frameTaken with
                plant := { s.plant with compressor := .offReady, defrost := .heating .request s.now }
                load := { s.load with queue := [], granted := s.load.granted ++ [grantNow s .defrost .plant] } }
              .defrost none [1, 2]).accept
            seq [3]).conclude)
    ∧ (∀ s since, s.plant.compressor = .running since → s.plant.defrost = .idle → NothingWaits s →
      (∀ g ∈ s.load.granted, g.kind ≠ .defrost) → s.plant.coilEnd = false →
      let p := s.plant
      let left := s.load.granted.filter fun g => !(g.kind = .compressorRun && g.owner = .plant)
      let stopped := fun (now : Nat) (cause : DefrostCause) =>
        { p with
          compressor := .offMin, offSince := now, runMs := min 86400000 (p.runMs + (now - since))
          demand := if p.cab.state = .failed then false else p.demand
          defrost := .heating cause now }
      10 + grantedUnits left + s.load.table.defrost ≤ s.load.table.budget →
      (∀ seq b, p.cooling.minRun * 1000 ≤ s.now - since →
          exec (.defrostNow seq b) s =
            .next
              ((State.raise
                  { s.frameTaken with
                    plant := stopped s.now .request
                    load := { s.load with granted := left ++ [grantNow s .defrost .plant] } }
                  .defrost none [1, 2]).accept
                seq [3]).conclude)
        ∧ ∀ now, now = max s.now (since + (p.cooling.defrostInterval * 1000 - p.runMs)) →
          p.cooling.minRun * 1000 ≤ now - since →
          exec .defrostIntervalReached s =
            .next
              (State.raise
                { s with
                  now := now
                  plant := stopped now .interval
                  load := { s.load with granted := left ++ [grantNow { s with now := now } .defrost .plant] } }
                .defrost none [1, 1]).conclude)
    ∧ (∀ s since now, s.plant.defrost = .idle → now = max s.now (since + (s.plant.cooling.defrostInterval * 1000 - s.plant.runMs)) →
      (s.plant.compressor = .starting since
        ∨ s.plant.compressor = .running since ∧ now - since < s.plant.cooling.minRun * 1000) →
      exec .defrostIntervalReached s =
        .next
          (State.raise { s with now := now, plant := { s.plant with defrost := .due .interval } } .defrost none
            [1, 1]).conclude)
    ∧ ∀ s, (s.plant.defrost ≠ .idle ∨ s.plant.relay = false) → exec .defrostIntervalReached s = .next s

/-- How a defrost ends (R110 to R112). The heating time reaching Defrost Max switches the heater off, releases the claim,
enters DRIP and raises DEFROST with the reason MAX and the heating time in seconds; a COIL sample at or above Defrost End
does so with the reason COIL, in SUSPENDED too, where it withdraws the waiting claim. The end of Drip clears the run-time total
and the heating time, returns to NONE with its notice, and demand is tested: in OFF_MIN and PROTECT it is noted, in OFF_READY it
starts the compressor, whose claim is granted at once. A Drip of 0 ends in the step that enters it. Outside HEATING, and outside
DRIP, the two timers change nothing. That the command brings the
clock to the deadline is the model's choice (log 2); that the heating time is kept in milliseconds and reported in whole seconds,
rounded down, is log 34. -/
def Obligations.DefrostEnds : Prop :=
  (∀ s c, s.plant.cooling.drip ≠ 0 →
      let p := s.plant
      let ended := fun (now reason heatMs : Nat) (p : PlantUnit) (load : LoadUnit) =>
        State.raise { s with now := now, plant := { p with defrost := .drip c now, heatMs := heatMs }, load := load } .defrost
          none [2, reason, heatMs / 1000]
      let heated := fun since now : Nat => p.heatMs + (now - since)
      let released := { s.load with granted := s.load.granted.filter fun g => !(g.kind = .defrost && g.owner = .plant) }
      (∀ since, p.defrost = .heating c since → NothingWaits s →
          let now := max s.now (since + (p.cooling.defrostMax * 1000 - p.heatMs))
          exec .defrostMaxReached s = .next (ended now 2 (heated since now) p released).conclude)
        ∧ ∀ cab coil cond,
          let air := convert (p.curve.take 8) cab
          let ice := convert ((p.curve.drop 8).take 8) coil
          let hot := convert ((p.curve.drop 16).take 8) cond
          let valid := fun t => ({ state := .valid, temp := some t, badRun := 0, lastFault := none } : Sensor)
          let now := max s.now p.sampleAt
          let read :=
            { p with
              cab := valid air, coil := valid ice, cond := valid hot, sampleAt := p.sampleAt + 1000
              demand :=
                if p.cooling.setpoint + p.cooling.band ≤ air then true
                else if air ≤ p.cooling.setpoint then false
                else p.demand }
          (16 ≤ cab ∧ cab ≤ 4079) → (16 ≤ coil ∧ coil ≤ 4079) → (16 ≤ cond ∧ cond ≤ 4079) → p.cab.state ≠ .failed →
          p.coil.state ≠ .failed → p.cond.state ≠ .failed → p.compressor = .offMin → hot ≤ p.cooling.condCutout →
          p.cooling.defrostEnd ≤ ice →
          (∀ since, p.defrost = .heating c since → NothingWaits s →
              exec (.sensorSample cab coil cond) s = .next (ended now 1 (heated since now) read released).conclude)
            ∧ ∀ d, p.defrost = .suspended c → s.load.queue = [d] → d.kind = .defrost → d.owner = .plant → s.load.held = [] →
              (∀ g ∈ s.load.granted, g.kind ≠ .defrost) →
              exec (.sensorSample cab coil cond) s =
                .next (ended now 1 p.heatMs read { s.load with queue := [] }).conclude)
    ∧ (∀ s c since t, s.plant.cab.state ≠ .failed → s.plant.cab.temp = some t →
      let p := s.plant
      let wants :=
        if p.cooling.setpoint + p.cooling.band ≤ t then true else if t ≤ p.cooling.setpoint then false else p.demand
      let dry := { p with runMs := 0, heatMs := 0, defrost := .idle, demand := wants }
      let now := max s.now (since + p.cooling.drip * 1000)
      let max' := max s.now (since + (p.cooling.defrostMax * 1000 - p.heatMs))
      (p.defrost = .drip c since →
          (p.compressor = .offMin ∨ p.compressor = .protecting ∨ p.compressor = .offReady ∧ wants = false) →
          exec .dripEnd s = .next (State.raise { s with now := now, plant := dry } .defrost none [3]).conclude)
        ∧ (p.defrost = .drip c since → p.compressor = .offReady → wants = true → p.limitApplies = false → NothingWaits s →
          (∀ g ∈ s.load.granted, g.kind ≠ .compressorStart) →
          s.load.drawn + s.load.table.compressorStart ≤ s.load.table.budget →
          exec .dripEnd s =
            .next
              (State.raise
                { s with
                  now := now
                  plant := { dry with compressor := .starting now }
                  load :=
                    { s.load with
                      granted := s.load.granted ++ [grantNow { s with now := now } .compressorStart .plant] } }
                .defrost none [3]).conclude)
        ∧ (p.defrost = .heating c since → p.cooling.drip = 0 → p.compressor = .offMin → NothingWaits s →
          exec .defrostMaxReached s =
            .next
              ((State.raise
                  { s with
                    now := max'
                    plant := dry
                    load :=
                      { s.load with
                        granted := s.load.granted.filter fun g => !(g.kind = .defrost && g.owner = .plant) } }
                  .defrost none [2, 2, (p.heatMs + (max' - since)) / 1000]).raise
                .defrost none [3]).conclude))
    ∧ ∀ s, ((∀ c since, s.plant.defrost ≠ .heating c since) → exec .defrostMaxReached s = .next s)
      ∧ ((∀ c since, s.plant.defrost ≠ .drip c since) → exec .dripEnd s = .next s)

/-- An Exposure step (R114, R115, R116): Exposure is paused in HEATING and DRIP, held with CAB FAILED, raised by what CAB
stands above Safe Limit, and otherwise lowered by Recovery. At the threshold the lockout becomes active with COLD_LOCKOUT
and the highest sellable price falls to the positions still on sale; it is released at Exposure 0 with a VALID cabinet at or
below Safe Limit. A vend of a CHILLED position that waits alone, QUEUED or with its claim, which is withdrawn, ends HELD_COLD at
the lockout (R74); vends that do not wait, or of AMBIENT positions, stay. TEMPERATURE follows, with the three working temperatures
and Exposure. That the command brings the clock to the deadline is the model's choice (log 2). -/
def Obligations.ExposureSteps : Prop :=
  ∀ s a b c, s.plant.cab.temp = some a → s.plant.coil.temp = some b → s.plant.cond.temp = some c →
    let p := s.plant
    let after :=
      if p.heater = true ∨ p.cab.state = .failed then p.exposure
      else
        match p.defrost with
        | .drip _ _ => p.exposure
        | _ =>
          if p.cooling.safeLimit < a then min 65535 (p.exposure + (a - p.cooling.safeLimit).toNat)
          else p.exposure - p.cooling.recovery
    let stepped := { p with exposure := after, stepAt := p.stepAt + 60000 }
    let now := max s.now p.stepAt
    let log := [signed16 a, signed16 b, signed16 c, after]
    let unlocks := p.lockout = true ∧ after = 0 ∧ p.cab.state = .valid ∧ a ≤ p.cooling.safeLimit
    (¬ unlocks → (after < p.cooling.lockoutThreshold ∨ p.lockout = true) →
        exec .exposureStep s =
          .next (State.raise { s with now := now, plant := stepped } .temperature none log).conclude)
      ∧ (∀ v load, p.lockout = false → p.cooling.lockoutThreshold ≤ after → WaitsAlone s v load →
        (s.selection v.position).health = .chilled →
        ∃ m, HighestPrice s.sales.selections true m
          ∧ exec .exposureStep s =
            .next
              (((State.raise
                    { s with
                      now := now
                      plant := { stepped with lockout := true }
                      change := { s.change with maxPrice := m }
                      sales := s.sales.without v
                      load := load }
                    .coldLockout none [1, after, 1]).raise
                  .vendResult (some v.position) (resultValues v 4)).raise
                .temperature none log).conclude)
      ∧ (p.lockout = false → p.cooling.lockoutThreshold ≤ after →
        (∀ v ∈ s.sales.vends, v.waits = true → (s.selection v.position).health ≠ .chilled) →
        ∃ m, HighestPrice s.sales.selections true m
          ∧ exec .exposureStep s =
            .next
              ((State.raise
                  { s with
                    now := now
                    plant := { stepped with lockout := true }
                    change := { s.change with maxPrice := m } }
                  .coldLockout none [1, after, 1]).raise
                .temperature none log).conclude)
      ∧ (unlocks →
        ∃ m, HighestPrice s.sales.selections false m
          ∧ exec .exposureStep s =
            .next
              ((State.raise
                  { s with
                    now := now
                    plant := { stepped with lockout := false }
                    change := { s.change with maxPrice := m } }
                  .coldLockout none [0, 0, 0]).raise
                .temperature none log).conclude)

/-! ### The load budget (07) -/

/-- The arbiter's two moments. Min Resume (R122, R123): when the granted DEFROST has drawn for so long, a motor claim of a
test at the head that fits in its place takes it back: the heater goes off and the heating time stops (R111), the defrost's
claim waits again with its arrival time, and the test's position is energized; a head that does not fit even so waits on.
Start Defer Limit (R124): a COMPRESSOR_START claim that has waited so long gets priority 0 and goes to the head, ahead of a
motor claim; it is granted if it fits and the compressor then starts, and otherwise waits there. Without a granted DEFROST
or a waiting claim, and without a start claim that can be promoted, the two commands change nothing. That the command brings
the clock to the deadline is the model's choice (log 2). -/
def Obligations.ArbiterMoments : Prop :=
  (∀ s d h rest, s.load.granted.find? (fun g => g.kind = .defrost) = some d → s.load.queue = h :: rest →
      let now := max s.now (d.since + s.load.table.minResume * 1000)
      let freed := s.load.drawn - d.units + h.units ≤ s.load.table.budget
      s.load.table.budget < s.load.drawn + h.units →
      ((4 ≤ h.priority ∨ ¬ freed) → exec .minResumeReached s = .next (State.conclude { s with now := now }))
        ∧ ∀ g p cause since, h.kind = .motor g → h.owner = .test → h.priority = 2 → rest = [] → freed →
          s.plant.defrost = .heating cause since → (s.group g).state = .idle → (s.group g).test = some p → groupOf p = g →
          let left := s.load.granted.filter fun x => x.kind ≠ .defrost
          s.load.table.budget < 10 + grantedUnits left + h.units + s.load.table.defrost →
          exec .minResumeReached s =
            .next
              (State.conclude
                (State.modGroup
                  { s with
                    now := now
                    plant :=
                      { s.plant with
                        defrost := .suspended cause, heatMs := s.plant.heatMs + (now - since) }
                    load :=
                      { s.load with
                        queue :=
                          [{ kind := .defrost, owner := d.owner, units := s.load.table.defrost, priority := 4,
                             arrival := d.arrival }]
                        granted :=
                          left
                            ++ [{ kind := .motor g, owner := .test, units := h.units, since := now,
                                  arrival := h.arrival }] } }
                  g
                  fun r => r.energize (energized p .test (s.pins.away.getLsbD p) now))))
    ∧ (∀ s, ((∀ g ∈ s.load.granted, g.kind ≠ .defrost) ∨ s.load.queue = []) → exec .minResumeReached s = .next s)
    ∧ (∀ s c, s.load.queue = [c] → c.kind = .compressorStart → c.owner = .plant → c.priority ≠ 0 →
      s.plant.compressor = .startWait → s.load.drawn + c.units ≤ s.load.table.budget →
      let now := max s.now (c.arrival + s.load.table.startDefer * 1000)
      exec .startDeferLimit s =
        .next
          (State.conclude
            { s with
              now := now
              plant := { s.plant with compressor := .starting now }
              load :=
                { s.load with
                  queue := []
                  granted :=
                    s.load.granted
                      ++ [{ kind := .compressorStart, owner := .plant, units := c.units, since := now,
                            arrival := c.arrival }] } }))
    ∧ (∀ s h c, s.load.queue = [h, c] → c.kind = .compressorStart → c.priority = 3 → (∃ g, h.kind = .motor g) →
      h.priority = 2 → s.load.table.budget < s.load.drawn + c.units → (∀ g ∈ s.load.granted, g.kind ≠ .defrost) →
      exec .startDeferLimit s =
        .next
          (State.conclude
            { s with
              now := max s.now (c.arrival + s.load.table.startDefer * 1000)
              load := { s.load with queue := [{ c with priority := 0 }, h] } }))
    ∧ ∀ s, (∀ c ∈ s.load.queue, c.kind = .compressorStart → c.priority = 0) → exec .startDeferLimit s = .next s

/-! ### The Peripheral Bus (08) -/

/-- A host frame to node 1-15 (R132): UNKNOWN_NODE without an enabled channel of the alias; on a channel with it, PROTECTED for a
payment command on a money channel, CHANNEL_LOST, QUEUE_FULL, in that order; otherwise the frame joins the tail of the channel's
queue, an early accept is answered at once (R133), and the scheduler looks for work if the line is IDLE (R134). That a frame to
another node changes nothing is the model's reading (log 40), and so is the release of DE of a transaction that starts (log 35),
whose bus sequence is a free value (log 10). -/
def Obligations.PeripheralFrameTaken : Prop :=
  (∀ s (node kind seq : Byte) p, node.toNat = 0 ∨ 15 < node.toNat → exec (.peripheralFrame node kind seq p) s = .next s)
    ∧ ∀ s (node kind seq : Byte) p, 1 ≤ node.toNat → node.toNat ≤ 15 →
      let out := exec (.peripheralFrame node kind seq p) s
      let answered := fun condition reason : Nat =>
        s.frameTaken.transmit { node := node, kind := 0x80, seq := seq, payload := [u8 condition, u8 reason] }
      ((∀ n, n < 4 → (s.channel n).cfg.hostNode ≠ node.toNat) → out = .next (answered 2 0))
        ∧ ∀ n, n < 4 → (s.channel n).cfg.hostNode = node.toNat →
          (∀ m, m < n → (s.channel m).cfg.hostNode ≠ node.toNat) →
          let c := s.channel n
          let kept := c.cfg.role ≠ .passive ∧ 0x60 ≤ kind.toNat ∧ kind.toNat ≤ 0x64
          let c' :=
            { c with
              queue := c.queue ++ [{ hostNode := node, kind := kind, seq := seq, payload := p, queuedAt := s.now }] }
          let t := if c.cfg.early = true then answered 0 0 else s.frameTaken
          let u : State := { t with bridge := { s.bridge with channels := s.bridge.channels.set n c' } }
          (kept → out = .next (answered 1 9))
            ∧ (¬ kept → c.state = .lost → out = .next (answered 1 8))
            ∧ (¬ kept → c.state ≠ .lost → c.cfg.allocation ≤ c.queue.length → out = .next (answered 1 7))
            ∧ (¬ kept → c.state ≠ .lost → c.queue.length < c.cfg.allocation →
              (s.bridge.line ≠ .idle → out = .next u.conclude) ∧ (s.bridge.line = .idle → Looks u out))

/-- When the scheduler looks for work (R134, R135): at the end of the 2 ms guard (R128), which makes the line IDLE, and when
a poll or a probe interval has run out with the line IDLE; with the line not IDLE only time passes. What it finds and starts
is `Looks`. Without a guard, or on a channel that is not polled or not probed, the command changes nothing. That the command
brings the clock to the deadline is the model's choice (log 2). The bus sequence is a free value (log 10), and the release of DE in
whole milliseconds is the model's reading (log 35). -/
def Obligations.SchedulerLooks : Prop :=
  (∀ s since, s.bridge.line = .guarding since →
      Looks { s with now := max s.now (since + 2), bridge := { s.bridge with line := .idle } } (exec .guardEnd s))
    ∧ (∀ s, (∀ since, s.bridge.line ≠ .guarding since) → exec .guardEnd s = .next s)
    ∧ (∀ s n,
      let c := s.channel n
      let polled := c.state = .ready ∨ c.state = .suspect
      let u : State := { s with now := max s.now (c.lastActivity + 50 * c.cfg.pollInterval) }
      (polled → s.bridge.line = .idle → Looks u (exec (.pollDue n) s))
        ∧ (polled → s.bridge.line ≠ .idle → exec (.pollDue n) s = .next u.conclude)
        ∧ (¬ polled → exec (.pollDue n) s = .next s))
    ∧ ∀ s n wait,
      let c := s.channel n
      let probed := c.state = .probing ∧ wait = 1000 ∨ c.state = .lost ∧ wait = 2000
      let u : State := { s with now := max s.now (c.lastProbe + wait) }
      (probed → s.bridge.line = .idle → Looks u (exec (.probeDue n) s))
        ∧ (probed → s.bridge.line ≠ .idle → exec (.probeDue n) s = .next u.conclude)
        ∧ (c.state ≠ .probing → c.state ≠ .lost → exec (.probeDue n) s = .next s)

/-- A frame completed on the bus (R136). While the scheduler is not WAITING, or with another node or sequence, it is discarded;
with the right ones and a wrong check value the transaction has missed. A good reply brings a channel in AWAIT to READY with a miss
count of 0 and its last activity now, and the line enters GUARD: an ordinary answer to a POLL does no more; the host frame it
answers leaves its queue, and its host receives the reply or the notice of R133; an internal command leaves the slot, and behind a
SETTLE or a DENY the settlement listed first for the channel moves into it (R37, R143). The good reply to a PROBE brings a PROBING
or LOST channel up with CHANNEL_UP (R139), its last probe now (8.2). From the standing SUSPECT, and from PROBING and LOST, this is
becoming READY (`BecomesReady`): a mask is due to the note acceptor (R28), and the card reader's first listed settlement moves to
its slot (R37). The model's readings are that no other channel's settlement does (log 50), and that in a miss which brings the
channel to LOST the host frame on the bus fails with TIMEOUT after CHANNEL_LOST and outside its count (log 25, between R137 and
R138). -/
def Obligations.RepliesTaken : Prop :=
  (∀ s f check, (∀ x, s.bridge.line = .waiting x → f.node ≠ x.node ∨ f.seq ≠ x.seq) →
      exec (.busFrameReceived f check) s = .next { s with bridge := { s.bridge with rx := .hunting } })
    ∧ (∀ s f check x, s.bridge.line = .waiting x → f.node = x.node → f.seq = x.seq → check ≠ checkOf f →
      Missed { s with bridge := { s.bridge with rx := .hunting } } x (exec (.busFrameReceived f check) s))
    ∧ ∀ s f x, s.bridge.line = .waiting x → f.node = x.node → f.seq = x.seq → eventKinds.contains f.kind = false →
      let n := x.channel
      let c := s.channel n
      let out := exec (.busFrameReceived f (checkOf f)) s
      let ready := { c with state := .ready, misses := 0, lastActivity := s.now }
      let u := fun c : Channel =>
        { s with
          bridge :=
            { s.bridge with channels := s.bridge.channels.set n c, line := .guarding s.now, rx := .hunting } }
      let hosted := fun (h : HostFrame) (hs : List HostFrame) =>
        if c.cfg.early = true then
          (u { ready with queue := hs }).raise .peripheralReply (some n)
            [f.kind.toNat, h.seq.toNat, f.payload.length, wordAt f.payload 0, wordAt f.payload 2, wordAt f.payload 4]
        else
          (u { ready with queue := hs }).transmit
            { node := h.hostNode, kind := 0x80, seq := h.seq, payload := 0 :: 0 :: f.kind :: f.payload.take 57 }
      (c.state = .await .ready → x.work = .poll → out = .next (State.conclude (u ready)))
        ∧ (∀ h hs, c.state = .await .ready → x.work = .host → c.queue = h :: hs →
          out = .next (State.conclude (hosted h hs)))
        ∧ (∀ y, c.state = .await .ready → x.work = .internal → c.slot = some y →
          ((y = .deny ∨ ∃ r, y = .settle r) → ∃ t, HeadMoved n (u { ready with slot := none }) t ∧ out = .next t.conclude)
            ∧ (y ≠ .deny → (∀ r, y ≠ .settle r) → out = .next (State.conclude (u { ready with slot := none }))))
        ∧ (c.state = .await .suspect →
          (x.work = .poll → ∃ t, BecomesReady n (u ready) t ∧ out = .next t.conclude)
            ∧ (∀ h hs, x.work = .host → c.queue = h :: hs → ∃ t, BecomesReady n (hosted h hs) t ∧ out = .next t.conclude)
            ∧ (∀ y, x.work = .internal → c.slot = some y → (c.cfg.role = .cardReader ∨ y ≠ .deny ∧ ∀ r, y ≠ .settle r) →
              ∃ t, BecomesReady n (u { ready with slot := none }) t ∧ out = .next t.conclude))
        ∧ ((c.state = .probing ∨ c.state = .lost) → x.work = .probe → (f.kind = 0x41 → 2 ≤ f.payload.length) →
          ∃ t, BecomesReady n
              ((u { ready with lastEvent := none, lastProbe := s.now }).raise .channelUp (some n)
                [c.cfg.node, if f.kind = 0x41 then byteAt f.payload 0 else 0,
                 if f.kind = 0x41 then byteAt f.payload 1 else 0]) t
            ∧ out = .next t.conclude)

/-- The money a POLL's answer carries on a READY channel (R141, R142). A repeat of the last event number is not handed on.
STACKED from the note acceptor (R27, R22): in an IDLE session a CASH session opens with the Carried Credit (R21); in a CASH
session that is OPEN or CLOSE_WAIT the value goes to note in up to the ceiling and the excess to Carried Credit, with CARD
funding or in PAYOUT all of it; NOTE_EVENT carries the index and the two amounts (those of a session that opens count from 0,
log 18); an index above 7 gives no credit. RETURNED raises its NOTE_EVENT alone. CANCEL from the card reader (R31) closes an OPEN
card session of that channel, without vends at once with its settlement (R36), after CARD_EVENT (log 26), and otherwise has the
outcome 0. ESCROW (R26): the answer STACK exactly when the entry is enabled, the mode
SALES, no card session or close stands, and the total with the pending coin keeps to Max Credit and, without assurance, to Max
Available Price; otherwise RETURN. APPROVED from the card reader (R30): a CARD session opens with the smaller of limit and Max
Credit, or the card is denied. At the end of every command (`Concluded`; that it is there is log 4) the escrow answer, then a due
mask, and the DENY enter the empty slot of their READY or SUSPECT channel; an answer or DENY of one that is away is discarded; a
mask is due when its flags differ from those last handed over (R28, R29); that differing flags make none due while none has been
handed over since reset is the model's reading (log 44). Of a transaction that a command in a slot starts (`Started`), the sequence
is a free value (log 10), and that the release of DE is reckoned in whole milliseconds is the model's reading (log 35). That
delivered vends and opened at are 0 in a cleared session record is the model's choice (log 49). -/
def Obligations.MoneyReported : Prop :=
  (∀ s : State, Concluded s s.conclude)
    ∧ ∀ s f x number rest, s.bridge.line = .waiting x → f.node = x.node → f.seq = x.seq → f.payload = number :: rest →
    x.work = .poll → (s.channel x.channel).state = .await .ready →
    let n := x.channel
    let c := s.channel n
    let z := s.credit.session
    let out := exec (.busFrameReceived f (checkOf f)) s
    let u : State :=
      { s with
        bridge :=
          { s.bridge with
            channels :=
              s.bridge.channels.set n
                { c with state := .ready, misses := 0, lastActivity := s.now, lastEvent := some number }
            line := .guarding s.now
            rx := .hunting } }
    (c.cfg.role ≠ .passive → c.lastEvent = some number → out = .next u.conclude)
      ∧ (∀ k ks, c.cfg.role = .noteAcceptor → c.lastEvent ≠ some number → rest = k :: ks → f.kind = 0x51 →
        let value := (s.noteEntry k.toNat).value
        (k.toNat ≤ 7 → z.funding = .cash → z.state = .opened →
            z.cashCredit + value ≤ max s.credit.policy.maxCredit z.carriedIn →
            out =
              .next
                (State.raise
                  { u with
                    credit := { s.credit with session := { z with noteIn := z.noteIn + value }, changed := true } }
                  .noteEvent (some n) [2, k.toNat, value, 0]).conclude)
          ∧ (k.toNat ≤ 7 → z.state = .idle →
            let into := min value (max s.credit.policy.maxCredit s.credit.carried - s.credit.carried)
            let extra := min 20000 (value - into)
            out =
              .next
                (State.raise
                  { u with
                    credit :=
                      { s.credit with
                        session :=
                          { Session.reset with
                            state := .opened, funding := .cash, carriedIn := s.credit.carried, noteIn := into
                            openedAt := s.stamp }
                        carried := extra
                        changed := true } }
                  .noteEvent (some n) [2, k.toNat, into, extra]).conclude)
          ∧ (k.toNat ≤ 7 → z.funding = .cash → (z.state = .opened ∨ z.state = .closeWait) →
            let into := min value (max s.credit.policy.maxCredit z.carriedIn - z.cashCredit)
            let carried := if into = value then s.credit.carried else min 20000 (s.credit.carried + (value - into))
            out =
              .next
                (State.raise
                  { u with
                    credit :=
                      { s.credit with session := { z with noteIn := z.noteIn + into }, carried := carried, changed := true } }
                  .noteEvent (some n) [2, k.toNat, into, carried - s.credit.carried]).conclude)
          ∧ (k.toNat ≤ 7 → z.state ≠ .idle → (z.funding ≠ .cash ∨ z.state = .payout) →
            let carried := min 20000 (s.credit.carried + value)
            out =
              .next
                (State.raise { u with credit := { s.credit with carried := carried, changed := true } } .noteEvent (some n)
                  [2, k.toNat, 0, carried - s.credit.carried]).conclude)
          ∧ (7 < k.toNat → out = .next (u.raise .noteEvent (some n) [2, k.toNat, 0, 0]).conclude))
      ∧ (∀ k ks, c.cfg.role = .noteAcceptor → c.lastEvent ≠ some number → rest = k :: ks → f.kind = 0x52 →
        out = .next (u.raise .noteEvent (some n) [3, k.toNat]).conclude)
      ∧ (c.cfg.role = .cardReader → c.lastEvent ≠ some number → f.kind = 0x59 →
        (¬ (z.state = .opened ∧ z.funding = .card ∧ ∃ y, z.card = some y ∧ y.channel = n) →
            out = .next (u.raise .cardEvent (some n) [2, 0]).conclude)
          ∧ ∀ y, z.state = .opened → z.funding = .card → z.card = some y → y.channel = n → s.sales.vends = [] →
            NothingPending s → (s.bridge.channels[n]?).isSome →
            let r : Settlement := { channel := n, amount := z.cardUsed, vends := z.delivered, openedAt := z.openedAt }
            let free := c.slot = none ∧ s.credit.deny = false ∧ ∀ w ∈ s.credit.settlements, w.channel ≠ n
            ∃ t, out = .next t
              ∧ t.credit.session = .reset
              ∧ (free → (t.channel n).slot = some (.settle r) ∧ t.credit.settlements = s.credit.settlements)
              ∧ (¬ free → t.credit.settlements = s.credit.settlements ++ [r])
              ∧ (∀ d, (free ∧ d = 0 ∨ ¬ free ∧ d = 1) →
                Raised s t
                  [s.notice .cardEvent (some n) [2, 1],
                    s.notice .sessionClosed (some n) [y.limit, z.cardUsed, z.delivered, d],
                    s.notice .creditChanged none [0, 0, 0, 0, s.credit.carried]])
              ∧ SameExcept (([.session, .settlements] : List Part) ++ closing) s t)
      ∧ (∀ k ks, c.cfg.role = .noteAcceptor → c.lastEvent ≠ some number → rest = k :: ks → f.kind = 0x50 →
        (Stacks s k.toNat →
            out =
              .next
                (State.raise { u with credit := { s.credit with answer := some .stack } } .noteEvent (some n)
                  [1, k.toNat, 1]).conclude)
          ∧ (¬ Stacks s k.toNat →
            out =
              .next
                (State.raise { u with credit := { s.credit with answer := some .giveBack } } .noteEvent (some n)
                  [1, k.toNat, 2]).conclude))
      ∧ ∀ high low ks, c.cfg.role = .cardReader → c.lastEvent ≠ some number → rest = high :: low :: ks → f.kind = 0x58 →
        let limit := high.toNat * 256 + low.toNat
        let stored := min limit s.credit.policy.maxCredit
        let outstanding := s.credit.settlements.length + match c.slot with
          | some (.settle _) => 1
          | _ => 0
        let opens := s.tables.mode = .sales ∧ z.state = .idle ∧ s.credit.carried = 0 ∧ outstanding < 4 ∧ 1 ≤ stored
        (opens →
            out =
              .next
                (State.raise
                  { u with
                    credit :=
                      { s.credit with
                        session :=
                          { Session.reset with
                            state := .opened, funding := .card, card := some { channel := n, limit := stored }
                            openedAt := s.stamp }
                        changed := true } }
                  .cardEvent (some n) [1, limit, stored]).conclude)
          ∧ (¬ opens →
            out =
              .next
                (State.raise { u with credit := { s.credit with deny := true } } .cardEvent (some n) [1, limit, 0]).conclude)

/-- A response timeout, counted from the release of DE after the request's last byte (R135), makes the transaction miss (R137,
R138: `Missed`). With none on the bus it changes nothing. A frame abandoned on the bus by a gap, and one above 60 bytes, is no
reply: everything but the receiver stays (R128). DE is asserted exactly until the release (R128). That the command brings the
clock to the deadline is the model's choice (log 2). Its readings are that the release is reckoned in whole milliseconds from the
start of the transaction (log 35), and that in a miss which brings the channel to LOST the host frame on the bus fails with TIMEOUT
after CHANNEL_LOST and outside its count (log 25, between R137 and R138). -/
def Obligations.ResponseMisses : Prop :=
  (∀ s x, s.bridge.line = .waiting x →
      Missed { s with now := max s.now (x.sentAt + 5 * (s.channel x.channel).cfg.timeout) } x (exec .responseTimeout s))
    ∧ (∀ s, (∀ x, s.bridge.line ≠ .waiting x) → exec .responseTimeout s = .next s ∧ s.de = false)
    ∧ (∀ (s : State) x, s.bridge.line = .waiting x → (s.de = true ↔ s.now < x.sentAt))
    ∧ ∀ s heard node kind seq length,
      exec (.busByteGap heard) s = .next { s with bridge := { s.bridge with rx := .hunting } }
        ∧ exec (.busOverLengthFrame node kind seq length) s = .next { s with bridge := { s.bridge with rx := .hunting } }

/-- A stuck line (R144). Declared outside a recovery: a host frame on the bus leaves its queue and fails with TIMEOUT (R133), no
miss being counted; PRST is driven, every enabled channel is PROBING with its queue kept and its slot emptied but for a SETTLE,
both holds are discarded, and BUS_STUCK names the channel whose transaction ended or 4. Recovery ends with the later of the pulse's
end, 100 ms on, and the release of the line: PRST is off, the line in GUARD, and BUS_STUCK carries the break's length in units of
100 ms. Without a recovery, or once each has happened, the two events change nothing, and a recovery declares nothing new. That the
command brings the clock to the deadline is the model's choice (log 2). The break is counted from 20 ms before the declaration (log
29); that this holds of one which goes on through a soft restart (log 53), and of one that begins behind the release while the
pulse still runs, declared only after the recovery (log 56), is the model's choice. -/
def Obligations.StuckLineRecovers : Prop :=
  (∀ s k cut,
      (((s.bridge.line = .idle ∨ ∃ since, s.bridge.line = .guarding since) ∧ k = 4
          ∨ ∃ x, s.bridge.line = .waiting x ∧ x.work ≠ .host ∧ k = x.channel)
        ∧ cut = { s with now := max s.now 20 }
        ∨ ∃ x f fs, s.bridge.line = .waiting x ∧ x.work = .host ∧ k = x.channel ∧ (s.channel k).queue = f :: fs
          ∧ cut =
            hostFails
              { s with
                now := max s.now 20
                bridge := { s.bridge with channels := s.bridge.channels.set k { s.channel k with queue := fs } } }
              k f .timeout) →
      let now := max s.now 20
      let probing := fun c : Channel =>
        if c.state = .disabled then c
        else
          { c with
            state := .probing, misses := 0, lastEvent := none, lastProbe := now
            slot := match c.slot with
              | some (.settle r) => some (.settle r)
              | _ => none }
      ∃ t, exec .busStuck s = .next t ∧ t.prst = true
        ∧ t =
          (State.raise
            { cut with
              credit := { s.credit with answer := none, deny := false }
              bridge :=
                { cut.bridge with
                  channels := cut.bridge.channels.map probing
                  line := .recovery { breakFrom := now - 20, prstFrom := now, releasedAt := none, pulsing := true } } }
            .busStuck none [1, k]).conclude)
    ∧ (∀ s, (∀ r, s.bridge.line ≠ .recovery r) →
      exec .prstPulseEnd s = .next s ∧ exec .receiveLineReleased s = .next s)
    ∧ ∀ s r, s.bridge.line = .recovery r →
      let on := fun (now : Nat) (r : Recovery) => ({ s with now := now, bridge := { s.bridge with line := .recovery r } } : State)
      let ended := fun now released : Nat =>
        { State.raise { s with now := now } .busStuck none [0, min 65535 ((released - r.breakFrom) / 100)] with
          bridge := { s.bridge with line := .guarding now } }
      let pulse := max s.now (r.prstFrom + 100)
      exec .busStuck s = .next s
        ∧ (r.pulsing = true → r.releasedAt = none → exec .prstPulseEnd s = .next (on pulse { r with pulsing := false }))
        ∧ (∀ y, r.pulsing = true → r.releasedAt = some y → exec .prstPulseEnd s = .next (ended pulse y))
        ∧ (r.pulsing = false → exec .prstPulseEnd s = .next s)
        ∧ (r.pulsing = true → r.releasedAt = none →
          exec .receiveLineReleased s = .next (on s.now { r with releasedAt := some s.now }))
        ∧ (r.pulsing = false → r.releasedAt = none → exec .receiveLineReleased s = .next (ended s.now s.now))
        ∧ (r.releasedAt ≠ none → exec .receiveLineReleased s = .next s)

/-! ### The Machine Link (09) -/

/-- How the Notice Queue takes a notice (R154, R155). Below the floor it is gone and not counted; a queue of fewer than 24 takes
it at the tail; in a full queue, with `m` the lowest level present, a notice of a higher level takes the place of the newest one
of level `m`, and any other is discarded, each raising the dropped count to at most 255. A notice is stamped in units of 100 ms,
wrapping after 16777215; ATTN is asserted exactly while the queue holds a notice (R157). -/
def Obligations.NoticesQueued : Prop :=
  (∀ (l : LinkUnit) (n : Notice),
      (n.kind.level < l.floor → l.push n = l)
        ∧ (l.floor ≤ n.kind.level → l.notices.length < 24 → l.push n = { l with notices := l.notices ++ [n] })
        ∧ ∀ m, l.floor ≤ n.kind.level → 24 ≤ l.notices.length → (∃ x ∈ l.notices, x.kind.level = m) →
          (∀ x ∈ l.notices, m ≤ x.kind.level) →
          (n.kind.level ≤ m → l.push n = { l with dropped := min 255 (l.dropped + 1) })
            ∧ (m < n.kind.level →
              ∃ older x newer, l.notices = older ++ x :: newer ∧ x.kind.level = m
                ∧ (∀ y ∈ newer, y.kind.level ≠ m)
                ∧ l.push n =
                  { l with notices := older ++ newer ++ [n], dropped := min 255 (l.dropped + 1) }))
    ∧ (∀ (s : State) k subject values,
      s.raise k subject values =
        { s with
          link :=
            s.link.push { kind := k, stamp := s.now / 100 % 16777216, subject := subject, values := values } })
    ∧ ∀ s : State, s.attn = true ↔ s.link.notices ≠ []

/-- Frames that are no request. A gap that abandons a begun frame, a length above 60 and a wrong check value are receive errors
(R147, R149: `ErrorCounted`); bytes skipped before any start byte are none. A frame to node 16-255 is answered UNKNOWN_NODE, and
a node-0 frame of a kind that is not a request is refused BAD_KIND (R150). That bytes or a frame that are not of the sort a
command names change nothing is the model's reading (logs 9 and 40). -/
def Obligations.FramesDiscarded : Prop :=
  (∀ s bytes, s.link.rx = .hunting →
      ((bytes.length ≤ 3 ∨ ∃ node kind seq len rest, bytes = node :: kind :: seq :: len :: rest ∧ len.toNat ≤ 60
          ∧ rest.length < len.toNat + 2) →
        ErrorCounted s (exec (.linkByteGap (0xC3 :: bytes)) s))
        ∧ ((∀ b ∈ bytes, b ≠ 0xC3) → exec (.linkByteGap bytes) s = .next s))
    ∧ (∀ s node kind seq (len : Byte),
      (60 < len.toNat → ErrorCounted s (exec (.overLengthFrame node kind seq len) s))
        ∧ (len.toNat ≤ 60 → exec (.overLengthFrame node kind seq len) s = .next s))
    ∧ (∀ s f check,
      (check ≠ checkOf f → ErrorCounted s (exec (.checkValueError f check) s))
        ∧ exec (.checkValueError f (checkOf f)) s = .next s)
    ∧ (∀ s (node kind seq : Byte) p,
      (16 ≤ node.toNat →
          exec (.unknownNode node kind seq p) s =
            .next (s.frameTaken.transmit { node := node, kind := 0x80, seq := seq, payload := [2, 0] }))
        ∧ (node.toNat < 16 → exec (.unknownNode node kind seq p) s = .next s))
    ∧ ∀ s (kind seq : Byte) p,
      (kind ∉ requestKinds →
          exec (.badKind kind seq p) s =
            .next (s.frameTaken.transmit { node := 0, kind := 0x80, seq := seq, payload := [1, 13] }))
        ∧ (kind ∈ requestKinds → exec (.badKind kind seq p) s = .next s)

/-- R152: IDENTIFY is answered ACCEPTED in every state with the identity block, the same after every reset, and changes nothing
else. -/
def Obligations.IdentifyAnswered : Prop :=
  ∀ s seq p,
    exec (.identify seq p) s =
      .next
        (s.frameTaken.transmit
          { node := 0, kind := 0x80, seq := seq
            payload := [0, 0, 0x3A, 0x17, 0x06, 0x40, 1, 64, 12, 5, 8, 4, 32, 24, 4, 4] })

/-- The Link Interface's other requests. STATUS (R153) answers a record of 40 bytes and clears the two counts and the mark
after it on a clear flag of 1; another flag is refused. SET_FLOOR (R155) clamps the floor to 1-7. FETCH_NOTICES (R156) takes
notices from the head while the number asked for, clamped to 1-4, and 56 bytes allow. The time stamp counter wraps to 0
(R154); that the command TIME_STAMP_WRAP brings the clock forward to the next wrap is the model's choice (log 2). A payload too
short is refused BAD_ARGUMENT (R150); that this comes before the rule's own checks is the model's choice (log 14). -/
def Obligations.LinkRequestsAnswered : Prop :=
  (∀ s seq,
      ∃ record : List Byte, record.length = 40
        ∧ record.take 3 = [u8 s.tables.mode.code, u8 s.credit.session.state.code, u8 s.credit.session.funding.code]
        ∧ (record.drop 3).take 6 =
          u16 s.credit.session.cashCredit ++ u16 s.credit.session.cardLeft ++ u16 s.credit.carried
        ∧ (record.drop 9).take 7 =
          [u8 (s.sales.vends.countP fun v => v.result = none), u8 s.credit.settlements.length,
              if s.change.assured = true then 1 else 0]
            ++ u16 s.change.short ++ u16 s.change.maxPrice
        ∧ (record.drop 16).take 3 =
          [u8 (boolCode s.plant.lockout), u8 s.plant.compressor.code, u8 s.plant.defrost.code]
        ∧ (record.drop 19).take 10 =
          [u8 (s.tube 1).count, u8 (s.tube 2).count, u8 (s.tube 3).count, u8 (s.tube 4).count, u8 (s.tube 5).count,
            u8 (s.tube 1).state.code, u8 (s.tube 2).state.code, u8 (s.tube 3).state.code, u8 (s.tube 4).state.code,
            u8 (s.tube 5).state.code]
        ∧ (∀ n : Nat, n < 4 →
          record[29 + n]? =
              some (match (s.channel n).state with
                | .disabled => 0
                | .probing => 1
                | .ready => 2
                | .await .ready => 2
                | .suspect => 3
                | .await .suspect => 3
                | .lost => 4)
            ∧ record[33 + n]? = some (u8 ((s.channel n).cfg.allocation - (s.channel n).queue.length)))
        ∧ record.drop 37 = [u8 s.link.notices.length, u8 s.link.errors, u8 s.link.dropped]
        ∧ exec (.status seq []) s = .next (s.frameTaken.accept seq record)
        ∧ ∀ (b : Byte) rest,
          (b = 0 → exec (.status seq (b :: rest)) s = .next (s.frameTaken.accept seq record))
            ∧ (b = 1 →
              exec (.status seq (b :: rest)) s =
                .next
                  { s with
                    link :=
                      { (s.frameTaken.accept seq record).link with errors := 0, dropped := 0, reported := false } })
            ∧ (b ≠ 0 → b ≠ 1 → exec (.status seq (b :: rest)) s = .next (s.frameTaken.refuse seq .badArgument)))
    ∧ (∀ s seq,
      exec (.setFloor seq []) s = .next (s.frameTaken.refuse seq .badArgument)
        ∧ exec (.fetchNotices seq []) s = .next (s.frameTaken.refuse seq .badArgument))
    ∧ (∀ s seq (b : Byte) rest,
      let floor := max 1 (min 7 b.toNat)
      exec (.setFloor seq (b :: rest)) s =
        .next { s with link := { (s.frameTaken.accept seq [u8 floor]).link with floor := floor } })
    ∧ (∀ s seq (b : Byte) rest,
      let wanted := max 1 (min 4 b.toNat)
      let size := fun k => ((s.link.notices.take k).map fun n => 6 + 2 * n.values.length).sum
      ∃ k, k ≤ wanted ∧ k ≤ s.link.notices.length ∧ size k ≤ 56
        ∧ (k = wanted ∨ k = s.link.notices.length ∨ 56 < size (k + 1))
        ∧ exec (.fetchNotices seq (b :: rest)) s =
          .next
            { s with
              link :=
                { (s.frameTaken.accept seq
                    ([u8 k, u8 (s.link.notices.length - k)] ++ (s.link.notices.take k).flatMap Notice.bytes)).link with
                  notices := s.link.notices.drop k } })
    ∧ ∀ s, ∃ t, exec .timeStampWrap s = .next { s with now := t } ∧ s.now < t ∧ t ≤ s.now + 1677721600
        ∧ State.stamp { s with now := t } = 0

/-! ### Tables, modes and resets (10) -/

/-- The staging buffer. STAGE_OPEN (R161): the refusals in their order, then a buffer of the committed entries from the
first index, at most 16. STAGE_WRITE (R162): NOT_READY, BUSY, BAD_ARGUMENT, or the entries stored at the offset with the
extent raised. STAGE_DISCARD empties the buffer in any state. READ_TABLE (R165) answers the committed entries in read form
and changes nothing. A payload too short is refused BAD_ARGUMENT (R150); that this comes before the rule's own checks is the
model's choice (log 14). The code STAGE_DISCARD answers is a free value (log 12). -/
def Obligations.TablesStaged : Prop :=
  (∀ s seq p, (p.length < 2 → exec (.stageOpen seq p) s = .next (s.frameTaken.refuse seq .badArgument))
      ∧ (p.length < 3 → exec (.readTable seq p) s = .next (s.frameTaken.refuse seq .badArgument))
      ∧ (p = [] → exec (.stageWrite seq p) s = .next (s.frameTaken.refuse seq .badArgument))
      ∧ ∃ code, exec (.stageDiscard seq p) s =
        .next { s.frameTaken.accept seq [code] with tables := { s.tables with staging := .empty } })
    ∧ (∀ s seq (code first : Byte) rest,
      let i := first.toNat
      let out := exec (.stageOpen seq (code :: first :: rest)) s
      (TableKind.ofCode code.toNat = none → out = .next (s.frameTaken.refuse seq .badArgument))
        ∧ ∀ k, TableKind.ofCode code.toNat = some k →
          let room := min 16 (k.firstIndex + k.size - i)
          (k.hasIndex i = false → out = .next (s.frameTaken.refuse seq .badArgument))
            ∧ (k.hasIndex i = true → s.tables.staging ≠ .empty → out = .next (s.frameTaken.refuse seq .busy))
            ∧ (k.hasIndex i = true → s.tables.staging = .empty → k.timing = .configOnly → s.tables.mode ≠ .config →
              out = .next (s.frameTaken.refuse seq .badMode))
            ∧ (k.hasIndex i = true → s.tables.staging = .empty → (k.timing = .configOnly → s.tables.mode = .config) →
              out =
                .next
                  { s.frameTaken.accept seq [code, first, u8 room] with
                    tables :=
                      { s.tables with
                        staging := .opened
                          { kind := k, first := i, extent := 0
                            entries := (List.range room).map fun j => s.writtenEntry k (i + j) } } }))
    ∧ (∀ s seq (offset : Byte) bytes,
      let out := exec (.stageWrite seq (offset :: bytes)) s
      (s.tables.staging = .empty → out = .next (s.frameTaken.refuse seq .notReady))
        ∧ (∀ b, s.tables.staging = .pending b → out = .next (s.frameTaken.refuse seq .busy))
        ∧ ∀ b n, s.tables.staging = .opened b →
          let size := b.kind.writtenSize
          ((bytes.length % size ≠ 0 ∨ bytes = [] ∨ b.entries.length < offset.toNat + bytes.length / size) →
              out = .next (s.frameTaken.refuse seq .badArgument))
            ∧ (bytes.length = n * size → n ≠ 0 → offset.toNat + n ≤ b.entries.length →
              let extent := max b.extent (offset.toNat + n)
              ∃ entries : List (List Byte), entries.length = b.entries.length
                ∧ (∀ j, j < n → entries[offset.toNat + j]? = some ((bytes.drop (j * size)).take size))
                ∧ (∀ j, (j < offset.toNat ∨ offset.toNat + n ≤ j) → entries[j]? = b.entries[j]?)
                ∧ out =
                  .next
                    { s.frameTaken.accept seq [offset, u8 n, u8 extent] with
                      tables :=
                        { s.tables with staging := .opened { b with entries := entries, extent := extent } } }))
    ∧ ∀ s seq (code first count : Byte) rest,
      let i := first.toNat
      let out := exec (.readTable seq (code :: first :: count :: rest)) s
      (TableKind.ofCode code.toNat = none → out = .next (s.frameTaken.refuse seq .badArgument))
        ∧ ∀ k, TableKind.ofCode code.toNat = some k →
          let number := min count.toNat (min (k.firstIndex + k.size - i) (55 / k.readSize))
          ((k.hasIndex i = false ∨ count.toNat = 0 ∨ 16 < count.toNat) →
              out = .next (s.frameTaken.refuse seq .badArgument))
            ∧ (k.hasIndex i = true → 1 ≤ count.toNat → count.toNat ≤ 16 →
              out =
                .next
                  (s.frameTaken.accept seq
                    ([code, first, u8 number] ++ (List.range number).flatMap fun j => s.readEntry k (i + j))))

/-- STAGE_COMMIT (R163, R164). NOT_READY, BUSY and BAD_MODE by the buffer and the mode; the first entry out of its range is
named; a deferred load that waits for the session becomes PENDING with disposition 1, changes no table, and is applied behind
SESSION_CLOSED at the session's return to IDLE (said of a NOTE load). A load that takes effect is applied, the buffer is EMPTY and
STAGE_APPLIED carries kind, first index, number and disposition 0. COIN (R1), NOTE (R25) and POLICY (R20) entries are replaced,
TUBE assignments with the count clamped and the state derived anew (R18), each of COIN, TUBE and POLICY triggering an evaluation;
SELECTION entries become AVAILABLE with streak 0 and Max Available Price is computed anew (R62, R50); a COOLING record is tested
at once (R100: said in PROTECT and in OFF_MIN without demand, where Min Off may be over); CURVE points, each touched curve rising
(R99), and a LOAD table set their committed flags (R119); a CHANNEL entry restarts its channel and takes the listed settlements to
an enabled card reader, and is refused BUSY while the channel is at work (R129). The first bad index is named for a CURVE load
(R99) and a CHANNEL load (R129) as the table would stand, too. A waiting vend whose position a commit prices at 0 ends CANCELLED
(R74). That STAGE_APPLIED comes before CREDIT_CHANGED is log 4; that delivered vends and opened at are 0 in a cleared session
record (log 49), and that a channel which a commit disables is restarted in its miss count, last event and last probe too (log 55),
is the model's choice; that no commit leaves PROTECT, whatever COND is against the new Condenser Reset, is its reading of R100 and
R106 (log 33). -/
def Obligations.CommitsTaken : Prop :=
  (∀ s seq p b, s.tables.staging = .pending b → b.kind = .note → s.credit.session.state = .opened →
      s.credit.session.card = none → s.credit.session.cashCredit = 0 → s.sales.vends = [] →
      let x := s.credit.session
      let entries := b.entries.take (max 1 b.extent)
      ∃ t : State, exec (.endSession seq p) s = .next t
        ∧ t.credit.session = .reset
        ∧ Loaded s.credit.notes t.credit.notes b.first entries (fun e _ => noteOf e)
        ∧ t.tables = { s.tables with staging := .empty }
        ∧ t.link.sent = s.link.sent ++ [replyFrame 0 seq 0 0 [0]]
        ∧ Raised s t
            [s.notice .sessionClosed none [x.carriedIn, x.coinIn, x.noteIn, x.charged, x.changePaid, 0],
              s.notice .stageApplied none [3, b.first, entries.length, 1],
              s.notice .creditChanged none [0, 0, 0, 0, s.credit.carried]]
        ∧ SameExcept (([.session, .notes, .tables, .replies, .receiver] : List Part) ++ closing) s t)
    ∧ ∀ s seq p,
    let out := exec (.stageCommit seq p) s
    (s.tables.staging = .empty → out = .next (s.frameTaken.refuse seq .notReady))
      ∧ (∀ b, s.tables.staging = .pending b → out = .next (s.frameTaken.refuse seq .busy))
      ∧ ∀ b, s.tables.staging = .opened b →
        let entries := b.entries.take (max 1 b.extent)
        let answer := fun disposition : Nat => [u8 b.kind.code, u8 b.first, u8 entries.length, u8 disposition]
        let applied := fun s : State =>
          { s.raise .stageApplied none [b.kind.code, b.first, entries.length, 0] with
            tables :=
              { s.tables with
                staging := .empty
                loadCommitted := s.tables.loadCommitted || decide (b.kind = .load)
                curveCommitted := s.tables.curveCommitted || decide (b.kind = .curve) } }
        let now := s.tables.mode = .config ∨ s.credit.session.state = .idle
        let sound := fun e : List Byte =>
          match b.kind with
          | .coin => (coinOf e).isSome
          | .tube => (assignmentOf e).isSome
          | .note => (noteOf e).isSome
          | .policy => (policyOf e).isSome
          | .selection => (selectionOf e).isSome
          | .cooling => (coolingBytes e).inRange
          | .load => (loadBytes e).inRange
          | .curve | .channel => true
        let taken := s.frameTaken.accept seq (answer 0)
        (b.kind.timing = .configOnly → s.tables.mode ≠ .config → out = .next (s.frameTaken.refuse seq .badMode))
          ∧ ((b.kind.timing = .configOnly → s.tables.mode = .config) → ∀ j e, entries[j]? = some e → sound e = false →
            (∀ k x, k < j → entries[k]? = some x → sound x = true) →
            out = .next (s.frameTaken.refuse seq .badArgument [u8 (b.first + j)]))
          ∧ (b.kind.timing = .deferred → (∀ e ∈ entries, sound e = true) → ¬ now →
            out =
              .next { s.frameTaken.accept seq (answer 1) with tables := { s.tables with staging := .pending b } })
          ∧ (b.kind = .note → (∀ e ∈ entries, noteOf e ≠ none) → now →
            ∃ notes, Loaded s.credit.notes notes b.first entries (fun e _ => noteOf e)
              ∧ out = .next (State.conclude (applied { taken with credit := { s.credit with notes := notes } })))
          ∧ (b.kind = .coin → (∀ e ∈ entries, sound e = true) → now →
            ∃ table, Loaded s.coin.table table b.first entries (fun e _ => coinOf e)
              ∧ out =
                .next (State.conclude (applied (State.triggerAssurance { taken with coin := { s.coin with table := table } }))))
          ∧ (b.kind = .tube → 1 ≤ b.first → (∀ e ∈ entries, sound e = true) → s.tables.mode = .config →
            ∃ tubes,
              Loaded s.tubes tubes (b.first - 1) entries (fun e x =>
                (assignmentOf e).map fun a =>
                  { x with
                    entry := a.entry, capacity := a.capacity, keep := a.keep, lowMark := a.lowMark
                    count := if a.entry = none then 0 else min x.count a.capacity }.derive true)
                ∧ out = .next (State.conclude (applied (State.triggerAssurance { taken with tubes := tubes }))))
          ∧ (∀ e policy, b.kind = .policy → entries = [e] → policyOf e = some policy → now →
            out =
              .next
                (State.conclude (applied (State.triggerAssurance { taken with credit := { s.credit with policy := policy } }))))
          ∧ (b.kind = .selection → (∀ e ∈ entries, sound e = true) → now → s.sales.vends = [] →
            ∃ xs m,
              Loaded s.sales.selections xs b.first entries (fun e x =>
                (selectionOf e).map fun y =>
                  { x with price := y.price, health := y.health, addOn := y.addOn, state := .available, missStreak := 0 })
                ∧ HighestPrice xs s.plant.lockout m
                ∧ out =
                  .next
                    (State.conclude
                      (applied
                        { taken with
                          sales := { s.sales with selections := xs }, change := { s.change with maxPrice := m } })))
          ∧ (∀ v e, b.kind = .selection → entries = [e] → sound e = true → s.tables.mode = .config → OnlyVend s v →
            v.state = .queued → b.first = v.position → wordAt e 0 = 0 →
            ∀ y, selectionOf e = some y → v.position < s.sales.selections.length →
            ¬ (y.health = .chilled ∧ s.plant.lockout = true) →
            let x := s.selection v.position
            let xs := s.sales.selections.set v.position { y with vendCount := x.vendCount }
            ∃ m, HighestPrice xs s.plant.lockout m
              ∧ out =
                .next
                  (State.conclude
                    (applied
                      (State.raise
                        { taken with
                          sales := { s.sales.without v with selections := xs }
                          change := { s.change with maxPrice := m } }
                        .vendResult (some v.position) (resultValues v 5)))))
          ∧ (∀ e air, b.kind = .cooling → entries = [e] → (coolingBytes e).inRange = true → s.plant.defrost = .idle →
            s.plant.cab.state ≠ .failed → s.plant.cab.temp = some air →
            let q := { s.plant with cooling := coolingBytes e }
            let demand :=
              decide (q.cooling.setpoint + q.cooling.band ≤ air) || (decide (q.cooling.setpoint < air) && s.plant.demand)
            ¬ (q.cooling.defrostInterval < s.plant.cooling.defrostInterval
                ∧ q.cooling.defrostInterval * 1000 ≤ q.runTotal s.now) →
            (s.plant.exposure < q.cooling.lockoutThreshold ∨ s.plant.lockout = true) →
            (s.plant.compressor = .protecting →
                out = .next (State.conclude (applied { taken with plant := { q with demand := demand } })))
              ∧ (s.plant.compressor = .offMin → demand = false → q.limitApplies = false →
                out =
                  .next
                    (State.conclude
                      (applied
                        { taken with
                          plant :=
                            { q with
                              demand := false
                              compressor :=
                                if q.cooling.minOff * 1000 ≤ s.now - s.plant.offSince then .offReady else .offMin } }))))
          ∧ (∀ curve, b.kind = .curve → Loaded s.plant.curve curve b.first entries (fun e _ => some (pointBytes e)) →
            s.plant.curve.length = 24 → b.first + entries.length ≤ 24 → (∀ e ∈ entries, (pointBytes e).inRange = true) →
            (∀ j, j < entries.length → Rising ((curve.drop (8 * ((b.first + j) / 8))).take 8)) →
            out = .next (State.conclude (applied { taken with plant := { s.plant with curve := curve } })))
          ∧ (∀ curve i, b.kind = .curve → Loaded s.plant.curve curve b.first entries (fun e _ => some (pointBytes e)) →
            s.plant.curve.length = 24 → b.first + entries.length ≤ 24 →
            let point := fun i => curve.getD i ⟨0, 0⟩
            let bad := fun i =>
              b.first ≤ i ∧ i < b.first + entries.length ∧ (point i).inRange = false
                ∨ (∃ j, j < entries.length ∧ (b.first + j) / 8 = i / 8) ∧ i % 8 ≠ 0 ∧ (point i).count ≤ (point (i - 1)).count
            i < 24 → bad i → (∀ k, k < i → ¬ bad k) → out = .next (s.frameTaken.refuse seq .badArgument [u8 i]))
          ∧ (∀ e i, b.kind = .channel → s.tables.mode = .config → entries = [e] → s.bridge.channels.length = 4 →
            let cfg := fun m => if m = b.first then (channelOf e).getD (s.channel m).cfg else (s.channel m).cfg
            let bad := fun m =>
              m = b.first ∧ channelOf e = none
                ∨ (∃ k, k < m ∧ (cfg k).hostNode ≠ 0 ∧ (cfg m).hostNode ≠ 0
                  ∧ ((cfg k).hostNode = (cfg m).hostNode ∨ (cfg k).node = (cfg m).node
                    ∨ (cfg k).role = (cfg m).role ∧ (cfg m).role ≠ .passive))
                ∨ 32 < ((List.range (m + 1)).map fun k => (cfg k).allocation).sum
            i < 4 → bad i → (∀ m, m < i → ¬ bad m) → out = .next (s.frameTaken.refuse seq .badArgument [u8 i]))
          ∧ (∀ e x, b.kind = .channel → s.tables.mode = .config → entries = [e] → channelOf e = some x →
            s.bridge.channels.length = 4 → b.first < 4 →
            (∀ n, n < 4 → n ≠ b.first → (s.channel n).cfg.hostNode = 0) →
            ((s.bridge.channels.set b.first { s.channel b.first with cfg := x }).map fun c => c.cfg.allocation).sum ≤ 32 →
            let c := s.channel b.first
            (s.bridge.line = .guarding s.now → c.queue = [] → c.slot = none →
                out =
                  .next
                    (State.conclude
                      (applied
                        { taken with
                          bridge :=
                            { s.bridge with
                              channels :=
                                s.bridge.channels.set b.first
                                  { c with
                                    cfg := x, state := if x.hostNode = 0 then .disabled else .probing, misses := 0
                                    lastEvent := none, lastProbe := s.now } }
                          credit :=
                            { s.credit with
                              settlements :=
                                if x.hostNode ≠ 0 ∧ x.role = .cardReader then
                                  s.credit.settlements.map fun r => { r with channel := b.first }
                                else s.credit.settlements } })))
              ∧ ((c.queue ≠ [] ∨ c.slot ≠ none ∨ ∃ y, s.bridge.line = .waiting y ∧ y.channel = b.first) →
                out = .next (s.frameTaken.refuse seq .busy)))
          ∧ ∀ e, b.kind = .load → s.tables.mode = .config → entries = [e] → (loadBytes e).inRange = true →
            (s.load.drawn ≤ (loadBytes e).budget → s.load.queue = [] →
                out = .next (State.conclude (applied { taken with load := { s.load with table := loadBytes e } })))
              ∧ ((loadBytes e).budget < s.load.drawn → out = .next (s.frameTaken.refuse seq .busy))

/-- MODE and the door (R166, R167). MODE is refused for a code that is not CONFIG or SALES, in SERVICE, and for SALES before
the Load and the Curve Table have been committed; otherwise the mode is the one asked for. A door that opens in CONFIG or
SALES remembers the mode and enters SERVICE, every turning position is de-energized and every held request discarded (R90),
and a vend that turns ends ABORTED_DOOR, its claim released and nothing charged (R76). A door that closes in SERVICE brings
the remembered mode back. A payload too short is refused BAD_ARGUMENT (R150); that this comes before the rule's own checks
is the model's choice (log 14). -/
def Obligations.ModesFollow : Prop :=
  (∀ s seq, exec (.mode seq []) s = .next (s.frameTaken.refuse seq .badArgument))
    ∧ (∀ s seq (b : Byte) rest,
      let out := exec (.mode seq (b :: rest)) s
      (1 < b.toNat → out = .next (s.frameTaken.refuse seq .badArgument))
        ∧ (b.toNat ≤ 1 → s.tables.mode = .service → out = .next (s.frameTaken.refuse seq .badMode))
        ∧ (b.toNat = 1 → s.tables.mode ≠ .service → (s.tables.loadCommitted = false ∨ s.tables.curveCommitted = false) →
          out = .next (s.frameTaken.refuse seq .notReady))
        ∧ ∀ m, (b.toNat = 0 ∧ m = .config ∨ b.toNat = 1 ∧ m = .sales) → s.tables.mode ≠ .service →
          (m = .sales → s.tables.loadCommitted = true ∧ s.tables.curveCommitted = true) →
          out = .next (State.conclude { s.frameTaken.accept seq [b] with tables := { s.tables with mode := m } }))
    ∧ (∀ s, s.tables.mode = .service →
      exec .doorOpen s = .next { s with pins := { s.pins with doorOpen := true } }
        ∧ exec .doorClose s =
          .next
            (State.conclude
              { s with
                pins := { s.pins with doorOpen := false }
                tables := { s.tables with mode := s.tables.remembered } }))
    ∧ ∀ s, s.tables.mode ≠ .service →
      let opened : State :=
        { s with
          pins := { s.pins with doorOpen := true }
          tables := { s.tables with remembered := s.tables.mode, mode := .service } }
      let stopped := fun r : GroupRec =>
        { r with
          state := match r.state with
            | .stopped since => .stopped since
            | _ => .idle
          held := none }
      exec .doorClose s = .next { s with pins := { s.pins with doorOpen := false } }
        ∧ (s.sales.vends = [] → s.drive.a.testEndsAtDoor = false →
          s.drive.b.testEndsAtDoor = false →
          exec .doorOpen s =
            .next
              (State.conclude { opened with drive := { s.drive with a := stopped s.drive.a, b := stopped s.drive.b } }))
        ∧ ∀ v turn, OnlyVend s v → v.state = .turning → groupOf v.position = .a → s.drive.a.state = .turning turn →
          turn.owner = .vend → s.drive.b.testEndsAtDoor = false → NothingWaits s →
          exec .doorOpen s =
            .next
              (State.raise
                { opened with
                  drive := { s.drive with a := stopped s.drive.a, b := stopped s.drive.b }
                  sales := { s.sales with vends := [], started := s.sales.started.filter (· ≠ v.id) }
                  load :=
                    { s.load with
                      granted := s.load.granted.filter fun c => !(c.kind = .motor .a && c.owner = .vend) } }
                .vendResult (some v.position)
                [3, v.price, v.turnsMade, boolCode v.droppedEarly, v.request.toNat]).conclude

/-- Both resets complete in every state. What power-on reset and the reset pin leave, by the rules of each block (R14, R18,
R40, R49, R60, R77, R95, R99, R100, R118, R119, R127, R146, R159, R168): the mode is SERVICE with the door open and CONFIG
otherwise, the Notice Queue holds POWER_UP with the cause, every table is at its default, nothing is under way, and Exposure
and every count are 0. The input pins stay as they are found: the door, the home switches, the low sensors and the beam. A
break of the drop beam that is being timed counts as BROKEN (log 5). -/
def Obligations.ResetLeaves : Prop :=
  ∀ s cause c, (cause = 0 ∧ c = Instr.powerOnReset ∨ cause = 1 ∧ c = .resetPin) →
    ∃ t, exec c s = .next t
      ∧ t.link.notices =
          [{ kind := .powerUp, stamp := 0, subject := none, values := [cause, if s.pins.doorOpen = true then 2 else 0] }]
      ∧ t.link.floor = 1 ∧ t.link.errors = 0 ∧ t.link.dropped = 0 ∧ t.link.reported = false ∧ t.link.rx = .hunting
      ∧ t.stamp = 0
      ∧ t.tables =
          { staging := .empty, mode := if s.pins.doorOpen = true then .service else .config, remembered := .config
            loadCommitted := false, curveCommitted := false }
      ∧ t.coin.path = .empty ∧ t.coin.gate = .closed ∧ t.selector = .cashbox
      ∧ t.coin.table =
          List.replicate 12
            { enabled := false, value := 1, size := ⟨0, 0⟩, alloy := ⟨0, 0⟩, thickness := ⟨0, 0⟩, route := .cashbox,
              accepted := 0 }
      ∧ t.tubes =
          s.tubes.map (fun x =>
            { entry := none, capacity := 100, keep := 0, lowMark := 0, count := 0, state := .absent, jamCount := 0,
              covered := x.covered })
      ∧ t.credit.policy = { maxCredit := 1000, multiVend := false, baseUnit := 10, assuranceLimit := 0 }
      ∧ t.credit.notes = List.replicate 8 { enabled := false, value := 1 }
      ∧ t.credit.session.state = .idle ∧ t.credit.session.funding = .unfunded ∧ t.credit.session.cashCredit = 0
      ∧ t.credit.session.carriedIn = 0 ∧ t.credit.session.coinIn = 0 ∧ t.credit.session.noteIn = 0
      ∧ t.credit.session.charged = 0 ∧ t.credit.session.changePaid = 0 ∧ t.credit.session.card = none
      ∧ t.credit.session.cardUsed = 0
      ∧ t.credit.carried = 0 ∧ t.credit.settlements = [] ∧ t.credit.answer = none ∧ t.credit.deny = false
      ∧ t.change.assured = true ∧ t.change.short = 0
      ∧ t.change.evaluating = none ∧ t.change.rerun = false ∧ t.change.maxPrice = 0 ∧ t.change.seq = .idle
      ∧ t.change.job = none ∧ t.change.deferred = none
      ∧ (∀ x ∈ t.sales.selections, x.price = 0 ∧ x.health = .ambient ∧ x.addOn = 0 ∧ x.state = .available
          ∧ x.missStreak = 0 ∧ x.vendCount = 0)
      ∧ t.sales.selections.length = 64 ∧ t.sales.vends = [] ∧ t.sales.started = []
      ∧ (∀ g, t.group g =
          { state := .idle, highRun := 0, lastCurrent := 0, noMotorChecked := false, held := none, test := none })
      ∧ t.drive.beam = (if s.drive.beam = .clear then .clear else .broken)
      ∧ (∀ x ∈ [t.plant.cab, t.plant.coil, t.plant.cond],
          x = { state := .valid, temp := none, badRun := 0, lastFault := none })
      ∧ t.plant.cooling =
          { setpoint := 40, band := 30, minOff := 180, minRun := 60, startWindow := 3, defrostInterval := 21600
            defrostEnd := 80, defrostMax := 1200, drip := 120, condCutout := 650, condReset := 500, safeLimit := 80
            recovery := 20, lockoutThreshold := 300, fallbackOn := 600, fallbackOff := 600 }
      ∧ (∀ i, i < 3 →
          (t.plant.curve.drop (8 * i)).take 8 =
            [⟨200, 1250⟩, ⟨500, 800⟩, ⟨900, 450⟩, ⟨1400, 200⟩, ⟨2000, 40⟩, ⟨2600, -100⟩, ⟨3300, -250⟩, ⟨3900, -400⟩])
      ∧ t.plant.curve.length = 24
      ∧ t.plant.compressor = .offMin ∧ t.now - t.plant.offSince = 0 ∧ t.plant.runTotal t.now = 0 ∧ t.plant.relay = false
      ∧ t.plant.condFan = false ∧ t.plant.demand = false ∧ t.plant.defrost = .idle ∧ t.plant.heatingMs t.now = 0
      ∧ t.plant.heater = false ∧ t.evapFan = !s.pins.doorOpen ∧ t.plant.exposure = 0 ∧ t.plant.lockout = false
      ∧ t.load.table =
          { budget := 100, motorA := 15, motorB := 15, payout := 8, compressorStart := 60, compressorRun := 25, defrost := 40
            minResume := 30, startDefer := 120 }
      ∧ t.load.queue = [] ∧ t.load.granted = [] ∧ t.load.held = []
      ∧ t.bridge.channels.length = 4
      ∧ (∀ x ∈ t.bridge.channels, x.state = .disabled ∧ x.queue = [] ∧ x.slot = none ∧ x.misses = 0 ∧ x.lastEvent = none
          ∧ x.cfg =
            { hostNode := 0, node := 1, role := .passive, allocation := 0, early := false, pollInterval := 4, missLimit := 3
              timeout := 20 })
      ∧ t.bridge.lastServed = 3 ∧ t.prst = false ∧ (∃ since, t.bridge.line = .guarding since)
      ∧ t.pins = s.pins ∧ t.pending = s.pending

/-- What RESTART leaves (R168, R14, R39, R49, R60, R77, R94, R117, R127, R145, R158): it is answered first, the Notice Queue holds
RESTARTED alone, cash credit goes to Carried Credit and a card session's settlement to the list behind those of the slots, every
vend, run, turn, claim and defrost is gone, the compressor is in OFF_MIN, every enabled channel is PROBING and its queued frames
have failed, each of a channel without early accept with its REFUSED CHANNEL_LOST (R133) behind the answer to RESTART, in channel
order (log 51), while the PERIPHERAL_TIMEOUT of the others is lost with the queue; and the mode follows the door. Tables, tube
counts, sensors, Exposure, the lockout, the flags, the floor and the error count are kept. (The Assurance Limit is not 0 here, so
the evaluation that starts does not end at once, log 16.) -/
def Obligations.RestartLeaves : Prop :=
  ∀ s seq p, s.link.floor ≤ 7 → s.credit.policy.assuranceLimit ≠ 0 →
    let z := s.credit.session
    let mode := if s.pins.doorOpen = true then Mode.service else .config
    let inSlots := s.bridge.channels.filterMap fun c => match c.slot with
      | some (.settle r) => some r
      | _ => none
    let closing := match z.card with
      | some c =>
        [({ channel := c.channel, amount := z.cardUsed, vends := z.delivered, openedAt := z.openedAt } : Settlement)]
      | none => []
    let failed := (List.range 4).flatMap fun n =>
      if (s.channel n).cfg.early = true then []
      else (s.channel n).queue.map fun f => ({ node := f.hostNode, kind := 0x80, seq := f.seq, payload := [1, 8] } : Frame)
    ∃ t, exec (.restart seq p) s = .next t
      ∧ t.link.sent = s.link.sent ++ replyFrame 0 seq 0 0 [] :: failed
      ∧ t.link.notices =
          [{ kind := .restarted, stamp := s.stamp, subject := none
             values := [if s.pins.doorOpen = true then 2 else 0, t.credit.carried, t.credit.settlements.length] }]
      ∧ t.link.floor = s.link.floor ∧ t.link.errors = s.link.errors ∧ t.link.reported = s.link.reported
      ∧ t.coin = { s.coin with path := .empty, gate := .closed }
      ∧ t.credit.session.state = .idle
      ∧ t.credit.carried = (if z.funding = .cash then min 20000 (s.credit.carried + z.cashCredit) else s.credit.carried)
      ∧ t.credit.settlements = s.credit.settlements ++ inSlots ++ closing
      ∧ t.credit.answer = none ∧ t.credit.deny = false ∧ t.credit.maskDue = false
      ∧ t.change.seq = .idle ∧ t.change.job = none ∧ t.change.deferred = none
      ∧ t.change.assured = s.change.assured ∧ t.change.short = s.change.short ∧ t.change.maxPrice = s.change.maxPrice
      ∧ t.change.evaluating =
          some { order := s.searchOrder, baseUnit := s.credit.policy.baseUnit, limit := s.credit.policy.assuranceLimit }
      ∧ t.sales = { s.sales with vends := [], started := [] }
      ∧ (∀ g, t.group g = { s.group g with state := .idle, held := none, test := none }) ∧ t.drive.beam = s.drive.beam
      ∧ t.plant =
          { s.plant with
            compressor := .offMin, offSince := s.now, runMs := s.plant.runTotal s.now, defrost := .idle, heatMs := 0
            demand := if s.plant.cab.state = .failed then false else s.plant.demand }
      ∧ t.load = { s.load with queue := [], granted := [], held := [] }
      ∧ t.bridge.line = .guarding s.now ∧ t.bridge.lastServed = s.bridge.lastServed
      ∧ t.bridge.channels =
          s.bridge.channels.map (fun c =>
            if c.state = .disabled then { c with slot := none, queue := [] }
            else
              { c with
                state := .probing, misses := 0, lastEvent := none, lastProbe := s.now, slot := none, queue := [] })
      ∧ t.tables = { s.tables with staging := .empty, mode := mode, remembered := .config }
      ∧ SameExcept
          [.coin, .session, .carried, .settlements, .holds, .unreported, .assurance, .payout, .vends, .drive, .plant, .load,
            .bridge, .notices, .replies, .receiver, .tables] s t
end

