-- ==== Sys2Proof/Laws/State.lean ====
section
/-! SUPPORT. What each field of State is after each named update (Machine/Ops.lean): one lemma a field an update, true by rfl,
so that no later proof unfolds a record update. -/

namespace Sys2Proof.Machine

section Updates

variable (s : State)

/-! ### modPins -/

@[simp] theorem State.modPins_now (f : Pins → Pins) : (s.modPins f).now = s.now := rfl
@[simp] theorem State.modPins_draws (f : Pins → Pins) : (s.modPins f).draws = s.draws := rfl
@[simp] theorem State.modPins_pins (f : Pins → Pins) : (s.modPins f).pins = f s.pins := rfl
@[simp] theorem State.modPins_coin (f : Pins → Pins) : (s.modPins f).coin = s.coin := rfl
@[simp] theorem State.modPins_tubes (f : Pins → Pins) : (s.modPins f).tubes = s.tubes := rfl
@[simp] theorem State.modPins_credit (f : Pins → Pins) : (s.modPins f).credit = s.credit := rfl
@[simp] theorem State.modPins_change (f : Pins → Pins) : (s.modPins f).change = s.change := rfl
@[simp] theorem State.modPins_sales (f : Pins → Pins) : (s.modPins f).sales = s.sales := rfl
@[simp] theorem State.modPins_drive (f : Pins → Pins) : (s.modPins f).drive = s.drive := rfl
@[simp] theorem State.modPins_plant (f : Pins → Pins) : (s.modPins f).plant = s.plant := rfl
@[simp] theorem State.modPins_load (f : Pins → Pins) : (s.modPins f).load = s.load := rfl
@[simp] theorem State.modPins_bridge (f : Pins → Pins) : (s.modPins f).bridge = s.bridge := rfl
@[simp] theorem State.modPins_link (f : Pins → Pins) : (s.modPins f).link = s.link := rfl
@[simp] theorem State.modPins_tables (f : Pins → Pins) : (s.modPins f).tables = s.tables := rfl
@[simp] theorem State.modPins_pending (f : Pins → Pins) : (s.modPins f).pending = s.pending := rfl

/-! ### modCoin -/

@[simp] theorem State.modCoin_now (f : CoinUnit → CoinUnit) : (s.modCoin f).now = s.now := rfl
@[simp] theorem State.modCoin_draws (f : CoinUnit → CoinUnit) : (s.modCoin f).draws = s.draws := rfl
@[simp] theorem State.modCoin_pins (f : CoinUnit → CoinUnit) : (s.modCoin f).pins = s.pins := rfl
@[simp] theorem State.modCoin_coin (f : CoinUnit → CoinUnit) : (s.modCoin f).coin = f s.coin := rfl
@[simp] theorem State.modCoin_tubes (f : CoinUnit → CoinUnit) : (s.modCoin f).tubes = s.tubes := rfl
@[simp] theorem State.modCoin_credit (f : CoinUnit → CoinUnit) : (s.modCoin f).credit = s.credit := rfl
@[simp] theorem State.modCoin_change (f : CoinUnit → CoinUnit) : (s.modCoin f).change = s.change := rfl
@[simp] theorem State.modCoin_sales (f : CoinUnit → CoinUnit) : (s.modCoin f).sales = s.sales := rfl
@[simp] theorem State.modCoin_drive (f : CoinUnit → CoinUnit) : (s.modCoin f).drive = s.drive := rfl
@[simp] theorem State.modCoin_plant (f : CoinUnit → CoinUnit) : (s.modCoin f).plant = s.plant := rfl
@[simp] theorem State.modCoin_load (f : CoinUnit → CoinUnit) : (s.modCoin f).load = s.load := rfl
@[simp] theorem State.modCoin_bridge (f : CoinUnit → CoinUnit) : (s.modCoin f).bridge = s.bridge := rfl
@[simp] theorem State.modCoin_link (f : CoinUnit → CoinUnit) : (s.modCoin f).link = s.link := rfl
@[simp] theorem State.modCoin_tables (f : CoinUnit → CoinUnit) : (s.modCoin f).tables = s.tables := rfl
@[simp] theorem State.modCoin_pending (f : CoinUnit → CoinUnit) : (s.modCoin f).pending = s.pending := rfl

/-! ### modTubes -/

@[simp] theorem State.modTubes_now (f : List Tube → List Tube) : (s.modTubes f).now = s.now := rfl
@[simp] theorem State.modTubes_draws (f : List Tube → List Tube) : (s.modTubes f).draws = s.draws := rfl
@[simp] theorem State.modTubes_pins (f : List Tube → List Tube) : (s.modTubes f).pins = s.pins := rfl
@[simp] theorem State.modTubes_coin (f : List Tube → List Tube) : (s.modTubes f).coin = s.coin := rfl
@[simp] theorem State.modTubes_tubes (f : List Tube → List Tube) : (s.modTubes f).tubes = f s.tubes := rfl
@[simp] theorem State.modTubes_credit (f : List Tube → List Tube) : (s.modTubes f).credit = s.credit := rfl
@[simp] theorem State.modTubes_change (f : List Tube → List Tube) : (s.modTubes f).change = s.change := rfl
@[simp] theorem State.modTubes_sales (f : List Tube → List Tube) : (s.modTubes f).sales = s.sales := rfl
@[simp] theorem State.modTubes_drive (f : List Tube → List Tube) : (s.modTubes f).drive = s.drive := rfl
@[simp] theorem State.modTubes_plant (f : List Tube → List Tube) : (s.modTubes f).plant = s.plant := rfl
@[simp] theorem State.modTubes_load (f : List Tube → List Tube) : (s.modTubes f).load = s.load := rfl
@[simp] theorem State.modTubes_bridge (f : List Tube → List Tube) : (s.modTubes f).bridge = s.bridge := rfl
@[simp] theorem State.modTubes_link (f : List Tube → List Tube) : (s.modTubes f).link = s.link := rfl
@[simp] theorem State.modTubes_tables (f : List Tube → List Tube) : (s.modTubes f).tables = s.tables := rfl
@[simp] theorem State.modTubes_pending (f : List Tube → List Tube) : (s.modTubes f).pending = s.pending := rfl

/-! ### modCredit -/

@[simp] theorem State.modCredit_now (f : CreditUnit → CreditUnit) : (s.modCredit f).now = s.now := rfl
@[simp] theorem State.modCredit_draws (f : CreditUnit → CreditUnit) : (s.modCredit f).draws = s.draws := rfl
@[simp] theorem State.modCredit_pins (f : CreditUnit → CreditUnit) : (s.modCredit f).pins = s.pins := rfl
@[simp] theorem State.modCredit_coin (f : CreditUnit → CreditUnit) : (s.modCredit f).coin = s.coin := rfl
@[simp] theorem State.modCredit_tubes (f : CreditUnit → CreditUnit) : (s.modCredit f).tubes = s.tubes := rfl
@[simp] theorem State.modCredit_credit (f : CreditUnit → CreditUnit) : (s.modCredit f).credit = f s.credit := rfl
@[simp] theorem State.modCredit_change (f : CreditUnit → CreditUnit) : (s.modCredit f).change = s.change := rfl
@[simp] theorem State.modCredit_sales (f : CreditUnit → CreditUnit) : (s.modCredit f).sales = s.sales := rfl
@[simp] theorem State.modCredit_drive (f : CreditUnit → CreditUnit) : (s.modCredit f).drive = s.drive := rfl
@[simp] theorem State.modCredit_plant (f : CreditUnit → CreditUnit) : (s.modCredit f).plant = s.plant := rfl
@[simp] theorem State.modCredit_load (f : CreditUnit → CreditUnit) : (s.modCredit f).load = s.load := rfl
@[simp] theorem State.modCredit_bridge (f : CreditUnit → CreditUnit) : (s.modCredit f).bridge = s.bridge := rfl
@[simp] theorem State.modCredit_link (f : CreditUnit → CreditUnit) : (s.modCredit f).link = s.link := rfl
@[simp] theorem State.modCredit_tables (f : CreditUnit → CreditUnit) : (s.modCredit f).tables = s.tables := rfl
@[simp] theorem State.modCredit_pending (f : CreditUnit → CreditUnit) : (s.modCredit f).pending = s.pending := rfl

/-! ### modChange -/

@[simp] theorem State.modChange_now (f : ChangeUnit → ChangeUnit) : (s.modChange f).now = s.now := rfl
@[simp] theorem State.modChange_draws (f : ChangeUnit → ChangeUnit) : (s.modChange f).draws = s.draws := rfl
@[simp] theorem State.modChange_pins (f : ChangeUnit → ChangeUnit) : (s.modChange f).pins = s.pins := rfl
@[simp] theorem State.modChange_coin (f : ChangeUnit → ChangeUnit) : (s.modChange f).coin = s.coin := rfl
@[simp] theorem State.modChange_tubes (f : ChangeUnit → ChangeUnit) : (s.modChange f).tubes = s.tubes := rfl
@[simp] theorem State.modChange_credit (f : ChangeUnit → ChangeUnit) : (s.modChange f).credit = s.credit := rfl
@[simp] theorem State.modChange_change (f : ChangeUnit → ChangeUnit) : (s.modChange f).change = f s.change := rfl
@[simp] theorem State.modChange_sales (f : ChangeUnit → ChangeUnit) : (s.modChange f).sales = s.sales := rfl
@[simp] theorem State.modChange_drive (f : ChangeUnit → ChangeUnit) : (s.modChange f).drive = s.drive := rfl
@[simp] theorem State.modChange_plant (f : ChangeUnit → ChangeUnit) : (s.modChange f).plant = s.plant := rfl
@[simp] theorem State.modChange_load (f : ChangeUnit → ChangeUnit) : (s.modChange f).load = s.load := rfl
@[simp] theorem State.modChange_bridge (f : ChangeUnit → ChangeUnit) : (s.modChange f).bridge = s.bridge := rfl
@[simp] theorem State.modChange_link (f : ChangeUnit → ChangeUnit) : (s.modChange f).link = s.link := rfl
@[simp] theorem State.modChange_tables (f : ChangeUnit → ChangeUnit) : (s.modChange f).tables = s.tables := rfl
@[simp] theorem State.modChange_pending (f : ChangeUnit → ChangeUnit) : (s.modChange f).pending = s.pending := rfl

/-! ### modSales -/

@[simp] theorem State.modSales_now (f : SalesUnit → SalesUnit) : (s.modSales f).now = s.now := rfl
@[simp] theorem State.modSales_draws (f : SalesUnit → SalesUnit) : (s.modSales f).draws = s.draws := rfl
@[simp] theorem State.modSales_pins (f : SalesUnit → SalesUnit) : (s.modSales f).pins = s.pins := rfl
@[simp] theorem State.modSales_coin (f : SalesUnit → SalesUnit) : (s.modSales f).coin = s.coin := rfl
@[simp] theorem State.modSales_tubes (f : SalesUnit → SalesUnit) : (s.modSales f).tubes = s.tubes := rfl
@[simp] theorem State.modSales_credit (f : SalesUnit → SalesUnit) : (s.modSales f).credit = s.credit := rfl
@[simp] theorem State.modSales_change (f : SalesUnit → SalesUnit) : (s.modSales f).change = s.change := rfl
@[simp] theorem State.modSales_sales (f : SalesUnit → SalesUnit) : (s.modSales f).sales = f s.sales := rfl
@[simp] theorem State.modSales_drive (f : SalesUnit → SalesUnit) : (s.modSales f).drive = s.drive := rfl
@[simp] theorem State.modSales_plant (f : SalesUnit → SalesUnit) : (s.modSales f).plant = s.plant := rfl
@[simp] theorem State.modSales_load (f : SalesUnit → SalesUnit) : (s.modSales f).load = s.load := rfl
@[simp] theorem State.modSales_bridge (f : SalesUnit → SalesUnit) : (s.modSales f).bridge = s.bridge := rfl
@[simp] theorem State.modSales_link (f : SalesUnit → SalesUnit) : (s.modSales f).link = s.link := rfl
@[simp] theorem State.modSales_tables (f : SalesUnit → SalesUnit) : (s.modSales f).tables = s.tables := rfl
@[simp] theorem State.modSales_pending (f : SalesUnit → SalesUnit) : (s.modSales f).pending = s.pending := rfl

/-! ### modDrive -/

@[simp] theorem State.modDrive_now (f : DriveUnit → DriveUnit) : (s.modDrive f).now = s.now := rfl
@[simp] theorem State.modDrive_draws (f : DriveUnit → DriveUnit) : (s.modDrive f).draws = s.draws := rfl
@[simp] theorem State.modDrive_pins (f : DriveUnit → DriveUnit) : (s.modDrive f).pins = s.pins := rfl
@[simp] theorem State.modDrive_coin (f : DriveUnit → DriveUnit) : (s.modDrive f).coin = s.coin := rfl
@[simp] theorem State.modDrive_tubes (f : DriveUnit → DriveUnit) : (s.modDrive f).tubes = s.tubes := rfl
@[simp] theorem State.modDrive_credit (f : DriveUnit → DriveUnit) : (s.modDrive f).credit = s.credit := rfl
@[simp] theorem State.modDrive_change (f : DriveUnit → DriveUnit) : (s.modDrive f).change = s.change := rfl
@[simp] theorem State.modDrive_sales (f : DriveUnit → DriveUnit) : (s.modDrive f).sales = s.sales := rfl
@[simp] theorem State.modDrive_drive (f : DriveUnit → DriveUnit) : (s.modDrive f).drive = f s.drive := rfl
@[simp] theorem State.modDrive_plant (f : DriveUnit → DriveUnit) : (s.modDrive f).plant = s.plant := rfl
@[simp] theorem State.modDrive_load (f : DriveUnit → DriveUnit) : (s.modDrive f).load = s.load := rfl
@[simp] theorem State.modDrive_bridge (f : DriveUnit → DriveUnit) : (s.modDrive f).bridge = s.bridge := rfl
@[simp] theorem State.modDrive_link (f : DriveUnit → DriveUnit) : (s.modDrive f).link = s.link := rfl
@[simp] theorem State.modDrive_tables (f : DriveUnit → DriveUnit) : (s.modDrive f).tables = s.tables := rfl
@[simp] theorem State.modDrive_pending (f : DriveUnit → DriveUnit) : (s.modDrive f).pending = s.pending := rfl

/-! ### modPlant -/

@[simp] theorem State.modPlant_now (f : PlantUnit → PlantUnit) : (s.modPlant f).now = s.now := rfl
@[simp] theorem State.modPlant_draws (f : PlantUnit → PlantUnit) : (s.modPlant f).draws = s.draws := rfl
@[simp] theorem State.modPlant_pins (f : PlantUnit → PlantUnit) : (s.modPlant f).pins = s.pins := rfl
@[simp] theorem State.modPlant_coin (f : PlantUnit → PlantUnit) : (s.modPlant f).coin = s.coin := rfl
@[simp] theorem State.modPlant_tubes (f : PlantUnit → PlantUnit) : (s.modPlant f).tubes = s.tubes := rfl
@[simp] theorem State.modPlant_credit (f : PlantUnit → PlantUnit) : (s.modPlant f).credit = s.credit := rfl
@[simp] theorem State.modPlant_change (f : PlantUnit → PlantUnit) : (s.modPlant f).change = s.change := rfl
@[simp] theorem State.modPlant_sales (f : PlantUnit → PlantUnit) : (s.modPlant f).sales = s.sales := rfl
@[simp] theorem State.modPlant_drive (f : PlantUnit → PlantUnit) : (s.modPlant f).drive = s.drive := rfl
@[simp] theorem State.modPlant_plant (f : PlantUnit → PlantUnit) : (s.modPlant f).plant = f s.plant := rfl
@[simp] theorem State.modPlant_load (f : PlantUnit → PlantUnit) : (s.modPlant f).load = s.load := rfl
@[simp] theorem State.modPlant_bridge (f : PlantUnit → PlantUnit) : (s.modPlant f).bridge = s.bridge := rfl
@[simp] theorem State.modPlant_link (f : PlantUnit → PlantUnit) : (s.modPlant f).link = s.link := rfl
@[simp] theorem State.modPlant_tables (f : PlantUnit → PlantUnit) : (s.modPlant f).tables = s.tables := rfl
@[simp] theorem State.modPlant_pending (f : PlantUnit → PlantUnit) : (s.modPlant f).pending = s.pending := rfl

/-! ### modLoad -/

@[simp] theorem State.modLoad_now (f : LoadUnit → LoadUnit) : (s.modLoad f).now = s.now := rfl
@[simp] theorem State.modLoad_draws (f : LoadUnit → LoadUnit) : (s.modLoad f).draws = s.draws := rfl
@[simp] theorem State.modLoad_pins (f : LoadUnit → LoadUnit) : (s.modLoad f).pins = s.pins := rfl
@[simp] theorem State.modLoad_coin (f : LoadUnit → LoadUnit) : (s.modLoad f).coin = s.coin := rfl
@[simp] theorem State.modLoad_tubes (f : LoadUnit → LoadUnit) : (s.modLoad f).tubes = s.tubes := rfl
@[simp] theorem State.modLoad_credit (f : LoadUnit → LoadUnit) : (s.modLoad f).credit = s.credit := rfl
@[simp] theorem State.modLoad_change (f : LoadUnit → LoadUnit) : (s.modLoad f).change = s.change := rfl
@[simp] theorem State.modLoad_sales (f : LoadUnit → LoadUnit) : (s.modLoad f).sales = s.sales := rfl
@[simp] theorem State.modLoad_drive (f : LoadUnit → LoadUnit) : (s.modLoad f).drive = s.drive := rfl
@[simp] theorem State.modLoad_plant (f : LoadUnit → LoadUnit) : (s.modLoad f).plant = s.plant := rfl
@[simp] theorem State.modLoad_load (f : LoadUnit → LoadUnit) : (s.modLoad f).load = f s.load := rfl
@[simp] theorem State.modLoad_bridge (f : LoadUnit → LoadUnit) : (s.modLoad f).bridge = s.bridge := rfl
@[simp] theorem State.modLoad_link (f : LoadUnit → LoadUnit) : (s.modLoad f).link = s.link := rfl
@[simp] theorem State.modLoad_tables (f : LoadUnit → LoadUnit) : (s.modLoad f).tables = s.tables := rfl
@[simp] theorem State.modLoad_pending (f : LoadUnit → LoadUnit) : (s.modLoad f).pending = s.pending := rfl

/-! ### modBridge -/

@[simp] theorem State.modBridge_now (f : BridgeUnit → BridgeUnit) : (s.modBridge f).now = s.now := rfl
@[simp] theorem State.modBridge_draws (f : BridgeUnit → BridgeUnit) : (s.modBridge f).draws = s.draws := rfl
@[simp] theorem State.modBridge_pins (f : BridgeUnit → BridgeUnit) : (s.modBridge f).pins = s.pins := rfl
@[simp] theorem State.modBridge_coin (f : BridgeUnit → BridgeUnit) : (s.modBridge f).coin = s.coin := rfl
@[simp] theorem State.modBridge_tubes (f : BridgeUnit → BridgeUnit) : (s.modBridge f).tubes = s.tubes := rfl
@[simp] theorem State.modBridge_credit (f : BridgeUnit → BridgeUnit) : (s.modBridge f).credit = s.credit := rfl
@[simp] theorem State.modBridge_change (f : BridgeUnit → BridgeUnit) : (s.modBridge f).change = s.change := rfl
@[simp] theorem State.modBridge_sales (f : BridgeUnit → BridgeUnit) : (s.modBridge f).sales = s.sales := rfl
@[simp] theorem State.modBridge_drive (f : BridgeUnit → BridgeUnit) : (s.modBridge f).drive = s.drive := rfl
@[simp] theorem State.modBridge_plant (f : BridgeUnit → BridgeUnit) : (s.modBridge f).plant = s.plant := rfl
@[simp] theorem State.modBridge_load (f : BridgeUnit → BridgeUnit) : (s.modBridge f).load = s.load := rfl
@[simp] theorem State.modBridge_bridge (f : BridgeUnit → BridgeUnit) : (s.modBridge f).bridge = f s.bridge := rfl
@[simp] theorem State.modBridge_link (f : BridgeUnit → BridgeUnit) : (s.modBridge f).link = s.link := rfl
@[simp] theorem State.modBridge_tables (f : BridgeUnit → BridgeUnit) : (s.modBridge f).tables = s.tables := rfl
@[simp] theorem State.modBridge_pending (f : BridgeUnit → BridgeUnit) : (s.modBridge f).pending = s.pending := rfl

/-! ### modLink -/

@[simp] theorem State.modLink_now (f : LinkUnit → LinkUnit) : (s.modLink f).now = s.now := rfl
@[simp] theorem State.modLink_draws (f : LinkUnit → LinkUnit) : (s.modLink f).draws = s.draws := rfl
@[simp] theorem State.modLink_pins (f : LinkUnit → LinkUnit) : (s.modLink f).pins = s.pins := rfl
@[simp] theorem State.modLink_coin (f : LinkUnit → LinkUnit) : (s.modLink f).coin = s.coin := rfl
@[simp] theorem State.modLink_tubes (f : LinkUnit → LinkUnit) : (s.modLink f).tubes = s.tubes := rfl
@[simp] theorem State.modLink_credit (f : LinkUnit → LinkUnit) : (s.modLink f).credit = s.credit := rfl
@[simp] theorem State.modLink_change (f : LinkUnit → LinkUnit) : (s.modLink f).change = s.change := rfl
@[simp] theorem State.modLink_sales (f : LinkUnit → LinkUnit) : (s.modLink f).sales = s.sales := rfl
@[simp] theorem State.modLink_drive (f : LinkUnit → LinkUnit) : (s.modLink f).drive = s.drive := rfl
@[simp] theorem State.modLink_plant (f : LinkUnit → LinkUnit) : (s.modLink f).plant = s.plant := rfl
@[simp] theorem State.modLink_load (f : LinkUnit → LinkUnit) : (s.modLink f).load = s.load := rfl
@[simp] theorem State.modLink_bridge (f : LinkUnit → LinkUnit) : (s.modLink f).bridge = s.bridge := rfl
@[simp] theorem State.modLink_link (f : LinkUnit → LinkUnit) : (s.modLink f).link = f s.link := rfl
@[simp] theorem State.modLink_tables (f : LinkUnit → LinkUnit) : (s.modLink f).tables = s.tables := rfl
@[simp] theorem State.modLink_pending (f : LinkUnit → LinkUnit) : (s.modLink f).pending = s.pending := rfl

/-! ### modTables -/

@[simp] theorem State.modTables_now (f : TablesUnit → TablesUnit) : (s.modTables f).now = s.now := rfl
@[simp] theorem State.modTables_draws (f : TablesUnit → TablesUnit) : (s.modTables f).draws = s.draws := rfl
@[simp] theorem State.modTables_pins (f : TablesUnit → TablesUnit) : (s.modTables f).pins = s.pins := rfl
@[simp] theorem State.modTables_coin (f : TablesUnit → TablesUnit) : (s.modTables f).coin = s.coin := rfl
@[simp] theorem State.modTables_tubes (f : TablesUnit → TablesUnit) : (s.modTables f).tubes = s.tubes := rfl
@[simp] theorem State.modTables_credit (f : TablesUnit → TablesUnit) : (s.modTables f).credit = s.credit := rfl
@[simp] theorem State.modTables_change (f : TablesUnit → TablesUnit) : (s.modTables f).change = s.change := rfl
@[simp] theorem State.modTables_sales (f : TablesUnit → TablesUnit) : (s.modTables f).sales = s.sales := rfl
@[simp] theorem State.modTables_drive (f : TablesUnit → TablesUnit) : (s.modTables f).drive = s.drive := rfl
@[simp] theorem State.modTables_plant (f : TablesUnit → TablesUnit) : (s.modTables f).plant = s.plant := rfl
@[simp] theorem State.modTables_load (f : TablesUnit → TablesUnit) : (s.modTables f).load = s.load := rfl
@[simp] theorem State.modTables_bridge (f : TablesUnit → TablesUnit) : (s.modTables f).bridge = s.bridge := rfl
@[simp] theorem State.modTables_link (f : TablesUnit → TablesUnit) : (s.modTables f).link = s.link := rfl
@[simp] theorem State.modTables_tables (f : TablesUnit → TablesUnit) : (s.modTables f).tables = f s.tables := rfl
@[simp] theorem State.modTables_pending (f : TablesUnit → TablesUnit) : (s.modTables f).pending = s.pending := rfl

/-! ### reach -/

@[simp] theorem State.reach_now (t : Nat) : (s.reach t).now = max s.now t := rfl
@[simp] theorem State.reach_draws (t : Nat) : (s.reach t).draws = s.draws := rfl
@[simp] theorem State.reach_pins (t : Nat) : (s.reach t).pins = s.pins := rfl
@[simp] theorem State.reach_coin (t : Nat) : (s.reach t).coin = s.coin := rfl
@[simp] theorem State.reach_tubes (t : Nat) : (s.reach t).tubes = s.tubes := rfl
@[simp] theorem State.reach_credit (t : Nat) : (s.reach t).credit = s.credit := rfl
@[simp] theorem State.reach_change (t : Nat) : (s.reach t).change = s.change := rfl
@[simp] theorem State.reach_sales (t : Nat) : (s.reach t).sales = s.sales := rfl
@[simp] theorem State.reach_drive (t : Nat) : (s.reach t).drive = s.drive := rfl
@[simp] theorem State.reach_plant (t : Nat) : (s.reach t).plant = s.plant := rfl
@[simp] theorem State.reach_load (t : Nat) : (s.reach t).load = s.load := rfl
@[simp] theorem State.reach_bridge (t : Nat) : (s.reach t).bridge = s.bridge := rfl
@[simp] theorem State.reach_link (t : Nat) : (s.reach t).link = s.link := rfl
@[simp] theorem State.reach_tables (t : Nat) : (s.reach t).tables = s.tables := rfl
@[simp] theorem State.reach_pending (t : Nat) : (s.reach t).pending = s.pending := rfl

/-! ### draw -/

@[simp] theorem State.draw_now : (s.draw).now = s.now := rfl
@[simp] theorem State.draw_draws : (s.draw).draws = s.draws + 1 := rfl
@[simp] theorem State.draw_pins : (s.draw).pins = s.pins := rfl
@[simp] theorem State.draw_coin : (s.draw).coin = s.coin := rfl
@[simp] theorem State.draw_tubes : (s.draw).tubes = s.tubes := rfl
@[simp] theorem State.draw_credit : (s.draw).credit = s.credit := rfl
@[simp] theorem State.draw_change : (s.draw).change = s.change := rfl
@[simp] theorem State.draw_sales : (s.draw).sales = s.sales := rfl
@[simp] theorem State.draw_drive : (s.draw).drive = s.drive := rfl
@[simp] theorem State.draw_plant : (s.draw).plant = s.plant := rfl
@[simp] theorem State.draw_load : (s.draw).load = s.load := rfl
@[simp] theorem State.draw_bridge : (s.draw).bridge = s.bridge := rfl
@[simp] theorem State.draw_link : (s.draw).link = s.link := rfl
@[simp] theorem State.draw_tables : (s.draw).tables = s.tables := rfl
@[simp] theorem State.draw_pending : (s.draw).pending = s.pending := rfl

/-! ### raise -/

@[simp] theorem State.raise_now (k : NoticeKind) (u : Option Nat) (vs : List Nat) : (s.raise k u vs).now = s.now := rfl
@[simp] theorem State.raise_draws (k : NoticeKind) (u : Option Nat) (vs : List Nat) :
    (s.raise k u vs).draws = s.draws := rfl
@[simp] theorem State.raise_pins (k : NoticeKind) (u : Option Nat) (vs : List Nat) :
    (s.raise k u vs).pins = s.pins := rfl
@[simp] theorem State.raise_coin (k : NoticeKind) (u : Option Nat) (vs : List Nat) :
    (s.raise k u vs).coin = s.coin := rfl
@[simp] theorem State.raise_tubes (k : NoticeKind) (u : Option Nat) (vs : List Nat) :
    (s.raise k u vs).tubes = s.tubes := rfl
@[simp] theorem State.raise_credit (k : NoticeKind) (u : Option Nat) (vs : List Nat) :
    (s.raise k u vs).credit = s.credit := rfl
@[simp] theorem State.raise_change (k : NoticeKind) (u : Option Nat) (vs : List Nat) :
    (s.raise k u vs).change = s.change := rfl
@[simp] theorem State.raise_sales (k : NoticeKind) (u : Option Nat) (vs : List Nat) :
    (s.raise k u vs).sales = s.sales := rfl
@[simp] theorem State.raise_drive (k : NoticeKind) (u : Option Nat) (vs : List Nat) :
    (s.raise k u vs).drive = s.drive := rfl
@[simp] theorem State.raise_plant (k : NoticeKind) (u : Option Nat) (vs : List Nat) :
    (s.raise k u vs).plant = s.plant := rfl
@[simp] theorem State.raise_load (k : NoticeKind) (u : Option Nat) (vs : List Nat) :
    (s.raise k u vs).load = s.load := rfl
@[simp] theorem State.raise_bridge (k : NoticeKind) (u : Option Nat) (vs : List Nat) :
    (s.raise k u vs).bridge = s.bridge := rfl
@[simp] theorem State.raise_link (k : NoticeKind) (u : Option Nat) (vs : List Nat) :
    (s.raise k u vs).link = s.link.push { kind := k, stamp := s.stamp, subject := u, values := vs } := rfl
@[simp] theorem State.raise_tables (k : NoticeKind) (u : Option Nat) (vs : List Nat) :
    (s.raise k u vs).tables = s.tables := rfl
@[simp] theorem State.raise_pending (k : NoticeKind) (u : Option Nat) (vs : List Nat) :
    (s.raise k u vs).pending = s.pending := rfl

/-! ### transmit -/

@[simp] theorem State.transmit_now (f : Frame) : (s.transmit f).now = s.now := rfl
@[simp] theorem State.transmit_draws (f : Frame) : (s.transmit f).draws = s.draws := rfl
@[simp] theorem State.transmit_pins (f : Frame) : (s.transmit f).pins = s.pins := rfl
@[simp] theorem State.transmit_coin (f : Frame) : (s.transmit f).coin = s.coin := rfl
@[simp] theorem State.transmit_tubes (f : Frame) : (s.transmit f).tubes = s.tubes := rfl
@[simp] theorem State.transmit_credit (f : Frame) : (s.transmit f).credit = s.credit := rfl
@[simp] theorem State.transmit_change (f : Frame) : (s.transmit f).change = s.change := rfl
@[simp] theorem State.transmit_sales (f : Frame) : (s.transmit f).sales = s.sales := rfl
@[simp] theorem State.transmit_drive (f : Frame) : (s.transmit f).drive = s.drive := rfl
@[simp] theorem State.transmit_plant (f : Frame) : (s.transmit f).plant = s.plant := rfl
@[simp] theorem State.transmit_load (f : Frame) : (s.transmit f).load = s.load := rfl
@[simp] theorem State.transmit_bridge (f : Frame) : (s.transmit f).bridge = s.bridge := rfl
@[simp] theorem State.transmit_link (f : Frame) :
    (s.transmit f).link = { s.link with sent := s.link.sent ++ [f] } := rfl
@[simp] theorem State.transmit_tables (f : Frame) : (s.transmit f).tables = s.tables := rfl
@[simp] theorem State.transmit_pending (f : Frame) : (s.transmit f).pending = s.pending := rfl

/-! ### accept -/

@[simp] theorem State.accept_now (q : Byte) (d : List Byte) : (s.accept q d).now = s.now := rfl
@[simp] theorem State.accept_draws (q : Byte) (d : List Byte) : (s.accept q d).draws = s.draws := rfl
@[simp] theorem State.accept_pins (q : Byte) (d : List Byte) : (s.accept q d).pins = s.pins := rfl
@[simp] theorem State.accept_coin (q : Byte) (d : List Byte) : (s.accept q d).coin = s.coin := rfl
@[simp] theorem State.accept_tubes (q : Byte) (d : List Byte) : (s.accept q d).tubes = s.tubes := rfl
@[simp] theorem State.accept_credit (q : Byte) (d : List Byte) : (s.accept q d).credit = s.credit := rfl
@[simp] theorem State.accept_change (q : Byte) (d : List Byte) : (s.accept q d).change = s.change := rfl
@[simp] theorem State.accept_sales (q : Byte) (d : List Byte) : (s.accept q d).sales = s.sales := rfl
@[simp] theorem State.accept_drive (q : Byte) (d : List Byte) : (s.accept q d).drive = s.drive := rfl
@[simp] theorem State.accept_plant (q : Byte) (d : List Byte) : (s.accept q d).plant = s.plant := rfl
@[simp] theorem State.accept_load (q : Byte) (d : List Byte) : (s.accept q d).load = s.load := rfl
@[simp] theorem State.accept_bridge (q : Byte) (d : List Byte) : (s.accept q d).bridge = s.bridge := rfl
@[simp] theorem State.accept_link (q : Byte) (d : List Byte) :
    (s.accept q d).link = { s.link with sent := s.link.sent ++ [replyFrame 0 q 0 0 d] } := rfl
@[simp] theorem State.accept_tables (q : Byte) (d : List Byte) : (s.accept q d).tables = s.tables := rfl
@[simp] theorem State.accept_pending (q : Byte) (d : List Byte) : (s.accept q d).pending = s.pending := rfl

/-! ### refuse -/

@[simp] theorem State.refuse_now (q : Byte) (r : Reason) (d : List Byte) : (s.refuse q r d).now = s.now := rfl
@[simp] theorem State.refuse_draws (q : Byte) (r : Reason) (d : List Byte) : (s.refuse q r d).draws = s.draws := rfl
@[simp] theorem State.refuse_pins (q : Byte) (r : Reason) (d : List Byte) : (s.refuse q r d).pins = s.pins := rfl
@[simp] theorem State.refuse_coin (q : Byte) (r : Reason) (d : List Byte) : (s.refuse q r d).coin = s.coin := rfl
@[simp] theorem State.refuse_tubes (q : Byte) (r : Reason) (d : List Byte) : (s.refuse q r d).tubes = s.tubes := rfl
@[simp] theorem State.refuse_credit (q : Byte) (r : Reason) (d : List Byte) : (s.refuse q r d).credit = s.credit := rfl
@[simp] theorem State.refuse_change (q : Byte) (r : Reason) (d : List Byte) : (s.refuse q r d).change = s.change := rfl
@[simp] theorem State.refuse_sales (q : Byte) (r : Reason) (d : List Byte) : (s.refuse q r d).sales = s.sales := rfl
@[simp] theorem State.refuse_drive (q : Byte) (r : Reason) (d : List Byte) : (s.refuse q r d).drive = s.drive := rfl
@[simp] theorem State.refuse_plant (q : Byte) (r : Reason) (d : List Byte) : (s.refuse q r d).plant = s.plant := rfl
@[simp] theorem State.refuse_load (q : Byte) (r : Reason) (d : List Byte) : (s.refuse q r d).load = s.load := rfl
@[simp] theorem State.refuse_bridge (q : Byte) (r : Reason) (d : List Byte) : (s.refuse q r d).bridge = s.bridge := rfl
@[simp] theorem State.refuse_link (q : Byte) (r : Reason) (d : List Byte) :
    (s.refuse q r d).link = { s.link with sent := s.link.sent ++ [replyFrame 0 q 1 r.code d] } := rfl
@[simp] theorem State.refuse_tables (q : Byte) (r : Reason) (d : List Byte) : (s.refuse q r d).tables = s.tables := rfl
@[simp] theorem State.refuse_pending (q : Byte) (r : Reason) (d : List Byte) :
    (s.refuse q r d).pending = s.pending := rfl

/-! ### frameTaken -/

@[simp] theorem State.frameTaken_now : (s.frameTaken).now = s.now := rfl
@[simp] theorem State.frameTaken_draws : (s.frameTaken).draws = s.draws := rfl
@[simp] theorem State.frameTaken_pins : (s.frameTaken).pins = s.pins := rfl
@[simp] theorem State.frameTaken_coin : (s.frameTaken).coin = s.coin := rfl
@[simp] theorem State.frameTaken_tubes : (s.frameTaken).tubes = s.tubes := rfl
@[simp] theorem State.frameTaken_credit : (s.frameTaken).credit = s.credit := rfl
@[simp] theorem State.frameTaken_change : (s.frameTaken).change = s.change := rfl
@[simp] theorem State.frameTaken_sales : (s.frameTaken).sales = s.sales := rfl
@[simp] theorem State.frameTaken_drive : (s.frameTaken).drive = s.drive := rfl
@[simp] theorem State.frameTaken_plant : (s.frameTaken).plant = s.plant := rfl
@[simp] theorem State.frameTaken_load : (s.frameTaken).load = s.load := rfl
@[simp] theorem State.frameTaken_bridge : (s.frameTaken).bridge = s.bridge := rfl
@[simp] theorem State.frameTaken_link : (s.frameTaken).link = { s.link with rx := .hunting } := rfl
@[simp] theorem State.frameTaken_tables : (s.frameTaken).tables = s.tables := rfl
@[simp] theorem State.frameTaken_pending : (s.frameTaken).pending = s.pending := rfl

end Updates

/-! ### The group record, at its energizing and at a sample -/

section Groups

variable (r : GroupRec)

@[simp] theorem GroupRec.energize_state (x : GroupState) : (r.energize x).state = x := rfl
@[simp] theorem GroupRec.energize_highRun (x : GroupState) : (r.energize x).highRun = 0 := rfl
@[simp] theorem GroupRec.energize_lastCurrent (x : GroupState) : (r.energize x).lastCurrent = 0 := rfl
@[simp] theorem GroupRec.energize_noMotorChecked (x : GroupState) : (r.energize x).noMotorChecked = false := rfl
@[simp] theorem GroupRec.energize_held (x : GroupState) : (r.energize x).held = r.held := rfl
@[simp] theorem GroupRec.energize_test (x : GroupState) : (r.energize x).test = r.test := rfl
@[simp] theorem GroupRec.sampled_state (n : Nat) : (r.sampled n).state = r.state := rfl
@[simp] theorem GroupRec.sampled_lastCurrent (n : Nat) : (r.sampled n).lastCurrent = n := rfl
@[simp] theorem GroupRec.sampled_noMotorChecked (n : Nat) : (r.sampled n).noMotorChecked = r.noMotorChecked := rfl
@[simp] theorem GroupRec.sampled_held (n : Nat) : (r.sampled n).held = r.held := rfl
@[simp] theorem GroupRec.sampled_test (n : Nat) : (r.sampled n).test = r.test := rfl

end Groups

/-! ### A home switch -/

@[simp] theorem State.setAway_group (s : State) (p : Nat) (away : Bool) (g : Group) :
    (s.setAway p away).group g = s.group g := rfl

end Sys2Proof.Machine
end

