-- ==== Sys2Proof/Laws/Agenda.lean ====
section
/-! SUPPORT. How a list of acts is carried out (Machine/Agenda.lean). -/

namespace Sys2Proof.Machine

@[simp] theorem settle_nil (n : Nat) (s : State) : settle n [] s = s := by cases n <;> rfl

@[simp] theorem settle_zero (as : List Act) (s : State) : settle 0 as s = s := rfl

theorem settle_succ_cons (n : Nat) (a : Act) (as : List Act) (s : State) :
    settle (n + 1) (a :: as) s = settle n ((perform a s).2 ++ as) (perform a s).1 := rfl

/-- A property that every act keeps is kept by settling. -/
theorem settle_keeps {P : State → Prop} (hact : ∀ a s, P s → P (perform a s).1) : ∀ n acts s, P s → P (settle n acts s)
  | 0, _, _, h => h
  | _ + 1, [], _, h => h
  | n + 1, a :: _, s, h => settle_keeps hact n _ _ (hact a s h)

/-- A property that every act and the end of a command keep is kept by a command's acts. -/
theorem run_keeps {P : State → Prop} (hact : ∀ a s, P s → P (perform a s).1) (hend : ∀ s, P s → P s.conclude) (s : State)
    (acts : List Act) (h : P s) : P (run s acts) :=
  hend _ (settle_keeps hact _ _ _ h)

theorem runDoing_keeps {P : State → Prop} (hact : ∀ a s, P s → P (perform a s).1) (hend : ∀ s, P s → P s.conclude)
    (d : Doing) (h : P d.1) : P (runDoing d) :=
  run_keeps hact hend d.1 d.2 h

@[simp] theorem run_nil (s : State) : run s [] = s.conclude := rfl

end Sys2Proof.Machine
end

