-- ==== Sys2Proof/Laws/Touches.lean ====
section
/-! SUPPORT. What each shared operation can change: the state it leaves is the state it was given but for the fields named
here. A later proof cites these and does not unfold the operation. -/

namespace Sys2Proof.Machine

section Touches

variable (s : State)

theorem State.linkError_touches :
    (s.linkError) =
      { s with link := (s.linkError).link } := by
  unfold State.linkError
  try dsimp only
  repeat' split
  all_goals rfl

theorem State.modChannel_touches (c : Nat) (f : Channel → Channel) :
    (s.modChannel c f) =
      { s with bridge := (s.modChannel c f).bridge } := by
  unfold State.modChannel
  try dsimp only
  all_goals rfl

theorem State.modSelection_touches (p : Nat) (f : Selection → Selection) :
    (s.modSelection p f) =
      { s with sales := (s.modSelection p f).sales } := by
  unfold State.modSelection
  try dsimp only
  all_goals rfl

theorem State.modVend_touches (i : Nat) (f : Vend → Vend) :
    (s.modVend i f) =
      { s with sales := (s.modVend i f).sales } := by
  unfold State.modVend
  try dsimp only
  all_goals rfl

theorem State.modGroup_touches (g : Group) (f : GroupRec → GroupRec) :
    (s.modGroup g f) =
      { s with drive := (s.modGroup g f).drive } := by
  unfold State.modGroup
  try dsimp only
  repeat' split
  all_goals rfl

theorem State.placeClaim_touches (k : LoadKind) (o : Claimant) :
    (s.placeClaim k o).1 =
      { s with load := (s.placeClaim k o).1.load } := by
  unfold State.placeClaim
  try dsimp only
  repeat' split
  all_goals rfl

theorem State.withdrawClaim_touches (k : LoadKind) (o : Claimant) :
    (s.withdrawClaim k o).1 =
      { s with load := (s.withdrawClaim k o).1.load } := by
  unfold State.withdrawClaim
  try dsimp only
  repeat' split
  all_goals rfl

theorem State.releaseClaim_touches (k : LoadKind) (o : Claimant) :
    (s.releaseClaim k o).1 =
      { s with load := (s.releaseClaim k o).1.load } := by
  unfold State.releaseClaim State.withdrawClaim
  try dsimp only
  repeat' split
  all_goals rfl

theorem State.decideHead_touches :
    (s.decideHead).1 =
      { s with load := (s.decideHead).1.load, plant := (s.decideHead).1.plant } := by
  unfold State.decideHead
  try dsimp only
  repeat' split
  all_goals rfl

theorem State.shrinkStart_touches :
    (s.shrinkStart).1 =
      { s with load := (s.shrinkStart).1.load } := by
  unfold State.shrinkStart
  try dsimp only
  repeat' split
  all_goals rfl

theorem State.energize_touches (g : Group) (p : Nat) (o : Owner) :
    (s.energize g p o) =
      { s with drive := (s.energize g p o).drive } := by
  unfold State.energize State.modGroup
  try dsimp only
  repeat' split
  all_goals rfl

theorem State.requestTurn_touches (p : Nat) (o : Owner) :
    (s.requestTurn p o) =
      { s with drive := (s.requestTurn p o).drive } := by
  unfold State.requestTurn State.energize State.modGroup
  try dsimp only
  repeat' split
  all_goals rfl

theorem State.startHeldRequest_touches (g : Group) :
    (s.startHeldRequest g).1 =
      { s with drive := (s.startHeldRequest g).1.drive } := by
  unfold State.startHeldRequest State.energize State.modGroup
  try dsimp only
  repeat' split
  all_goals rfl

theorem State.leaveHome_touches (p : Nat) :
    (s.leaveHome p) =
      { s with drive := (s.leaveHome p).drive } := by
  unfold State.leaveHome State.modGroup
  try dsimp only
  repeat' split
  all_goals rfl

theorem State.endTurn_touches (g : Group) (x : Turn) :
    (s.endTurn g x).1 =
      { s with drive := (s.endTurn g x).1.drive } := by
  unfold State.endTurn State.modGroup
  try dsimp only
  repeat' split
  all_goals rfl

theorem State.faultTurn_touches (g : Group) (x : Turn) (w : MotorFault) :
    (s.faultTurn g x w).1 =
      { s with drive := (s.faultTurn g x w).1.drive } := by
  unfold State.faultTurn State.modGroup
  try dsimp only
  repeat' split
  all_goals rfl

theorem State.takeCurrent_touches (g : Group) (x : Turn) (n : Nat) :
    (s.takeCurrent g x n).1 =
      { s with drive := (s.takeCurrent g x n).1.drive } := by
  unfold State.takeCurrent State.faultTurn State.modGroup
  try dsimp only
  repeat' split
  all_goals rfl

theorem State.endTest_touches (g : Group) :
    (s.endTest g).1 =
      { s with drive := (s.endTest g).1.drive } := by
  unfold State.endTest State.modGroup
  try dsimp only
  repeat' split
  all_goals rfl

theorem State.reportTurn_touches (g : Group) (o : Owner) :
    (s.reportTurn g o).1 =
      { s with drive := (s.reportTurn g o).1.drive } := by
  unfold State.reportTurn State.endTest State.modGroup
  try dsimp only
  repeat' split
  all_goals rfl

theorem State.reportFault_touches (g : Group) (o : Owner) :
    (s.reportFault g o).1 =
      { s with drive := (s.reportFault g o).1.drive } := by
  unfold State.reportFault State.endTest State.modGroup
  try dsimp only
  repeat' split
  all_goals rfl

theorem State.testGranted_touches (g : Group) :
    (s.testGranted g).1 =
      { s with drive := (s.testGranted g).1.drive } := by
  unfold State.testGranted State.requestTurn State.energize State.modGroup
  try dsimp only
  repeat' split
  all_goals rfl

theorem State.doorAtMotors_touches :
    (s.doorAtMotors).1 =
      { s with drive := (s.doorAtMotors).1.drive } := by
  unfold State.doorAtMotors
  try dsimp only
  all_goals rfl

theorem State.repriceNow_touches :
    (s.repriceNow) =
      { s with change := (s.repriceNow).change } := by
  unfold State.repriceNow
  try dsimp only
  all_goals rfl

theorem State.jamSelection_touches (p : Nat) :
    (s.jamSelection p).1 =
      { s with sales := (s.jamSelection p).1.sales } := by
  unfold State.jamSelection
  try dsimp only
  all_goals rfl

theorem State.dropVendClaim_touches (i : Nat) :
    (s.dropVendClaim i).1 =
      { s with load := (s.dropVendClaim i).1.load } := by
  unfold State.dropVendClaim State.releaseClaim State.withdrawClaim
  try dsimp only
  repeat' split
  all_goals rfl

theorem State.recordEnd_touches (i : Nat) (r : VendResult) (d : Bool) :
    (s.recordEnd i r d).1 =
      { s with sales := (s.recordEnd i r d).1.sales } := by
  unfold State.recordEnd
  try dsimp only
  repeat' split
  all_goals rfl

theorem State.takeFromList_touches (i : Nat) (r : VendResult) (d : Bool) :
    (s.takeFromList i r d).1 =
      { s with sales := (s.takeFromList i r d).1.sales, link := (s.takeFromList i r d).1.link } := by
  unfold State.takeFromList
  try dsimp only
  repeat' split
  all_goals rfl

theorem State.dispatchOne_touches :
    (s.dispatchOne).1 =
      { s with sales := (s.dispatchOne).1.sales } := by
  unfold State.dispatchOne
  try dsimp only
  repeat' split
  all_goals rfl

theorem State.vendGranted_touches (g : Group) :
    (s.vendGranted g).1 =
      { s with sales := (s.vendGranted g).1.sales, drive := (s.vendGranted g).1.drive } := by
  unfold State.vendGranted State.requestTurn State.energize State.modGroup
  try dsimp only
  repeat' split
  all_goals rfl

theorem State.turnDone_touches (g : Group) :
    (s.turnDone g).1 =
      { s with sales := (s.turnDone g).1.sales } := by
  unfold State.turnDone
  try dsimp only
  repeat' split
  all_goals rfl

theorem State.turnJammed_touches (g : Group) :
    (s.turnJammed g).1 =
      s := by
  unfold State.turnJammed
  try dsimp only
  repeat' split
  all_goals rfl

theorem State.attributeDrop_touches :
    (s.attributeDrop).1 =
      { s with sales := (s.attributeDrop).1.sales, link := (s.attributeDrop).1.link } := by
  unfold State.attributeDrop
  try dsimp only
  repeat' split
  all_goals rfl

theorem State.windowOver_touches (v : Vend) :
    (s.windowOver v).1 =
      { s with sales := (s.windowOver v).1.sales } := by
  unfold State.windowOver
  try dsimp only
  repeat' split
  all_goals rfl

theorem State.openCash_touches :
    (s.openCash) =
      { s with
        credit :=
          { s.credit with
            session := (s.openCash).credit.session
            carried := (s.openCash).credit.carried
            changed := (s.openCash).credit.changed } } := by
  unfold State.openCash State.modCash
  try dsimp only
  all_goals rfl

theorem State.carry_touches (n : Nat) :
    (s.carry n) =
      { s with
        credit :=
          { s.credit with
            carried := (s.carry n).credit.carried
            changed := (s.carry n).credit.changed } } := by
  unfold State.carry State.modCash
  try dsimp only
  all_goals rfl

theorem State.takeCash_touches (k : Cash) (n : Nat) :
    (s.takeCash k n) =
      { s with
        credit :=
          { s.credit with
            session := (s.takeCash k n).credit.session
            carried := (s.takeCash k n).credit.carried
            changed := (s.takeCash k n).credit.changed } } := by
  unfold State.takeCash State.carry State.modSession State.modCash
  try dsimp only
  repeat' split
  all_goals rfl

theorem State.charge_touches (n : Nat) (f : Funding) :
    (s.charge n f) =
      { s with
        credit :=
          { s.credit with
            session := (s.charge n f).credit.session
            changed := (s.charge n f).credit.changed } } := by
  unfold State.charge State.modSession State.modCash
  try dsimp only
  repeat' split
  all_goals rfl

theorem State.takeVendEnd_touches (r : VendResult) (n : Nat) (f : Funding) :
    (s.takeVendEnd r n f).1 =
      { s with
        credit :=
          { s.credit with
            session := (s.takeVendEnd r n f).1.credit.session
            changed := (s.takeVendEnd r n f).1.credit.changed } } := by
  unfold State.takeVendEnd State.charge State.modSession State.modCash
  try dsimp only
  repeat' split
  all_goals rfl

theorem State.requestClose_touches :
    (s.requestClose).1 =
      s := by
  unfold State.requestClose
  try dsimp only
  repeat' split
  all_goals rfl

theorem State.goOnClosing_touches :
    (s.goOnClosing).1 =
      { s with
        credit :=
          { s.credit with
            session := (s.goOnClosing).1.credit.session
            changed := (s.goOnClosing).1.credit.changed } } := by
  unfold State.goOnClosing State.modSession State.modCash
  try dsimp only
  repeat' split
  all_goals rfl

theorem State.settleCard_touches (x : Session) (c : Card) :
    (s.settleCard x c).1 =
      { s with
        credit :=
          { s.credit with
            session := (s.settleCard x c).1.credit.session
            settlements := (s.settleCard x c).1.credit.settlements
            changed := (s.settleCard x c).1.credit.changed }
        bridge := (s.settleCard x c).1.bridge
        link := (s.settleCard x c).1.link } := by
  unfold State.settleCard State.fillSlot State.modChannel State.appendSettlement State.sessionToIdle State.modSession State.modCash
  try dsimp only
  repeat' split
  all_goals rfl

theorem State.finishClose_touches :
    (s.finishClose).1 =
      { s with
        credit :=
          { s.credit with
            session := (s.finishClose).1.credit.session
            settlements := (s.finishClose).1.credit.settlements
            changed := (s.finishClose).1.credit.changed }
        bridge := (s.finishClose).1.bridge
        link := (s.finishClose).1.link } := by
  unfold State.finishClose State.settleCard State.fillSlot State.modChannel State.appendSettlement State.sessionToIdle State.modSession State.modCash
  try dsimp only
  repeat' split
  all_goals rfl

theorem State.endCash_touches (n : Nat) :
    (s.endCash n).1 =
      { s with
        credit :=
          { s.credit with
            session := (s.endCash n).1.credit.session
            carried := (s.endCash n).1.credit.carried
            changed := (s.endCash n).1.credit.changed }
        link := (s.endCash n).1.link } := by
  unfold State.endCash State.carry State.sessionToIdle State.modSession State.modCash
  try dsimp only
  repeat' split
  all_goals rfl

theorem State.moveHead_touches (c : Nat) :
    (s.moveHead c).1 =
      { s with
        credit :=
          { s.credit with
            settlements := (s.moveHead c).1.credit.settlements }
        bridge := (s.moveHead c).1.bridge } := by
  unfold State.moveHead State.fillSlot State.modChannel
  try dsimp only
  repeat' split
  all_goals rfl

theorem State.channelReady_touches (c : Nat) :
    (s.channelReady c).1 =
      { s with credit := { s.credit with maskDue := (s.channelReady c).1.credit.maskDue } } := by
  unfold State.channelReady
  try dsimp only
  repeat' split
  all_goals rfl

theorem State.takeReport_touches (c : Nat) (k : Byte) (p : List Byte) :
    (s.takeReport c k p).1 =
      { s with
        credit :=
          { s.credit with
            session := (s.takeReport c k p).1.credit.session
            carried := (s.takeReport c k p).1.credit.carried
            answer := (s.takeReport c k p).1.credit.answer
            deny := (s.takeReport c k p).1.credit.deny
            changed := (s.takeReport c k p).1.credit.changed }
        link := (s.takeReport c k p).1.link
        draws := (s.takeReport c k p).1.draws } := by
  unfold State.takeReport State.takeEscrow State.takeStacked State.takeReturned State.takeApproved State.takeCancel State.openCash State.takeCash State.carry State.modSession State.openCard State.modCash
  try dsimp only
  repeat' split
  all_goals rfl

theorem State.reportCredit_touches :
    (s.reportCredit) =
      { s with
        credit :=
          { s.credit with
            changed := (s.reportCredit).credit.changed }
        link := (s.reportCredit).link } := by
  unfold State.reportCredit
  try dsimp only
  repeat' split
  all_goals rfl

theorem State.evaluateMask_touches :
    (s.evaluateMask) =
      { s with credit := { s.credit with maskDue := (s.evaluateMask).credit.maskDue } } := by
  unfold State.evaluateMask
  try dsimp only
  repeat' split
  all_goals rfl

theorem State.pumpNotes_touches :
    (s.pumpNotes).1 =
      { s with
        credit :=
          { s.credit with
            answer := (s.pumpNotes).1.credit.answer
            maskDue := (s.pumpNotes).1.credit.maskDue
            maskLast := (s.pumpNotes).1.credit.maskLast }
        bridge := (s.pumpNotes).1.bridge } := by
  unfold State.pumpNotes State.fillSlot State.modChannel
  try dsimp only
  repeat' split
  all_goals rfl

theorem State.pumpCards_touches :
    (s.pumpCards).1 =
      { s with
        credit :=
          { s.credit with
            deny := (s.pumpCards).1.credit.deny }
        bridge := (s.pumpCards).1.bridge } := by
  unfold State.pumpCards State.fillSlot State.modChannel
  try dsimp only
  repeat' split
  all_goals rfl

theorem State.storeAssurance_touches (x : Option Nat) :
    (s.storeAssurance x) =
      { s with change := (s.storeAssurance x).change, link := (s.storeAssurance x).link } := by
  unfold State.storeAssurance
  try dsimp only
  repeat' split
  all_goals rfl

theorem State.startEvaluation_touches :
    (s.startEvaluation) =
      { s with change := (s.startEvaluation).change, link := (s.startEvaluation).link } := by
  unfold State.startEvaluation State.storeAssurance
  try dsimp only
  repeat' split
  all_goals rfl

theorem State.triggerAssurance_touches :
    (s.triggerAssurance) =
      { s with change := (s.triggerAssurance).change, link := (s.triggerAssurance).link } := by
  unfold State.triggerAssurance State.startEvaluation State.storeAssurance
  try dsimp only
  repeat' split
  all_goals rfl

theorem State.setTube_touches (n : Nat) (x : Tube) :
    (s.setTube n x) =
      { s with
        tubes := (s.setTube n x).tubes
        change := (s.setTube n x).change
        link := (s.setTube n x).link } := by
  unfold State.setTube State.triggerAssurance State.startEvaluation State.storeAssurance
  try dsimp only
  repeat' split
  all_goals rfl

theorem State.takeHandOver_touches (n : Nat) :
    (s.takeHandOver n).1 =
      { s with change := (s.takeHandOver n).1.change } := by
  unfold State.takeHandOver
  try dsimp only
  repeat' split
  all_goals rfl

theorem State.beginRun_touches (n : Nat) :
    (s.beginRun n).1 =
      { s with change := (s.beginRun n).1.change } := by
  unfold State.beginRun State.setJob
  try dsimp only
  all_goals rfl

theorem State.payNext_touches :
    (s.payNext).1 =
      { s with change := (s.payNext).1.change } := by
  unfold State.payNext State.setJob State.pulse
  try dsimp only
  repeat' split
  all_goals rfl

theorem State.tubeFails_touches (n : Nat) :
    (s.tubeFails n).1 =
      { s with
        tubes := (s.tubeFails n).1.tubes
        change := (s.tubeFails n).1.change
        link := (s.tubeFails n).1.link } := by
  unfold State.tubeFails State.setJob State.jamTube State.setTube State.triggerAssurance State.startEvaluation State.storeAssurance
  try dsimp only
  repeat' split
  all_goals rfl

theorem State.closeRun_touches :
    (s.closeRun).1 =
      { s with change := (s.closeRun).1.change, link := (s.closeRun).1.link } := by
  unfold State.closeRun State.setJob
  try dsimp only
  repeat' split
  all_goals rfl

theorem State.closeDispense_touches :
    (s.closeDispense).1 =
      { s with change := (s.closeDispense).1.change } := by
  unfold State.closeDispense State.setJob
  try dsimp only
  repeat' split
  all_goals rfl

theorem State.testDemand_touches :
    (s.testDemand).1 =
      { s with plant := (s.testDemand).1.plant } := by
  unfold State.testDemand State.setCompressor
  try dsimp only
  repeat' split
  all_goals rfl

theorem State.testStop_touches :
    (s.testStop).1 =
      { s with plant := (s.testStop).1.plant } := by
  unfold State.testStop
  try dsimp only
  repeat' split
  all_goals rfl

theorem State.testCondenser_touches :
    (s.testCondenser).1 =
      { s with plant := (s.testCondenser).1.plant } := by
  unfold State.testCondenser State.setCompressor
  try dsimp only
  repeat' split
  all_goals rfl

theorem State.testProtect_touches :
    (s.testProtect).1 =
      { s with plant := (s.testProtect).1.plant, link := (s.testProtect).1.link } := by
  unfold State.testProtect
  try dsimp only
  repeat' split
  all_goals rfl

theorem State.startGranted_touches :
    (s.startGranted).1 =
      { s with plant := (s.startGranted).1.plant } := by
  unfold State.startGranted State.setCompressor
  try dsimp only
  repeat' split
  all_goals rfl

theorem State.proceedDefrost_touches :
    (s.proceedDefrost).1 =
      { s with plant := (s.proceedDefrost).1.plant } := by
  unfold State.proceedDefrost State.setDefrost
  try dsimp only
  repeat' split
  all_goals rfl

theorem State.makeDue_touches (c : DefrostCause) :
    (s.makeDue c).1 =
      { s with plant := (s.makeDue c).1.plant, link := (s.makeDue c).1.link } := by
  unfold State.makeDue State.setDefrost State.setCompressor
  try dsimp only
  repeat' split
  all_goals rfl

theorem State.defrostGranted_touches :
    (s.defrostGranted).1 =
      { s with plant := (s.defrostGranted).1.plant } := by
  unfold State.defrostGranted State.setDefrost
  try dsimp only
  repeat' split
  all_goals rfl

theorem State.endHeating_touches (n : Nat) :
    (s.endHeating n).1 =
      { s with plant := (s.endHeating n).1.plant } := by
  unfold State.endHeating
  try dsimp only
  repeat' split
  all_goals rfl

theorem State.testDefrost_touches :
    (s.testDefrost).1 =
      { s with plant := (s.testDefrost).1.plant } := by
  unfold State.testDefrost State.endHeating
  try dsimp only
  repeat' split
  all_goals rfl

theorem State.beginDrip_touches (r h : Nat) :
    (s.beginDrip r h).1 =
      { s with link := (s.beginDrip r h).1.link } := by
  unfold State.beginDrip
  try dsimp only
  all_goals rfl

theorem State.endDrip_touches :
    (s.endDrip).1 =
      { s with plant := (s.endDrip).1.plant, link := (s.endDrip).1.link } := by
  unfold State.endDrip
  try dsimp only
  repeat' split
  all_goals rfl

theorem State.activateLockout_touches (c : Nat) :
    (s.activateLockout c).1 =
      { s with plant := (s.activateLockout c).1.plant, link := (s.activateLockout c).1.link } := by
  unfold State.activateLockout
  try dsimp only
  repeat' split
  all_goals rfl

theorem State.testExposure_touches :
    (s.testExposure).1 =
      { s with plant := (s.testExposure).1.plant, link := (s.testExposure).1.link } := by
  unfold State.testExposure State.activateLockout
  try dsimp only
  repeat' split
  all_goals rfl

theorem State.takeStep_touches :
    (s.takeStep).1 =
      { s with plant := (s.takeStep).1.plant, link := (s.takeStep).1.link } := by
  unfold State.takeStep
  try dsimp only
  repeat' split
  all_goals rfl

theorem State.endIntervals_touches (n : Nat) :
    (s.endIntervals n).1 =
      { s with plant := (s.endIntervals n).1.plant, load := (s.endIntervals n).1.load } := by
  unfold State.endIntervals State.shrinkStart State.endHeating State.setCompressor
  try dsimp only
  repeat' split
  all_goals rfl

theorem State.startWork_touches (n : Nat) (j : WorkItem) :
    (s.startWork n j) =
      { s with bridge := (s.startWork n j).bridge, draws := (s.startWork n j).draws } := by
  unfold State.startWork State.modChannel
  try dsimp only
  all_goals rfl

theorem State.lookForWork_touches :
    (s.lookForWork) =
      { s with bridge := (s.lookForWork).bridge, draws := (s.lookForWork).draws } := by
  unfold State.lookForWork State.startWork State.modChannel
  try dsimp only
  repeat' split
  all_goals rfl

theorem State.failHost_touches (n : Nat) (f : HostFrame) (w : Reason) :
    (s.failHost n f w) =
      { s with link := (s.failHost n f w).link } := by
  unfold State.failHost
  try dsimp only
  repeat' split
  all_goals rfl

theorem State.answerHost_touches (n : Nat) (f : HostFrame) (r : Frame) :
    (s.answerHost n f r) =
      { s with link := (s.answerHost n f r).link } := by
  unfold State.answerHost
  try dsimp only
  repeat' split
  all_goals rfl

theorem State.failHead_touches (n : Nat) :
    (s.failHead n) =
      { s with link := (s.failHead n).link, bridge := (s.failHead n).bridge } := by
  unfold State.failHead State.dequeue State.failHost State.modChannel
  try dsimp only
  repeat' split
  all_goals rfl

theorem State.loadApplied_touches (k : TableKind) (a b c : Nat) :
    (s.loadApplied k a b c) =
      { s with tables := (s.loadApplied k a b c).tables, link := (s.loadApplied k a b c).link } := by
  unfold State.loadApplied
  try dsimp only
  all_goals rfl

theorem State.receiveCash_touches (k : Cash) (n : Nat) :
    (s.receiveCash k n) =
      { s with
        credit :=
          { s.credit with
            session := (s.receiveCash k n).credit.session
            carried := (s.receiveCash k n).credit.carried
            changed := (s.receiveCash k n).credit.changed } } := by
  unfold State.receiveCash
  split
  · obtain ⟨a, b, c, h⟩ : ∃ a b c, s.openCash = { s with credit := { s.credit with session := a, carried := b, changed := c } } :=
      ⟨_, _, _, s.openCash_touches⟩
    rw [h]
    exact State.takeCash_touches _ k n
  · exact s.takeCash_touches k n

theorem State.completeEvaluation_touches (e : EvalInput) :
    (s.completeEvaluation e) =
      { s with change := (s.completeEvaluation e).change, link := (s.completeEvaluation e).link } := by
  have h : ∀ x : State, ∃ a b, x.startEvaluation = { x with change := a, link := b } :=
    fun x => ⟨_, _, x.startEvaluation_touches⟩
  obtain ⟨a, b, h1⟩ : ∃ a b, s.storeAssurance e.shortAmount = { s with change := a, link := b } :=
    ⟨_, _, s.storeAssurance_touches _⟩
  unfold State.completeEvaluation
  rw [h1]
  dsimp only [State.modChange]
  split
  · obtain ⟨c, d, h2⟩ := h { s with change := { { a with evaluating := none } with rerun := false }, link := b }
    rw [h2]
  · rfl

theorem State.coinOutOfTube_touches (n : Nat) :
    (s.coinOutOfTube n) =
      { s with tubes := (s.coinOutOfTube n).tubes, change := (s.coinOutOfTube n).change, link := (s.coinOutOfTube n).link } :=
  s.setTube_touches n _

theorem State.confirmPaid_touches (n : Nat) :
    (s.confirmPaid n).1 =
      { s with
        tubes := (s.confirmPaid n).1.tubes
        change := (s.confirmPaid n).1.change
        link := (s.confirmPaid n).1.link
        credit :=
          { s.credit with
            session := (s.confirmPaid n).1.credit.session
            changed := (s.confirmPaid n).1.credit.changed } } := by
  obtain ⟨a, b, c, h⟩ : ∃ a b c, s.coinOutOfTube n = { s with tubes := a, change := b, link := c } :=
    ⟨_, _, _, s.coinOutOfTube_touches n⟩
  unfold State.confirmPaid
  rw [h]
  dsimp only [State.setJob, State.payBack, State.modSession, State.modCash, State.modChange, State.modCredit]
  split <;> rfl

end Touches

end Sys2Proof.Machine
end

