-- ==== Sys2Proof/Laws/Conclude.lean ====
section
/-! SUPPORT. What the end of a command leaves as it was (`State.conclude`), and how the acts of a command unfold one by one. -/

namespace Sys2Proof.Machine

section Conclude

variable (s : State)

/-- The end of a command touches the holds, the report of credit, one channel's slot with the bus, and the Notice Queue. -/
theorem State.conclude_touches :
    s.conclude =
      { s with
        draws := s.conclude.draws
        credit :=
          { s.credit with
            answer := s.conclude.credit.answer
            maskDue := s.conclude.credit.maskDue
            maskLast := s.conclude.credit.maskLast
            deny := s.conclude.credit.deny
            changed := s.conclude.credit.changed }
        bridge := s.conclude.bridge
        link := s.conclude.link } := by
  obtain ⟨a, b, h1⟩ : ∃ a b, s.reportCredit = { s with credit := { s.credit with changed := a }, link := b } :=
    ⟨_, _, s.reportCredit_touches⟩
  have h2 : ∀ x : State, ∃ a, x.evaluateMask = { x with credit := { x.credit with maskDue := a } } :=
    fun x => ⟨_, x.evaluateMask_touches⟩
  have h3 : ∀ x : State, ∃ a b c d, x.pumpNotes.1 =
      { x with credit := { x.credit with answer := a, maskDue := b, maskLast := c }, bridge := d } :=
    fun x => ⟨_, _, _, _, x.pumpNotes_touches⟩
  have h4 : ∀ x : State, ∃ a b, x.pumpCards.1 = { x with credit := { x.credit with deny := a }, bridge := b } :=
    fun x => ⟨_, _, x.pumpCards_touches⟩
  have h5 : ∀ x : State, ∃ a b, x.lookForWork = { x with bridge := a, draws := b } :=
    fun x => ⟨_, _, x.lookForWork_touches⟩
  unfold State.conclude
  obtain ⟨c, h2⟩ := h2 s.reportCredit
  obtain ⟨d, e, f, g, h3⟩ := h3 s.reportCredit.evaluateMask
  obtain ⟨i, j, h4⟩ := h4 s.reportCredit.evaluateMask.pumpNotes.1
  obtain ⟨k, l, h5⟩ := h5 s.reportCredit.evaluateMask.pumpNotes.1.pumpCards.1
  dsimp only
  split
  · rw [h5, h4, h3, h2, h1]
  · rw [h4, h3, h2, h1]

@[simp] theorem State.conclude_now : s.conclude.now = s.now := by rw [s.conclude_touches]
@[simp] theorem State.conclude_pins : s.conclude.pins = s.pins := by rw [s.conclude_touches]
@[simp] theorem State.conclude_coin : s.conclude.coin = s.coin := by rw [s.conclude_touches]
@[simp] theorem State.conclude_tubes : s.conclude.tubes = s.tubes := by rw [s.conclude_touches]
@[simp] theorem State.conclude_policy : s.conclude.credit.policy = s.credit.policy := by rw [s.conclude_touches]
@[simp] theorem State.conclude_noteTable : s.conclude.credit.notes = s.credit.notes := by rw [s.conclude_touches]
@[simp] theorem State.conclude_session : s.conclude.credit.session = s.credit.session := by rw [s.conclude_touches]
@[simp] theorem State.conclude_carried : s.conclude.credit.carried = s.credit.carried := by rw [s.conclude_touches]
@[simp] theorem State.conclude_settlements : s.conclude.credit.settlements = s.credit.settlements := by
  rw [s.conclude_touches]
@[simp] theorem State.conclude_change : s.conclude.change = s.change := by rw [s.conclude_touches]
@[simp] theorem State.conclude_sales : s.conclude.sales = s.sales := by rw [s.conclude_touches]
@[simp] theorem State.conclude_drive : s.conclude.drive = s.drive := by rw [s.conclude_touches]
@[simp] theorem State.conclude_plant : s.conclude.plant = s.plant := by rw [s.conclude_touches]
@[simp] theorem State.conclude_load : s.conclude.load = s.load := by rw [s.conclude_touches]
@[simp] theorem State.conclude_tables : s.conclude.tables = s.tables := by rw [s.conclude_touches]
@[simp] theorem State.conclude_pending : s.conclude.pending = s.pending := by rw [s.conclude_touches]

/-- The end of a command reaches the Link Interface through CREDIT_CHANGED alone. -/
theorem State.conclude_link : s.conclude.link = s.reportCredit.link := by
  have h2 : s.reportCredit.evaluateMask.link = s.reportCredit.link := by rw [State.evaluateMask_touches]
  have h3 : ∀ x : State, x.pumpNotes.1.link = x.link := fun x => by rw [x.pumpNotes_touches]
  have h4 : ∀ x : State, x.pumpCards.1.link = x.link := fun x => by rw [x.pumpCards_touches]
  have h5 : ∀ x : State, x.lookForWork.link = x.link := fun x => by rw [x.lookForWork_touches]
  unfold State.conclude
  dsimp only
  split
  · rw [h5, h4, h3, h2]
  · rw [h4, h3, h2]

theorem State.reportCredit_of_reported (h : s.credit.changed = false) : s.reportCredit = s := by
  simp [State.reportCredit, h]

theorem State.conclude_link_of_reported (h : s.credit.changed = false) : s.conclude.link = s.link := by
  rw [s.conclude_link, s.reportCredit_of_reported h]

theorem State.reportCredit_link_of_changed (h : s.credit.changed = true) :
    s.reportCredit.link = (s.raise .creditChanged none s.creditValues).link := by
  simp [State.reportCredit, h]

/-- No change of credit is left unreported at the end of a command. -/
@[simp] theorem State.conclude_changed : s.conclude.credit.changed = false := by
  have h1 : s.reportCredit.credit.changed = false := by
    unfold State.reportCredit
    split <;> simp_all
  have h2 : s.reportCredit.evaluateMask.credit.changed = s.reportCredit.credit.changed := by
    rw [State.evaluateMask_touches]
  have h3 : ∀ x : State, x.pumpNotes.1.credit.changed = x.credit.changed := fun x => by rw [x.pumpNotes_touches]
  have h4 : ∀ x : State, x.pumpCards.1.credit.changed = x.credit.changed := fun x => by rw [x.pumpCards_touches]
  have h5 : ∀ x : State, x.lookForWork.credit.changed = x.credit.changed := fun x => by rw [x.lookForWork_touches]
  unfold State.conclude
  dsimp only
  split
  · rw [h5, h4, h3, h2, h1]
  · rw [h4, h3, h2, h1]

theorem LinkUnit.push_keeps (l : LinkUnit) (n : Notice) :
    (l.push n).rx = l.rx ∧ (l.push n).sent = l.sent ∧ (l.push n).floor = l.floor ∧ (l.push n).errors = l.errors
      ∧ (l.push n).reported = l.reported := by
  unfold LinkUnit.push
  repeat' split
  all_goals simp

@[simp] theorem LinkUnit.push_rx (l : LinkUnit) (n : Notice) : (l.push n).rx = l.rx := (l.push_keeps n).1
@[simp] theorem LinkUnit.push_sent (l : LinkUnit) (n : Notice) : (l.push n).sent = l.sent := (l.push_keeps n).2.1
@[simp] theorem LinkUnit.push_floor (l : LinkUnit) (n : Notice) : (l.push n).floor = l.floor := (l.push_keeps n).2.2.1
@[simp] theorem LinkUnit.push_errors (l : LinkUnit) (n : Notice) : (l.push n).errors = l.errors := (l.push_keeps n).2.2.2.1
@[simp] theorem LinkUnit.push_reported (l : LinkUnit) (n : Notice) : (l.push n).reported = l.reported := (l.push_keeps n).2.2.2.2

/-- The Notice Queue and the dropped count after a notice, from the queue, the floor and the dropped count before it. -/
def queueAfter (q : List Notice) (floor dropped : Nat) (n : Notice) : List Notice × Nat :=
  if n.kind.level < floor then (q, dropped)
  else if q.length < Config.noticeMax then (q ++ [n], dropped)
  else if lowestLevel q < n.kind.level then (dropNewest (lowestLevel q) q ++ [n], stopAt 255 dropped 1)
  else (q, stopAt 255 dropped 1)

@[simp] theorem LinkUnit.push_notices (l : LinkUnit) (n : Notice) :
    (l.push n).notices = (queueAfter l.notices l.floor l.dropped n).1 := by
  unfold LinkUnit.push queueAfter
  repeat' split
  all_goals rfl

@[simp] theorem LinkUnit.push_dropped (l : LinkUnit) (n : Notice) :
    (l.push n).dropped = (queueAfter l.notices l.floor l.dropped n).2 := by
  unfold LinkUnit.push queueAfter
  repeat' split
  all_goals rfl

theorem State.reportCredit_link_keeps :
    s.reportCredit.link.rx = s.link.rx ∧ s.reportCredit.link.sent = s.link.sent
      ∧ s.reportCredit.link.floor = s.link.floor ∧ s.reportCredit.link.errors = s.link.errors
      ∧ s.reportCredit.link.reported = s.link.reported := by
  unfold State.reportCredit
  split
  · simp
  · simp

@[simp] theorem State.conclude_rx : s.conclude.link.rx = s.link.rx := by
  rw [s.conclude_link, s.reportCredit_link_keeps.1]
@[simp] theorem State.conclude_sent : s.conclude.link.sent = s.link.sent := by
  rw [s.conclude_link, s.reportCredit_link_keeps.2.1]
@[simp] theorem State.conclude_floor : s.conclude.link.floor = s.link.floor := by
  rw [s.conclude_link, s.reportCredit_link_keeps.2.2.1]
@[simp] theorem State.conclude_errors : s.conclude.link.errors = s.link.errors := by
  rw [s.conclude_link, s.reportCredit_link_keeps.2.2.2.1]
@[simp] theorem State.conclude_reported : s.conclude.link.reported = s.link.reported := by
  rw [s.conclude_link, s.reportCredit_link_keeps.2.2.2.2]

end Conclude

/-- The first act of a list, with fuel left. -/
theorem settle_cons {n : Nat} (h : n ≠ 0) (a : Act) (acts : List Act) (s : State) :
    settle n (a :: acts) s = settle (n - 1) ((perform a s).2 ++ acts) (perform a s).1 := by
  obtain ⟨m, rfl⟩ := Nat.exists_eq_succ_of_ne_zero h
  rfl

end Sys2Proof.Machine
end

