-- ==== Sys2Proof/Laws/Assurance.lean ====
section
/-! SUPPORT. What an assurance evaluation and a change of a Tube record leave as they were (Machine/Change.lean). -/

namespace Sys2Proof.Machine

section Assurance

variable (s : State)

@[simp] theorem State.storeAssurance_now (x : Option Nat) : (s.storeAssurance x).now = s.now := by
  unfold State.storeAssurance; dsimp only; split <;> rfl
@[simp] theorem State.storeAssurance_draws (x : Option Nat) : (s.storeAssurance x).draws = s.draws := by
  unfold State.storeAssurance; dsimp only; split <;> rfl
@[simp] theorem State.storeAssurance_pins (x : Option Nat) : (s.storeAssurance x).pins = s.pins := by
  unfold State.storeAssurance; dsimp only; split <;> rfl
@[simp] theorem State.storeAssurance_coin (x : Option Nat) : (s.storeAssurance x).coin = s.coin := by
  unfold State.storeAssurance; dsimp only; split <;> rfl
@[simp] theorem State.storeAssurance_tubes (x : Option Nat) : (s.storeAssurance x).tubes = s.tubes := by
  unfold State.storeAssurance; dsimp only; split <;> rfl
@[simp] theorem State.storeAssurance_credit (x : Option Nat) : (s.storeAssurance x).credit = s.credit := by
  unfold State.storeAssurance; dsimp only; split <;> rfl
@[simp] theorem State.storeAssurance_sales (x : Option Nat) : (s.storeAssurance x).sales = s.sales := by
  unfold State.storeAssurance; dsimp only; split <;> rfl
@[simp] theorem State.storeAssurance_drive (x : Option Nat) : (s.storeAssurance x).drive = s.drive := by
  unfold State.storeAssurance; dsimp only; split <;> rfl
@[simp] theorem State.storeAssurance_plant (x : Option Nat) : (s.storeAssurance x).plant = s.plant := by
  unfold State.storeAssurance; dsimp only; split <;> rfl
@[simp] theorem State.storeAssurance_load (x : Option Nat) : (s.storeAssurance x).load = s.load := by
  unfold State.storeAssurance; dsimp only; split <;> rfl
@[simp] theorem State.storeAssurance_bridge (x : Option Nat) : (s.storeAssurance x).bridge = s.bridge := by
  unfold State.storeAssurance; dsimp only; split <;> rfl
@[simp] theorem State.storeAssurance_tables (x : Option Nat) : (s.storeAssurance x).tables = s.tables := by
  unfold State.storeAssurance; dsimp only; split <;> rfl
@[simp] theorem State.storeAssurance_pending (x : Option Nat) : (s.storeAssurance x).pending = s.pending := by
  unfold State.storeAssurance; dsimp only; split <;> rfl
@[simp] theorem State.storeAssurance_maxPrice (x : Option Nat) : (s.storeAssurance x).change.maxPrice = s.change.maxPrice := by
  unfold State.storeAssurance; dsimp only; split <;> simp
@[simp] theorem State.storeAssurance_seq (x : Option Nat) : (s.storeAssurance x).change.seq = s.change.seq := by
  unfold State.storeAssurance; dsimp only; split <;> simp
@[simp] theorem State.storeAssurance_job (x : Option Nat) : (s.storeAssurance x).change.job = s.change.job := by
  unfold State.storeAssurance; dsimp only; split <;> simp
@[simp] theorem State.storeAssurance_deferred (x : Option Nat) : (s.storeAssurance x).change.deferred = s.change.deferred := by
  unfold State.storeAssurance; dsimp only; split <;> simp
@[simp] theorem State.storeAssurance_pulses (x : Option Nat) : (s.storeAssurance x).change.pulses = s.change.pulses := by
  unfold State.storeAssurance; dsimp only; split <;> simp
@[simp] theorem State.storeAssurance_rx (x : Option Nat) : (s.storeAssurance x).link.rx = s.link.rx := by
  unfold State.storeAssurance; dsimp only; split <;> simp
@[simp] theorem State.storeAssurance_sent (x : Option Nat) : (s.storeAssurance x).link.sent = s.link.sent := by
  unfold State.storeAssurance; dsimp only; split <;> simp
@[simp] theorem State.storeAssurance_floor (x : Option Nat) : (s.storeAssurance x).link.floor = s.link.floor := by
  unfold State.storeAssurance; dsimp only; split <;> simp
@[simp] theorem State.storeAssurance_errors (x : Option Nat) : (s.storeAssurance x).link.errors = s.link.errors := by
  unfold State.storeAssurance; dsimp only; split <;> simp
@[simp] theorem State.storeAssurance_reported (x : Option Nat) : (s.storeAssurance x).link.reported = s.link.reported := by
  unfold State.storeAssurance; dsimp only; split <;> simp
@[simp] theorem State.startEvaluation_now : (s.startEvaluation).now = s.now := by
  unfold State.startEvaluation; split <;> simp
@[simp] theorem State.startEvaluation_draws : (s.startEvaluation).draws = s.draws := by
  unfold State.startEvaluation; split <;> simp
@[simp] theorem State.startEvaluation_pins : (s.startEvaluation).pins = s.pins := by
  unfold State.startEvaluation; split <;> simp
@[simp] theorem State.startEvaluation_coin : (s.startEvaluation).coin = s.coin := by
  unfold State.startEvaluation; split <;> simp
@[simp] theorem State.startEvaluation_tubes : (s.startEvaluation).tubes = s.tubes := by
  unfold State.startEvaluation; split <;> simp
@[simp] theorem State.startEvaluation_credit : (s.startEvaluation).credit = s.credit := by
  unfold State.startEvaluation; split <;> simp
@[simp] theorem State.startEvaluation_sales : (s.startEvaluation).sales = s.sales := by
  unfold State.startEvaluation; split <;> simp
@[simp] theorem State.startEvaluation_drive : (s.startEvaluation).drive = s.drive := by
  unfold State.startEvaluation; split <;> simp
@[simp] theorem State.startEvaluation_plant : (s.startEvaluation).plant = s.plant := by
  unfold State.startEvaluation; split <;> simp
@[simp] theorem State.startEvaluation_load : (s.startEvaluation).load = s.load := by
  unfold State.startEvaluation; split <;> simp
@[simp] theorem State.startEvaluation_bridge : (s.startEvaluation).bridge = s.bridge := by
  unfold State.startEvaluation; split <;> simp
@[simp] theorem State.startEvaluation_tables : (s.startEvaluation).tables = s.tables := by
  unfold State.startEvaluation; split <;> simp
@[simp] theorem State.startEvaluation_pending : (s.startEvaluation).pending = s.pending := by
  unfold State.startEvaluation; split <;> simp
@[simp] theorem State.startEvaluation_maxPrice : (s.startEvaluation).change.maxPrice = s.change.maxPrice := by
  unfold State.startEvaluation; split <;> simp
@[simp] theorem State.startEvaluation_seq : (s.startEvaluation).change.seq = s.change.seq := by
  unfold State.startEvaluation; split <;> simp
@[simp] theorem State.startEvaluation_job : (s.startEvaluation).change.job = s.change.job := by
  unfold State.startEvaluation; split <;> simp
@[simp] theorem State.startEvaluation_deferred : (s.startEvaluation).change.deferred = s.change.deferred := by
  unfold State.startEvaluation; split <;> simp
@[simp] theorem State.startEvaluation_pulses : (s.startEvaluation).change.pulses = s.change.pulses := by
  unfold State.startEvaluation; split <;> simp
@[simp] theorem State.startEvaluation_rx : (s.startEvaluation).link.rx = s.link.rx := by
  unfold State.startEvaluation; split <;> simp
@[simp] theorem State.startEvaluation_sent : (s.startEvaluation).link.sent = s.link.sent := by
  unfold State.startEvaluation; split <;> simp
@[simp] theorem State.startEvaluation_floor : (s.startEvaluation).link.floor = s.link.floor := by
  unfold State.startEvaluation; split <;> simp
@[simp] theorem State.startEvaluation_errors : (s.startEvaluation).link.errors = s.link.errors := by
  unfold State.startEvaluation; split <;> simp
@[simp] theorem State.startEvaluation_reported : (s.startEvaluation).link.reported = s.link.reported := by
  unfold State.startEvaluation; split <;> simp
@[simp] theorem State.triggerAssurance_now : (s.triggerAssurance).now = s.now := by
  unfold State.triggerAssurance; split <;> simp
@[simp] theorem State.triggerAssurance_draws : (s.triggerAssurance).draws = s.draws := by
  unfold State.triggerAssurance; split <;> simp
@[simp] theorem State.triggerAssurance_pins : (s.triggerAssurance).pins = s.pins := by
  unfold State.triggerAssurance; split <;> simp
@[simp] theorem State.triggerAssurance_coin : (s.triggerAssurance).coin = s.coin := by
  unfold State.triggerAssurance; split <;> simp
@[simp] theorem State.triggerAssurance_tubes : (s.triggerAssurance).tubes = s.tubes := by
  unfold State.triggerAssurance; split <;> simp
@[simp] theorem State.triggerAssurance_credit : (s.triggerAssurance).credit = s.credit := by
  unfold State.triggerAssurance; split <;> simp
@[simp] theorem State.triggerAssurance_sales : (s.triggerAssurance).sales = s.sales := by
  unfold State.triggerAssurance; split <;> simp
@[simp] theorem State.triggerAssurance_drive : (s.triggerAssurance).drive = s.drive := by
  unfold State.triggerAssurance; split <;> simp
@[simp] theorem State.triggerAssurance_plant : (s.triggerAssurance).plant = s.plant := by
  unfold State.triggerAssurance; split <;> simp
@[simp] theorem State.triggerAssurance_load : (s.triggerAssurance).load = s.load := by
  unfold State.triggerAssurance; split <;> simp
@[simp] theorem State.triggerAssurance_bridge : (s.triggerAssurance).bridge = s.bridge := by
  unfold State.triggerAssurance; split <;> simp
@[simp] theorem State.triggerAssurance_tables : (s.triggerAssurance).tables = s.tables := by
  unfold State.triggerAssurance; split <;> simp
@[simp] theorem State.triggerAssurance_pending : (s.triggerAssurance).pending = s.pending := by
  unfold State.triggerAssurance; split <;> simp
@[simp] theorem State.triggerAssurance_maxPrice : (s.triggerAssurance).change.maxPrice = s.change.maxPrice := by
  unfold State.triggerAssurance; split <;> simp
@[simp] theorem State.triggerAssurance_seq : (s.triggerAssurance).change.seq = s.change.seq := by
  unfold State.triggerAssurance; split <;> simp
@[simp] theorem State.triggerAssurance_job : (s.triggerAssurance).change.job = s.change.job := by
  unfold State.triggerAssurance; split <;> simp
@[simp] theorem State.triggerAssurance_deferred : (s.triggerAssurance).change.deferred = s.change.deferred := by
  unfold State.triggerAssurance; split <;> simp
@[simp] theorem State.triggerAssurance_pulses : (s.triggerAssurance).change.pulses = s.change.pulses := by
  unfold State.triggerAssurance; split <;> simp
@[simp] theorem State.triggerAssurance_rx : (s.triggerAssurance).link.rx = s.link.rx := by
  unfold State.triggerAssurance; split <;> simp
@[simp] theorem State.triggerAssurance_sent : (s.triggerAssurance).link.sent = s.link.sent := by
  unfold State.triggerAssurance; split <;> simp
@[simp] theorem State.triggerAssurance_floor : (s.triggerAssurance).link.floor = s.link.floor := by
  unfold State.triggerAssurance; split <;> simp
@[simp] theorem State.triggerAssurance_errors : (s.triggerAssurance).link.errors = s.link.errors := by
  unfold State.triggerAssurance; split <;> simp
@[simp] theorem State.triggerAssurance_reported : (s.triggerAssurance).link.reported = s.link.reported := by
  unfold State.triggerAssurance; split <;> simp
@[simp] theorem State.setTube_now (n : Nat) (x : Tube) : (s.setTube n x).now = s.now := by
  unfold State.setTube; dsimp only; split <;> simp
@[simp] theorem State.setTube_draws (n : Nat) (x : Tube) : (s.setTube n x).draws = s.draws := by
  unfold State.setTube; dsimp only; split <;> simp
@[simp] theorem State.setTube_pins (n : Nat) (x : Tube) : (s.setTube n x).pins = s.pins := by
  unfold State.setTube; dsimp only; split <;> simp
@[simp] theorem State.setTube_coin (n : Nat) (x : Tube) : (s.setTube n x).coin = s.coin := by
  unfold State.setTube; dsimp only; split <;> simp
@[simp] theorem State.setTube_credit (n : Nat) (x : Tube) : (s.setTube n x).credit = s.credit := by
  unfold State.setTube; dsimp only; split <;> simp
@[simp] theorem State.setTube_sales (n : Nat) (x : Tube) : (s.setTube n x).sales = s.sales := by
  unfold State.setTube; dsimp only; split <;> simp
@[simp] theorem State.setTube_drive (n : Nat) (x : Tube) : (s.setTube n x).drive = s.drive := by
  unfold State.setTube; dsimp only; split <;> simp
@[simp] theorem State.setTube_plant (n : Nat) (x : Tube) : (s.setTube n x).plant = s.plant := by
  unfold State.setTube; dsimp only; split <;> simp
@[simp] theorem State.setTube_load (n : Nat) (x : Tube) : (s.setTube n x).load = s.load := by
  unfold State.setTube; dsimp only; split <;> simp
@[simp] theorem State.setTube_bridge (n : Nat) (x : Tube) : (s.setTube n x).bridge = s.bridge := by
  unfold State.setTube; dsimp only; split <;> simp
@[simp] theorem State.setTube_tables (n : Nat) (x : Tube) : (s.setTube n x).tables = s.tables := by
  unfold State.setTube; dsimp only; split <;> simp
@[simp] theorem State.setTube_pending (n : Nat) (x : Tube) : (s.setTube n x).pending = s.pending := by
  unfold State.setTube; dsimp only; split <;> simp
@[simp] theorem State.setTube_maxPrice (n : Nat) (x : Tube) : (s.setTube n x).change.maxPrice = s.change.maxPrice := by
  unfold State.setTube; dsimp only; split <;> simp
@[simp] theorem State.setTube_seq (n : Nat) (x : Tube) : (s.setTube n x).change.seq = s.change.seq := by
  unfold State.setTube; dsimp only; split <;> simp
@[simp] theorem State.setTube_job (n : Nat) (x : Tube) : (s.setTube n x).change.job = s.change.job := by
  unfold State.setTube; dsimp only; split <;> simp
@[simp] theorem State.setTube_deferred (n : Nat) (x : Tube) : (s.setTube n x).change.deferred = s.change.deferred := by
  unfold State.setTube; dsimp only; split <;> simp
@[simp] theorem State.setTube_pulses (n : Nat) (x : Tube) : (s.setTube n x).change.pulses = s.change.pulses := by
  unfold State.setTube; dsimp only; split <;> simp
@[simp] theorem State.setTube_rx (n : Nat) (x : Tube) : (s.setTube n x).link.rx = s.link.rx := by
  unfold State.setTube; dsimp only; split <;> simp
@[simp] theorem State.setTube_sent (n : Nat) (x : Tube) : (s.setTube n x).link.sent = s.link.sent := by
  unfold State.setTube; dsimp only; split <;> simp
@[simp] theorem State.setTube_floor (n : Nat) (x : Tube) : (s.setTube n x).link.floor = s.link.floor := by
  unfold State.setTube; dsimp only; split <;> simp
@[simp] theorem State.setTube_errors (n : Nat) (x : Tube) : (s.setTube n x).link.errors = s.link.errors := by
  unfold State.setTube; dsimp only; split <;> simp
@[simp] theorem State.setTube_reported (n : Nat) (x : Tube) : (s.setTube n x).link.reported = s.link.reported := by
  unfold State.setTube; dsimp only; split <;> simp
@[simp] theorem State.setTube_tubes (n : Nat) (x : Tube) :
    (s.setTube n x).tubes = editAt (fun _ => x) (n - 1) s.tubes := by
  unfold State.setTube; dsimp only; split <;> simp

/-- Putting a constant at an index is `List.set`. -/
theorem editAt_const {α : Type} (x : α) : ∀ (n : Nat) (l : List α), editAt (fun _ => x) n l = l.set n x
  | _, [] => by simp [editAt]
  | 0, _ :: _ => by simp [editAt]
  | n + 1, _ :: l => by simp [editAt, editAt_const x n l]

theorem mem_editAt {α : Type} (f : α → α) {x : α} :
    ∀ {n : Nat} {l : List α}, x ∈ editAt f n l → x ∈ l ∨ ∃ y ∈ l, x = f y
  | _, [], h => by simp [editAt] at h
  | 0, a :: l, h => by
    simp only [editAt, List.mem_cons] at h
    rcases h with h | h
    · exact .inr ⟨a, by simp, h⟩
    · exact .inl (by simp [h])
  | n + 1, a :: l, h => by
    simp only [editAt, List.mem_cons] at h
    rcases h with h | h
    · exact .inl (by simp [h])
    · rcases mem_editAt f h with h | ⟨y, hy, h⟩
      · exact .inl (by simp [h])
      · exact .inr ⟨y, by simp [hy], h⟩

@[simp] theorem editAt_length {α : Type} (f : α → α) : ∀ (n : Nat) (l : List α), (editAt f n l).length = l.length
  | _, [] => by simp [editAt]
  | 0, _ :: _ => by simp [editAt]
  | n + 1, _ :: l => by simp [editAt, editAt_length f n l]

theorem editAt_getElem? {α : Type} (f : α → α) :
    ∀ (n i : Nat) (l : List α), (editAt f n l)[i]? = if i = n then l[i]?.map f else l[i]?
  | n, i, [] => by simp [editAt]
  | 0, 0, _ :: _ => by simp [editAt]
  | 0, i + 1, _ :: _ => by simp [editAt]
  | n + 1, 0, _ :: _ => by simp [editAt]
  | n + 1, i + 1, _ :: l => by simp [editAt, editAt_getElem? f n i l]

end Assurance

end Sys2Proof.Machine
end

