-- ==== Sys2Proof/Tests/Slice0.lean ====
section
/-! SUPPORT. The model's own tests: an ill-formed term for each check of WellFormed, the worked examples of spec/ that fit one
step, and for every statement with hypotheses a concrete state and operands that meet them. -/

namespace Sys2Proof.Tests

open Sys2Proof Sys2Proof.Machine

/-! ### Helpers -/

/-- The machine after reset in a mode. -/
def inMode (m : Mode) : State := { State.reset with tables := { State.reset.tables with mode := m } }

/-- A fragment of the state a command leaves; none for a fault or a refusal. -/
def after {α : Type} (i : Instr) (s : State) (f : State → α) : Option α :=
  match exec i s with
  | .next t => some (f t)
  | .fault _ => none
  | .refused _ => none

/-- An OPEN cash session that has taken `n` in coins. -/
def cashOf (n : Nat) : Session := { Session.reset with state := .opened, funding := .cash, coinIn := n }

/-- An OPEN card session on channel 1. -/
def cardOf (limit : Nat) : Session :=
  { Session.reset with state := .opened, funding := .card, card := some { channel := 1, limit := limit } }

def withSession (x : Session) (s : State) : State := { s with credit := { s.credit with session := x } }

def priced (p price : Nat) (h : HealthClass) (s : State) : State :=
  { s with
    sales :=
      { s.sales with selections := s.sales.selections.set p { s.selection p with price := price, health := h } } }

/-- Coin entry 0: value 50, windows 100-200, route tube 1, which names it and holds 5 of 20. -/
def coin0 : CoinEntry :=
  { enabled := true, value := 50, size := ⟨100, 200⟩, alloy := ⟨100, 200⟩, thickness := ⟨100, 200⟩, route := .tube 1,
    accepted := 0 }

def tubeOf (count : Nat) (st : TubeState) : Tube :=
  { entry := some 0, capacity := 20, keep := 0, lowMark := 2, count := count, state := st, jamCount := 0, covered := true }

def stocked (s : State) : State :=
  { s with
    coin := { s.coin with table := coin0 :: List.replicate 11 .reset }
    tubes := tubeOf 5 .normal :: List.replicate 4 (.reset false) }

/-- A machine in SALES with coins, with position 0 (group A) at 100 and position 32 (group B) at 150. -/
def shop : State := priced 32 150 .ambient (priced 0 100 .ambient (stocked (inMode .sales)))

/-- The vend of position 0 in a stage. -/
def vendIn (st : VendState) : Vend :=
  { id := 0, position := 0, price := 100, funding := .cash, request := 7, state := st, turnsMade := 1, droppedEarly := false,
    result := none }

/-- The turn of a position. -/
def turnOf (p : Nat) (o : Owner) : Turn :=
  { position := p, owner := o, energizedAt := 0, home := .away, sampleAt := 10 }

/-- The shop with a cash session of 100 and one vend in a stage, its group in a state. -/
def vending (st : VendState) (g : GroupState) : State :=
  let s := withSession (cashOf 100) shop
  { s with
    sales := { s.sales with vends := [vendIn st], started := [0], nextId := 1 }
    drive := { s.drive with a := { s.drive.a with state := g } }
    load := { s.load with granted := [{ kind := .motor .a, owner := .vend, units := 15, since := 0, arrival := 0 }] } }

/-- A state of the plant in which the sensors read `cab`, `coil` and `cond`. -/
def readings (cab coil cond : Int) (s : State) : State :=
  let x := fun t : Int => ({ state := .valid, temp := some t, badRun := 0, lastFault := none } : Sensor)
  { s with plant := { s.plant with cab := x cab, coil := x coil, cond := x cond } }

def withPlant (c : Compressor) (d : Defrost) (s : State) : State :=
  { s with plant := { s.plant with compressor := c, defrost := d } }

/-- Channel 0 enabled with alias 2, node 5 and a role. -/
def channelOf (r : Role) (st : ChannelState) : Channel :=
  { Channel.reset with
    cfg := { hostNode := 2, node := 5, role := r, allocation := 2, early := false, pollInterval := 4, missLimit := 3,
             timeout := 20 }
    state := st }

def withChannel (c : Channel) (l : Line) (s : State) : State :=
  { s with bridge := { s.bridge with channels := c :: List.replicate 3 .reset, line := l } }

/-- A transaction of channel 0. -/
def txn (w : Work) : Txn := { channel := 0, work := w, node := 5, seq := 9, sentAt := 0 }

/-- The machine with a table kind's buffer OPEN at index 0 with these entries. -/
def staged (k : TableKind) (es : List (List Byte)) (extent : Nat) (s : State) : State :=
  { s with tables := { s.tables with staging := .opened { kind := k, first := k.firstIndex, entries := es, extent := extent } } }

/-! ### WellFormed refuses an ill-formed term of each check -/

theorem test_wellFormed_coin_range : (Instr.coinSignature 1024 0 0).wellFormed = false := by decide
theorem test_wellFormed_low_sensor_tube : (Instr.lowSensorChange 6 true).wellFormed = false := by decide
theorem test_wellFormed_start_order : (Instr.dropWindowExpiry 0).wellFormed = false := by decide
theorem test_wellFormed_home_leave : (Instr.homeLeave 64).wellFormed = false := by decide
theorem test_wellFormed_home_return : (Instr.homeReturn 64).wellFormed = false := by decide
theorem test_wellFormed_current : (Instr.currentSample .a 4001).wellFormed = false := by decide
theorem test_wellFormed_count : (Instr.sensorSample 0 4096 0).wellFormed = false := by decide
theorem test_wellFormed_alias : (Instr.peripheralFrame 16 0x70 1 []).wellFormed = false := by decide
theorem test_wellFormed_poll_channel : (Instr.pollDue 4).wellFormed = false := by decide
theorem test_wellFormed_probe_channel : (Instr.probeDue 4).wellFormed = false := by decide
theorem test_wellFormed_bus_payload :
    (Instr.busFrameReceived ⟨5, 0x43, 1, List.replicate 61 0⟩ 0).wellFormed = false := by decide
theorem test_wellFormed_bus_gap : (Instr.busByteGap [1, 2]).wellFormed = false := by decide
theorem test_wellFormed_link_gap : (Instr.linkByteGap []).wellFormed = false := by decide
theorem test_wellFormed_over_length : (Instr.overLengthFrame 0 1 1 60).wellFormed = false := by decide
theorem test_wellFormed_bus_over_length : (Instr.busOverLengthFrame 5 0x43 1 60).wellFormed = false := by decide
theorem test_wellFormed_check_error : (Instr.checkValueError ⟨0, 1, 1, []⟩ 0x80C1).wellFormed = false := by decide +kernel
theorem test_wellFormed_unknown_node : (Instr.unknownNode 15 1 1 []).wellFormed = false := by decide
theorem test_wellFormed_bad_kind : (Instr.badKind 0x01 1 []).wellFormed = false := by decide
theorem test_wellFormed_payload : (Instr.vend 1 (List.replicate 61 0)).wellFormed = false := by decide
theorem test_wellFormed_accepts : (Instr.linkByteGap [0xC3, 0, 1]).wellFormed = true := by decide

/-! ### Worked examples of spec/ -/

/-- 09, section 9.1, worked check value: the whole IDENTIFY frame. -/
theorem test_identify_frame : frameBytes ⟨0, 1, 1, []⟩ = [0xC3, 0, 1, 1, 0, 0x80, 0xC1] := by decide +kernel

/-- 03, worked search for 160 cu: found on the fifth step and not on the fourth. -/
theorem test_search_160 :
    searchFrom [⟨1, 100, 4⟩, ⟨2, 50, 1⟩, ⟨3, 20, 7⟩] 160 5 = .found [1, 0, 3]
      ∧ searchFrom [⟨1, 100, 4⟩, ⟨2, 50, 1⟩, ⟨3, 20, 7⟩] 160 4 = .gaveUp := by decide

/-- 03, worked search for 380 cu: 28 steps fail, and the greedy plan pays 370. -/
theorem test_search_380 :
    exactSearch [⟨1, 100, 3⟩, ⟨2, 50, 1⟩, ⟨3, 20, 1⟩] 380 = .failed 4068
      ∧ planValue (planFor [⟨1, 100, 3⟩, ⟨2, 50, 1⟩, ⟨3, 20, 1⟩] 380) = 370 := by decide

/-- 06, worked conversion: a CAB sample of 1234 between (1000, 100) and (1400, 20) is 54. -/
theorem test_conversion : onSegment ⟨1000, 100⟩ ⟨1400, 20⟩ 1234 = 54 := by decide +kernel

/-- 06, worked minutes: at minute 6 Exposure goes from 180 to 305 with CAB at 205. -/
theorem test_exposure_minute_6 :
    after .exposureStep { readings 205 0 0 (inMode .sales) with
        plant := { (readings 205 0 0 (inMode .sales)).plant with exposure := 180 } }
      (fun t => (t.plant.exposure, t.plant.lockout)) = some (305, true) := by decide +kernel

/-- 09, section 9.6: a VEND_RESULT in a full queue removes the newest of the lowest level. -/
theorem test_full_queue :
    let q := List.replicate 23 ({ kind := .temperature, stamp := 1, subject := none, values := [] } : Notice)
      ++ [{ kind := .temperature, stamp := 19, subject := none, values := [] }]
    let l := LinkUnit.push { LinkUnit.reset 0 .sales with notices := q }
      { kind := .vendResult, stamp := 20, subject := none, values := [] }
    l.notices.map Notice.stamp = List.replicate 23 1 ++ [20] ∧ l.dropped = 1 := by decide

/-- 01, section 1.7: the signature of an entry 0 coin opens the gate and takes ROUTE 1. -/
theorem test_coin_taken :
    after (.coinSignature 150 150 150) shop (fun t => (t.coin.gate, t.selector)) = some (.opened 0, .tube 1) := by decide

/-- R65 and R66: an accepted VEND answers position, unfinished vends and uncommitted funds. -/
theorem test_vend_reply :
    after (.vend 1 [0]) (withSession (cashOf 100) shop) (fun t => t.link.sent.map Frame.payload)
      = some [[0, 0, 0, 1, 0, 0]] := by decide

/-- R12: Path Timeout brings the clock to 600 ms after the acceptance and names the entry and its route. -/
theorem test_path_timeout :
    after .pathTimeout { shop with
        coin := { shop.coin with
          path := .pending { entry := 0, value := 50, route := .tube 1, creditDue := true, acceptedAt := 0 } } }
      (fun t => (t.now, t.link.notices.getLast?)) =
        some (600, some { kind := .coinPathFault, stamp := 6, subject := some 0, values := [1] }) := by decide

/-- R80: a switch that moves in an IDLE group stands so at the next energizing. -/
theorem test_home_switch_in_idle : after (.homeLeave 3) shop (fun t => t.pins.away) = some 8 := by decide

/-- R128: 7 bytes of 10 bits at 19 200 baud take 3.6 ms, and 67 bytes 34.9 ms. -/
theorem test_airtime : airtime 0 = 4 ∧ airtime 60 = 35 := by decide

/-- The table gives no row any bits, so no word spells a command. -/
theorem test_no_word : decodeTableWord 8 0 = none := rfl

/-! ### Witnesses: states and operands that meet the hypotheses of the statements, clause by clause -/

/-- An empty buffer holds no load that waits. -/
theorem noLoad {s : State} (h : s.tables.staging = .empty) : NothingPending s := fun b hb => by rw [h] at hb; cases hb

theorem witness_StepRunsFront :
    ({ State.reset with pending := [.doorClose, .doorOpen] } : State).pending = .doorClose :: [.doorOpen]
      ∧ State.reset.pending = [] := ⟨rfl, rfl⟩

/-- The relay on and the defrost DUE is the one pair of the two the first invariant lets stand. -/
theorem witness_HeaterApartKept :
    let s := withPlant (.starting 0) (.due .interval) State.reset
    HeaterApart s ∧ step s = .next { s with now := 1 } := ⟨by unfold HeaterApart; decide, rfl⟩

/-- Base Load and one granted claim that fills the Budget. -/
theorem witness_BudgetKept :
    let s := { State.reset with
      load := { State.reset.load with
        granted := [{ kind := .defrost, owner := .plant, units := 90, since := 0, arrival := 0 }] } }
    WithinBudget s ∧ step s = .next { s with now := 1 } := ⟨⟨by decide, fun b hb => by cases hb⟩, rfl⟩

theorem witness_OneOfAKindKept :
    let s := vending (.dropWait 0) .idle
    OneOfAKind s ∧ step s = .next { s with now := 1 } := ⟨by unfold OneOfAKind; decide, rfl⟩

theorem witness_BoundsKept :
    let s := { shop with credit := { shop.credit with carried := 20000 }, plant := { shop.plant with exposure := 65535 } }
    Bounded s ∧ step s = .next { s with now := 1 } :=
  ⟨⟨by decide, by decide, by decide, by decide, by decide, by decide, by decide, by decide, by decide, by decide, by decide,
    by decide, by decide, fun b h => by cases h⟩, rfl⟩

theorem witness_ModeFollowsDoorKept :
    ModeFollowsDoor State.reset ∧ step State.reset = .next { State.reset with now := 1 } :=
  ⟨by unfold ModeFollowsDoor; decide, rfl⟩

theorem witness_ReportedKept : Reported State.reset ∧ step State.reset = .next { State.reset with now := 1 } :=
  ⟨rfl, rfl⟩

/-! #### Coins -/

/-- A coin of entry 0 that falls. -/
def falling (due : Bool) (r : Route) : PendingCoin :=
  { entry := 0, value := 50, route := r, creditDue := due, acceptedAt := 0 }

def withCoin (c : PendingCoin) (s : State) : State := { s with coin := { s.coin with path := .pending c } }

theorem belongs (s : State) (h : s.coin.table[0]? = some coin0) : BelongsTo s 150 100 200 0 :=
  ⟨⟨coin0, h, by unfold EntryTakes; decide⟩, fun j hj => absurd hj (Nat.not_lt_zero j)⟩

theorem witness_CoinRejected_path : Rejects (withCoin (falling true .cashbox) shop) 150 100 200 .pathBusy none :=
  .pathBusy _ rfl

theorem witness_CoinRejected_mode : Rejects (inMode .config) 150 100 200 .mode none := .mode rfl rfl

theorem witness_CoinRejected_noMatch : Rejects shop 99 100 200 .noMatch none := by
  refine .noMatch rfl (by decide) fun i h => ?_
  obtain ⟨⟨e, he, ht⟩, -⟩ := h
  have hm : e ∈ coin0 :: List.replicate 11 CoinEntry.reset := List.mem_of_getElem? he
  rcases List.mem_cons.1 hm with rfl | hm
  · exact absurd ht (by unfold EntryTakes; decide)
  · rw [List.eq_of_mem_replicate hm] at ht
    exact absurd ht (by unfold EntryTakes; decide)

theorem witness_CoinRejected_funding : Rejects (withSession (cardOf 500) shop) 150 100 200 .funding (some 0) :=
  .funding 0 rfl rfl (belongs _ rfl) rfl

theorem witness_CoinRejected_closing :
    Rejects (withSession { cashOf 0 with state := .closeWait } shop) 150 100 200 .closing (some 0) :=
  .closing 0 rfl rfl (belongs _ rfl) (by decide) (.inl rfl)

theorem witness_CoinRejected_limit : Rejects (withSession (cashOf 951) shop) 150 100 200 .limit (some 0) :=
  .limit 0 rfl rfl (belongs _ rfl) (by decide) (.inr rfl) (by decide +kernel)

theorem witness_CoinRejected_exact :
    Rejects { withSession (cashOf 100) shop with change := { shop.change with assured := false, maxPrice := 149 } } 150 100 200
      .exact (some 0) :=
  .exact 0 rfl rfl (belongs _ rfl) (by decide) (.inr rfl) (by decide +kernel) rfl (by decide +kernel)

/-- The credit reaches Max Credit exactly. -/
theorem witness_CoinAccepted : Passes (withSession (cashOf 950) shop) 150 100 200 0 :=
  ⟨rfl, belongs _ rfl, .inr ⟨rfl, by decide, .inr rfl, by decide +kernel, .inl rfl⟩⟩

theorem witness_CoinTimersEnd :
    ({ shop with coin := { shop.coin with gate := .opened 0 } } : State).coin.gate = .opened 0
      ∧ shop.coin.gate = .closed
      ∧ (withCoin (falling true (.tube 1)) shop).coin.path = .pending (falling true (.tube 1))
      ∧ shop.coin.path = .empty := ⟨rfl, rfl, rfl, rfl⟩

theorem witness_PassageUnexpected : shop.coin.path = .empty := rfl

/-- A coin for a tube that names its entry; one for the cashbox; one without credit due. -/
theorem witness_PassageConfirms :
    ((withCoin (falling true (.tube 1)) shop).coin.path = .pending (falling true (.tube 1))
        ∧ (falling true (.tube 1)).route = .tube 1
        ∧ ((withCoin (falling true (.tube 1)) shop).tube 1).entry = some (falling true (.tube 1)).entry)
      ∧ ((withCoin (falling true (.tube 2)) shop).tube 2).entry ≠ some (falling true (.tube 2)).entry
      ∧ (withCoin (falling false .cashbox) shop).coin.path = .pending (falling false .cashbox)
      ∧ (falling false .cashbox).route = .cashbox ∧ (falling false .cashbox).creditDue = false := by
  decide

/-- The session IDLE; a CASH session 20 below its ceiling; PAYOUT; CARD. -/
theorem witness_PassageCredits :
    let due := fun x : Session => withSession x (withCoin (falling true .cashbox) shop)
    (∀ x, (due x).coin.path = .pending (falling true .cashbox)) ∧ (falling true .cashbox).creditDue = true
      ∧ (due .reset).credit.session.state = .idle
      ∧ ((due (cashOf 980)).credit.session.funding = .cash ∧ (due (cashOf 980)).credit.session.state = .opened)
      ∧ ((due { cashOf 980 with state := .payout }).credit.session.state ≠ .idle
        ∧ (due { cashOf 980 with state := .payout }).credit.session.state = .payout)
      ∧ ((due (cardOf 500)).credit.session.state ≠ .idle ∧ (due (cardOf 500)).credit.session.funding ≠ .cash) :=
  ⟨fun _ => rfl, by decide, by decide, by decide, by decide, by decide⟩

/-- Counts at the low mark 2 and just above it, at each change of reading, and an ABSENT tube. -/
theorem witness_LowSensorCorrects :
    let s := fun (count : Nat) (covered : Bool) (st : TubeState) =>
      { shop with tubes := { tubeOf count st with covered := covered } :: List.replicate 4 (.reset false) }
    (((s 2 false .low).tube 1).covered ≠ true ∧ ((s 2 false .low).tube 1).state ≠ .absent
        ∧ ((s 2 false .low).tube 1).count ≤ ((s 2 false .low).tube 1).lowMark)
      ∧ (((s 3 true .normal).tube 1).covered ≠ false ∧ ((s 3 true .normal).tube 1).state ≠ .absent
        ∧ ((s 3 true .normal).tube 1).lowMark < ((s 3 true .normal).tube 1).count)
      ∧ (((s 3 false .normal).tube 1).covered ≠ true
        ∧ ((s 3 false .normal).tube 1).lowMark < ((s 3 false .normal).tube 1).count)
      ∧ (((s 2 true .low).tube 1).covered ≠ false ∧ ((s 2 true .low).tube 1).count ≤ ((s 2 true .low).tube 1).lowMark)
      ∧ (((s 2 true .absent).tube 1).covered ≠ false ∧ ((s 2 true .absent).tube 1).state = .absent) := by
  decide

theorem witness_TubeSetTaken : ([] : List Byte).length < 2 := by decide

/-! #### Sessions -/

theorem witness_CloseTurnedAwayOrWaits :
    shop.credit.session.state = .idle
      ∧ (withSession { cashOf 50 with state := .payout } shop).credit.session.state = .payout
      ∧ ((inMode .config).tables.mode = .config ∧ shop.credit.session.state = .idle ∧ shop.credit.carried = 0)
      ∧ ((withSession (cardOf 500) shop).credit.session.state = .opened
        ∧ (withSession (cardOf 500) shop).credit.session.funding ≠ .cash)
      ∧ ((vending .turning .idle).credit.session.state = .opened ∧ (vending .turning .idle).sales.vends ≠ []
        ∧ (∀ v ∈ (vending .turning .idle).sales.vends, v.state ≠ .queued ∧ v.state ≠ .waitPower)
        ∧ (vending .turning .idle).tables.mode ≠ .config ∧ (vending .turning .idle).credit.session.funding = .cash) := by
  decide

/-- A session that has spent all it took; and one that owes 40 where the tube holds coins of 50. -/
theorem witness_CashCloseUnpaid :
    (let s := withSession (cashOf 0) shop;
      s.credit.session.state = .opened ∧ s.credit.session.card = none ∧ s.credit.session.cashCredit = 0
        ∧ s.sales.vends = [] ∧ NothingPending s ∧ s.tables.mode ≠ .config ∧ s.credit.session.funding = .cash)
      ∧ (let s := withSession (cashOf 40) shop;
        s.credit.session.state = .opened ∧ s.credit.session.card = none ∧ s.credit.session.cashCredit ≠ 0
          ∧ s.sales.vends = [] ∧ s.change.seq = .idle ∧ s.change.job = none ∧ NothingWaits s
          ∧ (∀ g ∈ s.load.granted, g.kind ≠ .payout) ∧ NothingPending s
          ∧ planFor s.searchOrder s.credit.session.cashCredit = []) :=
  ⟨⟨rfl, rfl, rfl, rfl, noLoad rfl, by decide, rfl⟩,
    ⟨rfl, rfl, by decide, rfl, rfl, rfl, ⟨rfl, rfl⟩, (by decide), noLoad rfl, by decide +kernel⟩⟩

/-- A session that owes 150, and Carried Credit of 50 in an IDLE session. -/
theorem witness_CashClosePays :
    (let s := withSession (cashOf 150) shop;
      s.credit.session.state = .opened ∧ s.credit.session.card = none ∧ s.credit.session.cashCredit ≠ 0
        ∧ s.sales.vends = [] ∧ s.change.seq = .idle ∧ NothingWaits s ∧ (∀ g ∈ s.load.granted, g.kind ≠ .payout)
        ∧ s.load.drawn + s.load.table.payout ≤ s.load.table.budget
        ∧ planFor s.searchOrder s.credit.session.cashCredit = [{ tube := 1, value := 50, coins := 3 }])
      ∧ (let s := { shop with credit := { shop.credit with carried := 50 } };
        s.credit.session.state = .idle ∧ s.tables.mode ≠ .config ∧ s.credit.carried ≠ 0 ∧ s.sales.vends = []
          ∧ s.change.seq = .idle ∧ NothingWaits s ∧ (∀ g ∈ s.load.granted, g.kind ≠ .payout)
          ∧ s.load.drawn + s.load.table.payout ≤ s.load.table.budget
          ∧ planFor s.searchOrder s.credit.carried = [{ tube := 1, value := 50, coins := 1 }]) :=
  ⟨⟨rfl, rfl, by decide, rfl, rfl, ⟨rfl, rfl⟩, (by decide), by decide, by decide +kernel⟩,
    ⟨rfl, by decide, by decide, rfl, rfl, ⟨rfl, rfl⟩, (by decide), by decide, by decide +kernel⟩⟩

/-- The reader's channel READY with an empty slot, and the same with the channel LOST. -/
theorem witness_CardCloseSettles :
    let s := fun st : ChannelState =>
      withSession (cardOf 500) { shop with bridge := { shop.bridge with channels :=
        [.reset, channelOf .cardReader st, .reset, .reset] } }
    (s .ready).credit.session.state = .opened
      ∧ (s .ready).credit.session.card = some { channel := 1, limit := 500 } ∧ (s .ready).sales.vends = []
      ∧ NothingPending (s .ready) ∧ ((s .ready).bridge.channels[1]?).isSome
      ∧ (((s .ready).channel 1).isReady = true ∧ ((s .ready).channel 1).slot = none ∧ (s .ready).credit.deny = false
        ∧ (s .ready).credit.settlements = [])
      ∧ ((s .lost).credit.session.card = some { channel := 1, limit := 500 } ∧ ((s .lost).channel 1).isReady = false) :=
  ⟨rfl, rfl, rfl, noLoad rfl, by decide, by decide, by decide⟩

/-! #### Change -/

/-- An evaluation that runs, over 50 cu coins and a Base Unit of 50. -/
def evaluating (rerun : Bool) : State :=
  { shop with
    credit := { shop.credit with policy := { shop.credit.policy with baseUnit := 50, assuranceLimit := 300 } }
    change :=
      { shop.change with
        evaluating := some { order := [{ tube := 1, value := 50, usable := 5 }], baseUnit := 50, limit := 300 }
        rerun := rerun } }

theorem witness_AssuranceCompletes :
    shop.change.evaluating = none ∧ (evaluating false).change.evaluating.isSome ∧ (evaluating false).change.rerun = false
      ∧ Reported (evaluating false) ∧ (evaluating true).change.evaluating.isSome ∧ (evaluating true).change.rerun = true
      ∧ (evaluating true).credit.policy.assuranceLimit ≠ 0
      ∧ (let s := { evaluating true with credit := { shop.credit with policy := { shop.credit.policy with assuranceLimit := 0 } } }
        s.change.evaluating.isSome ∧ s.change.rerun = true ∧ s.credit.policy.assuranceLimit = 0 ∧ Reported s) :=
  ⟨rfl, rfl, rfl, rfl, rfl, rfl, by decide, rfl, rfl, rfl, rfl⟩

/-- The search of the worked example, another exact payment of its amount, and an amount that cannot be paid. -/
theorem witness_SearchFindsGreatest :
    let order : List SearchLine := [⟨1, 100, 4⟩, ⟨2, 50, 3⟩, ⟨3, 20, 7⟩]
    exactSearch order 200 = .found [2] ∧ (∀ l ∈ order, 0 < l.value)
      ∧ Affordable order [1, 2, 0] ∧ worth order [1, 2, 0] = 200
      ∧ exactSearch [⟨1, 100, 3⟩, ⟨2, 50, 1⟩, ⟨3, 20, 1⟩] 380 = .failed 4068 := by
  refine ⟨by decide +kernel, by decide, ⟨rfl, fun i l k hi hk => ?_⟩, by decide, by decide +kernel⟩
  match i with
  | 0 | 1 | 2 => simp at hi hk; subst hi hk; decide
  | n + 3 => simp at hi

/-- The coin sequencer in a state, with a job. -/
def paying (q : SeqState) (j : Option Job) (s : State) : State :=
  { s with
    change := { s.change with seq := q, job := j }
    load := { s.load with granted := [{ kind := .payout, owner := .change, units := 8, since := 0, arrival := 0 }] } }

theorem witness_ExitBreakIgnored : (paying .deferred none shop).change.seq = .deferred := rfl

theorem witness_ExitWaitExpires :
    let s := paying (.secondWait 1 0) (some (.dispense 1 3)) (stocked (inMode .service))
    (paying (.firstWait 1 0) (some (.dispense 1 3)) shop).change.seq = .firstWait 1 0
      ∧ (s.change.seq = .secondWait 1 0 ∧ s.change.job = some (.dispense 1 3) ∧ s.change.deferred = none ∧ NothingWaits s
        ∧ 1 ≤ s.tubes.length ∧ Reported s)
      ∧ (paying .claimWait none shop).change.seq = .claimWait :=
  ⟨rfl, ⟨rfl, rfl, rfl, ⟨rfl, rfl⟩, by decide, rfl⟩, rfl⟩

/-- Two coins of 50 still to be paid, the first of them confirmed. -/
theorem witness_PayoutGoesOn :
    let s := paying (.firstWait 1 0) (some (.payout 100 100 [{ tube := 1, value := 50, coins := 2 }]))
      (withSession { cashOf 100 with state := .payout } shop)
    let x := s.tube 1
    s.change.seq = .firstWait 1 0 ∧ (100 - 50 : Nat) ≠ 0
      ∧ State.stale { s with tubes := s.tubes.set 0 ({ x with count := x.count - 1 }.derive false) }
          { tube := 1, value := 50, coins := 1 } = false := by
  decide +kernel

theorem witness_PayoutEnds :
    let s := paying (.secondWait 1 0) (some (.payout 50 50 [{ tube := 1, value := 50, coins := 1 }]))
      (withSession { cashOf 50 with state := .payout } shop)
    s.change.seq = .secondWait 1 0 ∧ s.change.job = some (.payout 50 50 [{ tube := 1, value := 50, coins := 1 }])
      ∧ NothingWaits s ∧ NothingPending s := ⟨rfl, rfl, ⟨rfl, rfl⟩, noLoad rfl⟩

/-- Tube 1 with 20 coins asked for; tube 6 and 21 coins are out of range; a sequencer at work. -/
theorem witness_TubeDispenseTaken :
    let s := stocked (inMode .service)
    shop.tables.mode ≠ .service ∧ s.tables.mode = .service ∧ ((s.tube 1).state ≠ .absent ∧ (s.tube 1).state ≠ .jammed)
      ∧ s.change.seq = .idle ∧ NothingWaits s ∧ (∀ g ∈ s.load.granted, g.kind ≠ .payout)
      ∧ s.load.drawn + s.load.table.payout ≤ s.load.table.budget
      ∧ (paying .claimWait none s).change.seq ≠ .idle ∧ ¬ (1 ≤ (6 : Nat) ∧ (6 : Nat) ≤ 5) ∧ ¬ (1 ≤ (21 : Nat) ∧ (21 : Nat) ≤ 20) :=
  ⟨by decide, rfl, by decide, rfl, ⟨rfl, rfl⟩, by decide, by decide, by decide, by decide, by decide⟩

/-! #### Selections and vends -/

theorem witness_SelectionCleared : 63 < (64 : Byte).toNat ∧ (63 : Byte).toNat ≤ 63 := by decide

theorem sellable0 (x : Session) : Sellable (withSession x shop) 0 :=
  show Sellable shop 0 from ⟨by decide, by decide, by decide⟩

/-- Refused by range, mode, session, sellability, list and funds in turn (funds 1 short of the price), and an IDLE session with
Carried Credit. -/
theorem witness_VendRefused :
    let full := { withSession (cashOf 500) shop with
      sales := { shop.sales with vends := List.replicate 4 { vendIn .queued with price := 0 } } }
    63 < (64 : Byte).toNat ∧ (inMode .config).tables.mode ≠ .sales ∧ shop.tables.mode = .sales
      ∧ (withSession { cashOf 0 with state := .closeWait } shop).credit.session.state = .closeWait
      ∧ ((withSession (cashOf 100) shop).credit.session.state = .opened ∧ ¬ Sellable (withSession (cashOf 100) shop) 1)
      ∧ (Sellable full 0 ∧ 4 ≤ full.sales.vends.length)
      ∧ (Sellable (withSession (cashOf 99) shop) 0
        ∧ (withSession (cashOf 99) shop).credit.session.cashCredit < ((withSession (cashOf 99) shop).selection 0).price)
      ∧ (Sellable (withSession (cardOf 99) shop) 0 ∧ (withSession (cardOf 99) shop).credit.session.funding = .card)
      ∧ (shop.credit.session.state = .idle ∧ ({ shop with credit := { shop.credit with carried := 1 } } : State).credit.carried ≠ 0) :=
  ⟨by decide, by decide, rfl, rfl, ⟨rfl, fun h => absurd h.1 (by decide)⟩, ⟨⟨by decide, by decide, by decide⟩, by decide⟩,
    ⟨sellable0 _, by decide⟩, ⟨sellable0 _, rfl⟩, ⟨rfl, by decide⟩⟩

/-- Exactly enough credit, the group idle; and position 0's group taken by a vend that turns. -/
theorem witness_VendAccepted :
    (let s := withSession (cashOf 100) shop;
      s.tables.mode = .sales ∧ s.credit.session.state = .opened ∧ Sellable s 0
        ∧ (s.selection 0).price + (s.sales.vends.map Vend.price).sum ≤ s.credit.session.cashCredit
        ∧ s.sales.vends = [] ∧ s.sales.started = [] ∧ (s.group .a).state = .idle ∧ GrantsMotor s .a)
      ∧ (let s := withSession (cashOf 200) (vending .turning (.turning (turnOf 0 .vend)));
        s.tables.mode = .sales ∧ s.credit.session.state = .opened ∧ Sellable s 0
          ∧ (s.selection 0).price + (s.sales.vends.map Vend.price).sum ≤ s.credit.session.cashCredit
          ∧ s.groupBusy .a = true ∧ ∀ w ∈ s.sales.vends, w.state = .queued → s.groupBusy (groupOf w.position) = true) :=
  ⟨⟨rfl, rfl, sellable0 _, by decide, rfl, rfl, rfl, ⟨⟨rfl, rfl⟩, by decide, by decide⟩⟩,
    ⟨rfl, rfl, ⟨by decide, by decide, by decide⟩, by decide, by decide, by decide⟩⟩

/-- The waiting vend with `extra` add-on turns at its position, and no claim. -/
def waiting (addOn streak : Nat) (h : HealthClass) (lockout : Bool) : State :=
  let s := vending (.dropWait 0) .idle
  { s with
    sales :=
      { s.sales with
        selections := s.sales.selections.set 0 { s.selection 0 with addOn := addOn, missStreak := streak, health := h } }
    plant := { s.plant with lockout := lockout }
    load := { s.load with granted := [] } }

/-- One turn made: no add-on turn with the miss streak at 0 and at 1; an add-on turn due, with the lockout and without it; the
group busy with a second vend. -/
theorem witness_DropWindowExpires :
    let busy := { waiting 1 0 .ambient false with
      sales := { (waiting 1 0 .ambient false).sales with vends := [vendIn (.dropWait 0), { vendIn .turning with id := 5 }] } }
    (∀ a m h l, OnlyVend (waiting a m h l) (vendIn (.dropWait 0)) ∧ (waiting a m h l).sales.started[0]? = some 0)
      ∧ (((waiting 0 0 .ambient false).selection 0).addOn < 1
        ∧ ¬ 2 ≤ min 15 (((waiting 0 0 .ambient false).selection 0).missStreak + 1))
      ∧ (((waiting 0 1 .ambient false).selection 0).state = .available
        ∧ 2 ≤ min 15 (((waiting 0 1 .ambient false).selection 0).missStreak + 1))
      ∧ (1 ≤ ((waiting 1 0 .chilled true).selection 0).addOn ∧ ((waiting 1 0 .chilled true).selection 0).health = .chilled
        ∧ (waiting 1 0 .chilled true).plant.lockout = true)
      ∧ (1 ≤ ((waiting 1 0 .ambient false).selection 0).addOn ∧ Sellable (waiting 1 0 .ambient false) 0
        ∧ ((waiting 1 0 .ambient false).group .a).state = .idle ∧ GrantsMotor (waiting 1 0 .ambient false) .a)
      ∧ ((busy.sales.vends.map Vend.id).Nodup ∧ busy.vend? 0 = some (vendIn (.dropWait 0)) ∧ busy.sales.started[0]? = some 0
        ∧ Sellable busy 0
        ∧ busy.groupBusy .a = true ∧ ∀ w ∈ busy.sales.vends, w.state = .queued → busy.groupBusy (groupOf w.position) = true)
      ∧ (0 = 0 ∨ shop.sales.started[0]? = none) :=
  ⟨fun _ _ _ _ => ⟨⟨rfl, rfl, rfl⟩, rfl⟩, by decide, by decide, by decide,
    ⟨by decide, ⟨by decide, by decide, by decide⟩, rfl, ⟨⟨rfl, rfl⟩, by decide, by decide⟩⟩,
    ⟨by decide, by decide, rfl, ⟨by decide, by decide, by decide⟩, by decide, by decide⟩, .inl rfl⟩

/-! #### The drive -/

def withBeam (b : Beam) (s : State) : State := { s with drive := { s.drive with beam := b } }

theorem witness_DropAttributed :
    let s := withBeam (.timing 0) (vending .turning (.turning (turnOf 0 .vend)))
    let w := withBeam (.timing 0) (waiting 0 0 .ambient false)
    let m := { w with credit := { w.credit with policy := { w.credit.policy with multiVend := true } } }
    shop.drive.beam = .clear ∧ (withBeam .broken shop).drive.beam ≠ .clear
      ∧ ((withBeam (.timing 0) shop).drive.beam = .timing 0 ∧ ∀ v ∈ (withBeam (.timing 0) shop).sales.vends, ¬ CanTake v)
      ∧ (s.sales.started = [] ++ 0 :: [] ∧ s.vend? 0 = some (vendIn .turning) ∧ CanTake (vendIn .turning))
      ∧ (m.drive.beam = .timing 0 ∧ OnlyVend m (vendIn (.dropWait 0)) ∧ 0 ∈ m.sales.started
        ∧ m.credit.policy.multiVend = true ∧ (vendIn (.dropWait 0)).funding = .cash) :=
  ⟨rfl, by decide, ⟨rfl, fun v h => absurd h (by decide +revert)⟩, ⟨rfl, rfl, rfl, .inl ⟨rfl, rfl⟩⟩,
    ⟨rfl, ⟨rfl, rfl, rfl⟩, by decide, rfl, rfl⟩⟩

/-- The cash credit is the price of the vend whose item has fallen. -/
theorem witness_DeliveryCloses :
    let v := { vendIn .turning with droppedEarly := true }
    let s := vending .turning (.turning (turnOf 0 .vend))
    let s := { s with sales := { s.sales with vends := [v] } }
    (s.group .a).state = .turning (turnOf 0 .vend) ∧ (s.group .a).held = none ∧ OnlyVend s v
      ∧ (turnOf 0 .vend).position = v.position ∧ groupOf v.position = .a ∧ v.funding = .cash
      ∧ s.credit.session.card = none ∧ s.credit.policy.multiVend = false
      ∧ s.credit.session.cashCredit = v.price ∧ NothingWaits s ∧ NothingPending s :=
  ⟨rfl, rfl, ⟨rfl, rfl, rfl⟩, rfl, by decide, rfl, rfl, rfl, by decide, ⟨rfl, rfl⟩, noLoad rfl⟩

/-- A test turning in group A, alone or with a vend's request held behind it. -/
def testing (st : GroupState) (held : Option (Nat × Owner)) : State :=
  let s := inMode .service
  { s with
    drive := { s.drive with a := { GroupRec.reset with state := st, held := held, test := some 0 } }
    load := { s.load with granted := [{ kind := .motor .a, owner := .test, units := 15, since := 0, arrival := 0 }] } }

theorem witness_HomeEvents :
    let t := testing (.turning (turnOf 0 .test))
    let v := vending .turning (.turning (turnOf 0 .vend))
    ((testing (.starting (turnOf 0 .test)) none).group .a).state = .starting (turnOf 0 .test)
      ∧ ((testing (.stopped 0) none).group .a).state = .stopped 0
      ∧ (((t none).group .a).state = .turning (turnOf 0 .test) ∧ ((t none).group .a).held = none ∧ NothingWaits (t none))
      ∧ ((t (some (31, .vend))).group .a).held = some (31, .vend)
      ∧ (NothingWaits v ∧ (v.group .a).state = .turning (turnOf 0 .vend) ∧ (v.group .a).held = none
        ∧ OnlyVend v (vendIn .turning) ∧ groupOf (vendIn .turning).position = .a) :=
  ⟨rfl, rfl, ⟨rfl, rfl, ⟨rfl, rfl⟩⟩, rfl, ⟨⟨rfl, rfl⟩, rfl, rfl, ⟨rfl, rfl, rfl⟩, by decide⟩⟩

/-- What `Faulted` asks for, of a test and of a vend. -/
theorem witness_TurnFaults :
    let t := testing (.starting (turnOf 0 .test)) none
    let v := vending .turning (.turning (turnOf 0 .vend))
    ((t.group .a).state = .starting (turnOf 0 .test) ∧ (turnOf 0 .test).owner = .test ∧ NothingWaits t
        ∧ ∀ x ∈ t.sales.vends, x.position = 0 → x.waits = false)
      ∧ ((v.group .a).state = .turning (turnOf 0 .vend) ∧ NothingWaits v ∧ OnlyVend v (vendIn .turning)
        ∧ (vendIn .turning).position = (turnOf 0 .vend).position ∧ groupOf 0 = .a)
      ∧ (shop.group .a).state = .idle :=
  ⟨⟨rfl, rfl, ⟨rfl, rfl⟩, by decide⟩, ⟨rfl, ⟨rfl, rfl⟩, ⟨rfl, rfl, rfl⟩, rfl, by decide⟩, rfl⟩

/-- The twentieth sample above 1600 mA; 59 mA at the check of 300 ms; 60 mA there. -/
theorem witness_CurrentSampled :
    let turn := fun at' : Nat => { turnOf 0 .test with sampleAt := at' }
    let s := fun (run at' : Nat) =>
      State.modGroup (testing (.turning (turn at')) none) .a fun r => { r with highRun := run }
    (((s 19 10).group .a).state = .turning (turn 10)
        ∧ 20 ≤ (if 1600 < 1601 then min 20 (((s 19 10).group .a).highRun + 1) else 0))
      ∧ (((s 0 300).group .a).noMotorChecked = false ∧ 300 ≤ min 4000 (max (s 0 300).now 300 - (turn 300).energizedAt)
        ∧ (59 : Nat) < 60)
      ∧ ¬ ((60 : Nat) < 60) := by
  decide

theorem witness_MotorTestTaken :
    let s := inMode .service
    let stopped := { s with drive := { s.drive with a := { GroupRec.reset with state := .stopped 0 } } }
    ((stopped.group .a).state = .stopped 0 ∧ (stopped.group .a).held = none)
      ∧ ((testing (.stopped 0) (some (31, .test))).group .a).held = some (31, .test)
      ∧ ((testing (.turning (turnOf 0 .test)) none).group .a).state = .turning (turnOf 0 .test)
      ∧ shop.tables.mode ≠ .service ∧ s.tables.mode = .service ∧ 63 < (64 : Byte).toNat ∧ (31 : Byte).toNat ≤ 63
      ∧ ((testing .idle none).group .a).test ≠ none
      ∧ ((s.group .a).test = none ∧ GrantsMotor s .a ∧ (s.group .a).state = .idle)
      ∧ ((stopped.group .a).test = none ∧ GrantsMotor stopped .a) :=
  ⟨⟨rfl, rfl⟩, rfl, rfl, by decide, rfl, by decide, by decide, by decide, ⟨rfl, ⟨⟨rfl, rfl⟩, by decide, by decide⟩, rfl⟩,
    ⟨rfl, ⟨⟨rfl, rfl⟩, by decide, by decide⟩⟩⟩

/-! #### The plant and the load -/

/-- At rest with good sensors; COIL VALID, FAILED, and with 59 bad samples behind it. -/
theorem witness_SensorsSampled :
    let s := readings 50 20 300 shop
    let failed := { s with plant := { s.plant with coil := { s.plant.coil with state := .failed, badRun := 60 } } }
    let bad := { s with plant := { s.plant with coil := { s.plant.coil with state := .holding, badRun := 59 } } }
    (s.plant.compressor = .offMin ∧ s.plant.defrost = .idle ∧ s.plant.cab.state ≠ .failed ∧ s.plant.cond.state ≠ .failed
        ∧ convert ((s.plant.curve.drop 16).take 8) 4079 ≤ s.plant.cooling.condCutout ∧ s.plant.coil.state ≠ .failed)
      ∧ failed.plant.coil.state = .failed ∧ (bad.plant.coil.state ≠ .failed ∧ 59 ≤ bad.plant.coil.badRun)
      ∧ (16 : Nat) ≤ 4079 ∧ ¬ (16 ≤ (15 : Nat) ∧ (15 : Nat) ≤ 4079) := by
  decide +kernel

/-- The built-in curve, a count in its fifth segment and counts at and beyond its ends. -/
theorem witness_CurveConversion :
    Rising builtInCurve ∧ builtInCurve.length = 8 ∧ builtInCurve[0]? = some ⟨200, 1250⟩ ∧ (199 : Nat) < 200
      ∧ builtInCurve[7]? = some ⟨3900, -400⟩ ∧ (3900 : Nat) < 3901
      ∧ builtInCurve[3]? = some ⟨1400, 200⟩ ∧ builtInCurve[4]? = some ⟨2000, 40⟩ ∧ convert builtInCurve 1400 = 200
      ∧ (∀ p ∈ builtInCurve, (-400 : Int) ≤ p.temp ∧ p.temp ≤ 1250)
      ∧ (readings 50 0 0 shop).plant.cab.temp = some 50 := by
  unfold Rising; decide +kernel

/-- CAB one below Cut-In and at it; a Budget that is full; fallback duty; STARTING. -/
theorem witness_CompressorStarts :
    let s := readings 70 20 300 shop
    let tight := { s with load := { s.load with table := { s.load.table with budget := 69 } } }
    let fallback := { s with
      plant := { s.plant with cab := { s.plant.cab with state := .failed }, compressor := .offReady } }
    ((readings 69 20 300 shop).plant.compressor = .offMin ∧ (readings 69 20 300 shop).plant.cab.temp = some 69)
      ∧ (s.plant.compressor = .offMin ∧ s.plant.cab.state ≠ .failed ∧ s.plant.cab.temp = some 70
        ∧ s.plant.cooling.setpoint + s.plant.cooling.band ≤ 70 ∧ s.plant.defrost = .idle ∧ s.plant.limitApplies = false
        ∧ NothingWaits s ∧ (∀ g ∈ s.load.granted, g.kind ≠ .compressorStart)
        ∧ s.load.drawn + s.load.table.compressorStart ≤ s.load.table.budget)
      ∧ (tight.load.table.budget < tight.load.drawn + tight.load.table.compressorStart
        ∧ ∀ g ∈ tight.load.granted, g.kind ≠ .defrost)
      ∧ (fallback.plant.compressor = .offReady ∧ fallback.plant.cab.state = .failed ∧ fallback.plant.defrost = .idle
        ∧ fallback.plant.limitApplies = false ∧ NothingWaits fallback)
      ∧ ((withPlant (.starting 0) .idle s).plant.compressor = .starting 0 ∧ NothingWaits (withPlant (.starting 0) .idle s))
      ∧ (withPlant .offReady .idle s).plant.compressor ≠ .offMin :=
  ⟨⟨rfl, rfl⟩, ⟨rfl, by decide, rfl, by decide, rfl, by decide, ⟨rfl, rfl⟩, by decide, by decide⟩,
    ⟨by decide, by decide⟩, ⟨rfl, rfl, rfl, by decide, ⟨rfl, rfl⟩⟩, ⟨rfl, ⟨rfl, rfl⟩⟩, by decide⟩

/-- CAB FAILED in each state of the compressor, with a defrost CLAIMING, and under a Budget one unit short. -/
theorem witness_CompressorStarts_fallback :
    let s := fun (c : Compressor) (d : Defrost) =>
      let r := withPlant c d (readings 70 20 300 shop)
      { r with plant := { r.plant with cab := { r.plant.cab with state := .failed } } }
    let tight := { s .offReady .idle with
      load := { shop.load with table := { shop.load.table with budget := 69 } } }
    (∀ c d, (s c d).plant.cab.state = .failed ∧ (s c d).plant.compressor = c)
      ∧ (s .offReady (.claiming .request)).plant.defrost ≠ .idle
      ∧ (tight.plant.defrost = .idle ∧ tight.plant.limitApplies = false ∧ NothingWaits tight
        ∧ (∀ g ∈ tight.load.granted, g.kind ≠ .compressorStart) ∧ (∀ g ∈ tight.load.granted, g.kind ≠ .defrost)
        ∧ tight.load.table.budget < tight.load.drawn + tight.load.table.compressorStart) :=
  ⟨fun _ _ => ⟨rfl, rfl⟩, nofun, rfl, by decide, ⟨rfl, rfl⟩, by decide, by decide, by decide⟩

/-- RUNNING without demand and with it; with the defrost DUE and room for its claim; and under fallback duty. -/
theorem witness_CompressorStops :
    let on := fun (demand : Bool) (d : Defrost) =>
      let s := withPlant (.running 0) d (readings 50 20 300 shop)
      { s with
        plant := { s.plant with demand := demand }
        load := { s.load with granted := [{ kind := .compressorRun, owner := .plant, units := 25, since := 0, arrival := 0 }] } }
    let failed := { on true .idle with plant := { (on true .idle).plant with cab := { (on true .idle).plant.cab with state := .failed } } }
    ((on false .idle).plant.compressor = .running 0 ∧ NothingWaits (on false .idle) ∧ (on false .idle).plant.demand = false
        ∧ (on false .idle).plant.defrost.isDue = false)
      ∧ ((on true .idle).plant.demand = true ∧ (on true .idle).plant.cab.state ≠ .failed)
      ∧ ((on true (.due .interval)).plant.defrost = .due .interval ∧ (on true (.due .interval)).plant.coilEnd = false
        ∧ (∀ g ∈ (on true (.due .interval)).load.granted, g.kind ≠ .defrost)
        ∧ 10 + 0 + (on true (.due .interval)).load.table.defrost ≤ (on true (.due .interval)).load.table.budget)
      ∧ (failed.plant.cab.state = .failed
        ∧ failed.plant.cooling.minRun * 1000 ≤ max failed.now (0 + failed.plant.cooling.fallbackOn * 1000) - 0) :=
  ⟨⟨rfl, ⟨rfl, rfl⟩, rfl, rfl⟩, by decide, ⟨rfl, by decide, by decide, by decide⟩, ⟨rfl, by decide +kernel⟩⟩

theorem witness_DefrostStarts :
    let s := readings 50 79 300 shop
    let tight := { s with load := { s.load with table := { s.load.table with budget := 49 } } }
    (withPlant .offMin (.due .interval) s).plant.defrost ≠ .idle
      ∧ ((withPlant (.starting 0) .idle s).plant.defrost = .idle
        ∧ (withPlant (.starting 0) .idle s).plant.compressor = .starting 0)
      ∧ (s.plant.defrost = .idle ∧ NothingWaits s ∧ (∀ g ∈ s.load.granted, g.kind ≠ .defrost) ∧ s.plant.compressor = .offMin
        ∧ s.load.drawn + s.load.table.defrost ≤ s.load.table.budget ∧ s.plant.coilEnd = false)
      ∧ (NothingWaits tight ∧ ¬ tight.load.drawn + tight.load.table.defrost ≤ tight.load.table.budget)
      ∧ s.plant.relay = false :=
  ⟨by decide, ⟨rfl, rfl⟩, ⟨rfl, ⟨rfl, rfl⟩, by decide, rfl, by decide, by decide⟩, ⟨⟨rfl, rfl⟩, by decide⟩, rfl⟩

/-- HEATING, with a COIL sample that is exactly Defrost End; DRIP. -/
theorem witness_DefrostEnds :
    let s := withPlant .offMin (.heating .request 0) (readings 50 20 300 shop)
    let d := withPlant .offMin (.drip .request 0) (readings 50 20 300 shop)
    (s.plant.defrost = .heating .request 0 ∧ NothingWaits s ∧ s.plant.cooling.drip ≠ 0 ∧ s.plant.cab.state ≠ .failed
        ∧ s.plant.coil.state ≠ .failed ∧ s.plant.cond.state ≠ .failed ∧ s.plant.compressor = .offMin)
      ∧ (convert ((s.plant.curve.drop 16).take 8) 4079 ≤ s.plant.cooling.condCutout
        ∧ convert ((s.plant.curve.drop 8).take 8) 1850 = s.plant.cooling.defrostEnd)
      ∧ (d.plant.defrost = .drip .request 0 ∧ d.plant.cab.state ≠ .failed ∧ d.plant.cab.temp = some 50
        ∧ d.plant.compressor = .offMin) :=
  ⟨⟨rfl, ⟨rfl, rfl⟩, by decide, by decide, by decide, by decide, rfl⟩, by decide +kernel, by decide +kernel⟩

/-- Exposure that stays below the threshold, that reaches it exactly, and that reaches 0 in a lockout. -/
theorem witness_ExposureSteps :
    let s := fun (a : Int) (e : Nat) (l : Bool) =>
      { readings a 20 300 shop with plant := { (readings a 20 300 shop).plant with exposure := e, lockout := l } }
    (∀ e l, (s 81 e l).plant.cab.temp = some 81 ∧ (s 81 e l).plant.coil.temp = some 20
        ∧ (s 81 e l).plant.cond.temp = some 300)
      ∧ min 65535 (298 + ((81 : Int) - (s 81 298 false).plant.cooling.safeLimit).toNat) < 300
      ∧ (300 ≤ min 65535 (299 + ((81 : Int) - (s 81 299 false).plant.cooling.safeLimit).toNat)
        ∧ (s 81 299 false).sales.vends = [])
      ∧ ((s 80 20 true).plant.lockout = true ∧ 20 - (s 80 20 true).plant.cooling.recovery = 0
        ∧ (s 80 20 true).plant.cab.state = .valid ∧ (80 : Int) ≤ (s 80 20 true).plant.cooling.safeLimit) :=
  ⟨fun _ _ => ⟨rfl, rfl, rfl⟩, by decide, by decide, by decide⟩

/-- A granted DEFROST, a Budget of 60, and a test's motor claim of 15 units that fits only in its place. -/
def contested : State :=
  let s := withPlant .offMin (.heating .request 0) (testing .idle none)
  { s with
    load :=
      { table := { s.load.table with budget := 60 }
        queue := [{ kind := .motor .a, owner := .test, units := 15, priority := 2, arrival := 0 }]
        granted := [{ kind := .defrost, owner := .plant, units := 40, since := 0, arrival := 0 }]
        held := [] } }

/-- A COMPRESSOR_START claim that waits, alone or behind a motor claim, under a Budget. -/
def startWaits (behind : List Claim) (budget : Nat) : State :=
  let s := withPlant .startWait .idle shop
  { s with
    load :=
      { s.load with
        table := { s.load.table with budget := budget }
        queue := behind ++ [{ kind := .compressorStart, owner := .plant, units := 60, priority := 3, arrival := 0 }] } }

theorem witness_ArbiterMoments :
    let d : Grant := { kind := .defrost, owner := .plant, units := 40, since := 0, arrival := 0 }
    let m : Claim := { kind := .motor .a, owner := .test, units := 15, priority := 2, arrival := 0 }
    let heavy := { contested with load := { contested.load with queue := [{ m with units := 51 }] } }
    (contested.load.granted.find? (fun g => g.kind = .defrost) = some d ∧ contested.load.queue = [m]
        ∧ contested.load.table.budget < contested.load.drawn + m.units
        ∧ contested.load.drawn - d.units + m.units ≤ contested.load.table.budget
        ∧ contested.plant.defrost = .heating .request 0 ∧ (contested.group .a).state = .idle
        ∧ (contested.group .a).test = some 0
        ∧ contested.load.table.budget < 10 + 0 + m.units + contested.load.table.defrost)
      ∧ (heavy.load.table.budget < heavy.load.drawn + 51 ∧ ¬ heavy.load.drawn - d.units + 51 ≤ heavy.load.table.budget)
      ∧ shop.load.queue = []
      ∧ ((startWaits [] 70).load.queue = [{ kind := .compressorStart, owner := .plant, units := 60, priority := 3, arrival := 0 }]
        ∧ (startWaits [] 70).plant.compressor = .startWait
        ∧ (startWaits [] 70).load.drawn + 60 ≤ (startWaits [] 70).load.table.budget)
      ∧ ((startWaits [m] 69).load.queue = [m, { kind := .compressorStart, owner := .plant, units := 60, priority := 3, arrival := 0 }]
        ∧ (startWaits [m] 69).load.table.budget < (startWaits [m] 69).load.drawn + 60
        ∧ ∀ g ∈ (startWaits [m] 69).load.granted, g.kind ≠ .defrost) := by
  decide

/-! #### The Peripheral Bus -/

def hostFrame : HostFrame := { hostNode := 2, kind := 0x70, seq := 3, payload := [1, 2], queuedAt := 0 }

/-- No channel of the alias; the payment command kept for the part; LOST; two frames in a queue of two; one frame in it, with the
line in GUARD and IDLE. -/
theorem witness_PeripheralFrameTaken :
    let c := channelOf .cardReader .ready
    (∀ n, n < 4 → (State.reset.channel n).cfg.hostNode ≠ (15 : Byte).toNat)
      ∧ ((withChannel c .idle shop).channel 0).cfg.hostNode = (2 : Byte).toNat
      ∧ (c.cfg.role ≠ .passive ∧ 0x60 ≤ (0x64 : Byte).toNat ∧ (0x64 : Byte).toNat ≤ 0x64)
      ∧ (channelOf .passive .lost).state = .lost
      ∧ ({ c with queue := [hostFrame, hostFrame] } : Channel).cfg.allocation ≤ [hostFrame, hostFrame].length
      ∧ [hostFrame].length < c.cfg.allocation
      ∧ (withChannel c (.guarding 0) shop).bridge.line ≠ .idle ∧ (withChannel c .idle shop).bridge.line = .idle := by
  decide

/-- Work of each sort for channel 0, at the moment its interval ends; none a millisecond before it. -/
theorem witness_SchedulerLooks :
    let c := channelOf .noteAcceptor .ready
    HasWork { c with slot := some .stack } 0 { work := .internal, kind := 0x60, payload := [] }
      ∧ HasWork { c with queue := [hostFrame] } 0 { work := .host, kind := 0x70, payload := [1, 2] }
      ∧ HasWork { c with lastEvent := some 7 } 200 { work := .poll, kind := 0x42, payload := [7] }
      ∧ HasWork (channelOf .passive .probing) 1000 { work := .probe, kind := 0x40, payload := [] }
      ∧ HasWork (channelOf .passive .lost) 2000 { work := .probe, kind := 0x40, payload := [] }
      ∧ (withChannel c (.guarding 0) shop).bridge.line = .guarding 0
      ∧ ((withChannel c .idle shop).channel 0).state = .ready
      ∧ (withChannel c .idle shop).bridge.lastServed = 3 :=
  ⟨.slot .stack (.inl rfl) rfl, .queue hostFrame [] (.inl rfl) rfl rfl, .poll (.inl rfl) rfl rfl (by decide), .probe (.inl ⟨rfl, by decide⟩),
    .probe (.inr ⟨rfl, by decide⟩), rfl, rfl, rfl⟩

/-- Channel 0 in AWAIT with work on the bus. -/
def awaiting (r : Role) (w : Work) (c : Channel → Channel) : State :=
  withChannel (c (channelOf r (.await .ready))) (.waiting (txn w)) shop

theorem witness_RepliesTaken :
    let f := fun k => ({ node := 5, kind := k, seq := 9, payload := [] } : Frame)
    let h := awaiting .passive .host fun c => { c with queue := [hostFrame] }
    let r : Settlement := { channel := 0, amount := 300, vends := 1, openedAt := 0 }
    let i := awaiting .cardReader .internal fun c => { c with slot := some (.settle r) }
    let p := withChannel (channelOf .passive .lost) (.waiting (txn .probe)) shop
    (∀ x, shop.bridge.line = .waiting x → (f 0x43).node ≠ x.node ∨ (f 0x43).seq ≠ x.seq)
      ∧ ((awaiting .passive .poll id).bridge.line = .waiting (txn .poll) ∧ (f 0x43).node = (txn .poll).node
        ∧ (f 0x43).seq = (txn .poll).seq ∧ (0 : Word) ≠ checkOf (f 0x43) ∧ eventKinds.contains (f 0x43).kind = false)
      ∧ ((awaiting .passive .poll id).channel 0).state = .await .ready
      ∧ ((h.channel 0).state = .await .ready ∧ (h.channel 0).queue = [hostFrame])
      ∧ ((i.channel 0).state = .await .ready ∧ (i.channel 0).slot = some (.settle r) ∧ i.credit.settlements = [])
      ∧ ((p.channel 0).state = .lost ∧ (p.channel 0).cfg.role = .passive) :=
  ⟨fun _ h => (by cases h), ⟨rfl, rfl, rfl, by decide +kernel, by decide⟩, rfl, ⟨rfl, rfl⟩, ⟨rfl, rfl, rfl⟩, ⟨rfl, rfl⟩⟩

/-- R139 and the running record of 8.2: the good reply to a LOST channel's PROBE at 3000 ms makes it READY, with its last probe and
its last activity at that moment. -/
theorem test_probe_reply :
    let f : Frame := { node := 5, kind := 0x43, seq := 9, payload := [] }
    let s := { withChannel (channelOf .passive .lost) (.waiting (txn .probe)) shop with now := 3000 }
    after (.busFrameReceived f (checkOf f)) s
        (fun t => ((t.channel 0).state, (t.channel 0).lastProbe, (t.channel 0).lastActivity))
      = some (.ready, 3000, 3000) := by
  decide +kernel

/-- A repeat of event 4; a note of 20 stacked with room to the ceiling and index 8; an escrow that reaches Max Credit, and one in
an IDLE session of a machine in CONFIG; an approval of 1, and one of 0. -/
theorem witness_MoneyReported :
    let a := awaiting .noteAcceptor .poll fun c => { c with lastEvent := some 4 }
    let note := { a with
      credit := { a.credit with notes := a.credit.notes.set 0 { enabled := true, value := 20 }, session := cashOf 980 } }
    ((a.channel 0).cfg.role ≠ .passive ∧ (a.channel 0).lastEvent = some 4 ∧ (a.channel 0).state = .await .ready
        ∧ a.bridge.line = .waiting (txn .poll) ∧ (txn .poll).work = .poll)
      ∧ ((note.channel 0).lastEvent ≠ some 5 ∧ note.credit.session.funding = .cash ∧ note.credit.session.state = .opened
        ∧ note.credit.session.cashCredit + (note.noteEntry 0).value
          ≤ max note.credit.policy.maxCredit note.credit.session.carriedIn ∧ 7 < (8 : Byte).toNat)
      ∧ Stacks note 0 ∧ ¬ Stacks (inMode .config) 0
      ∧ (shop.credit.session.state = .idle ∧ shop.credit.carried = 0 ∧ shop.credit.settlements.length + 0 < 4
        ∧ 1 ≤ min 1 shop.credit.policy.maxCredit ∧ ¬ 1 ≤ min 0 shop.credit.policy.maxCredit) := by
  unfold Stacks; decide

/-- What `Missed` asks for: below the limit, a host frame, PROBING, LOST, and the third miss with a SETTLE in the slot. -/
theorem witness_ResponseMisses :
    let r : Settlement := { channel := 0, amount := 300, vends := 1, openedAt := 0 }
    let last := awaiting .cardReader .internal fun c => { c with misses := 2, slot := some (.settle r) }
    ((awaiting .passive .poll id).bridge.line = .waiting (txn .poll) ∧ min 15 (1 + 1) < 3)
      ∧ (((awaiting .passive .host fun c => { c with queue := [hostFrame] }).channel 0).queue = [hostFrame]
        ∧ ((awaiting .passive .host fun c => { c with queue := [hostFrame] }).channel 0).state = .await .ready)
      ∧ ((channelOf .passive .probing).state = .probing ∧ (channelOf .passive .lost).state = .lost)
      ∧ ((last.channel 0).state = .await .ready ∧ (last.channel 0).cfg.missLimit ≤ min 15 ((last.channel 0).misses + 1)
        ∧ (last.channel 0).queue = [] ∧ (last.channel 0).slot = some (.settle r))
      ∧ ∀ x, shop.bridge.line ≠ .waiting x :=
  ⟨⟨rfl, by decide⟩, ⟨rfl, rfl⟩, ⟨rfl, rfl⟩, ⟨rfl, by decide, rfl, rfl⟩, fun _ h => by cases h⟩

theorem witness_StuckLineRecovers :
    let r := fun (p : Bool) (y : Option Nat) => ({ breakFrom := 0, prstFrom := 20, releasedAt := y, pulsing := p } : Recovery)
    let s := fun p y => withChannel (channelOf .passive .probing) (.recovery (r p y)) shop
    let h := awaiting .passive .host fun c => { c with queue := [hostFrame] }
    (∀ x, shop.bridge.line ≠ .recovery x) ∧ (shop.bridge.line = .guarding 0
        ∧ (awaiting .noteAcceptor .internal id).bridge.line = .waiting (txn .internal) ∧ (txn .internal).work ≠ .host)
      ∧ (h.bridge.line = .waiting (txn .host) ∧ (txn .host).work = .host ∧ (h.channel 0).queue = hostFrame :: [])
      ∧ (∀ p y, (s p y).bridge.line = .recovery (r p y))
      ∧ ((r true none).pulsing = true ∧ (r true none).releasedAt = none)
      ∧ ((r true (some 50)).releasedAt = some 50) ∧ ((r false none).pulsing = false ∧ (r false none).releasedAt = none) :=
  ⟨nofun, ⟨rfl, rfl, by decide⟩, ⟨rfl, rfl, rfl⟩, fun _ _ => rfl, ⟨rfl, rfl⟩, rfl, ⟨rfl, rfl⟩⟩

/-! #### The Machine Link and the tables -/

/-- Below the floor; 23 notices; a full queue whose lowest level is 1, met by level 1 and by level 2. -/
theorem witness_NoticesQueued :
    let n := fun k => ({ kind := k, stamp := 0, subject := none, values := [] } : Notice)
    let q := List.replicate 24 (n .temperature)
    (n .temperature).kind.level < ({ LinkUnit.reset 0 .sales with floor := 2 } : LinkUnit).floor
      ∧ (List.replicate 23 (n .temperature)).length < 24
      ∧ (24 ≤ q.length ∧ (∃ x ∈ q, x.kind.level = 1) ∧ (∀ x ∈ q, 1 ≤ x.kind.level) ∧ (n .temperature).kind.level ≤ 1
        ∧ 1 < (n .strayDrop).kind.level) := by
  decide

/-- A start byte alone; a frame that lacks its last byte; a length byte of 61; a wrong check value at the eighth error; node 16 and
node 15; a kind outside the catalogue and one of it. -/
theorem witness_FramesDiscarded :
    shop.link.rx = .hunting ∧ ([] : List Byte).length ≤ 3
      ∧ (∃ node kind seq len rest, ([0, 1, 1, 0, 0x80] : List Byte) = node :: kind :: seq :: len :: rest ∧ len.toNat ≤ 60
        ∧ rest.length < len.toNat + 2)
      ∧ (∀ b ∈ ([0, 1] : List Byte), b ≠ 0xC3) ∧ 60 < (61 : Byte).toNat ∧ (0x80C0 : Word) ≠ checkOf ⟨0, 1, 1, []⟩
      ∧ (let s := { shop with link := { shop.link with errors := 7 } }; s.link.errors = 7 ∧ s.link.reported = false)
      ∧ (16 ≤ (16 : Byte).toNat ∧ (15 : Byte).toNat < 16) ∧ ((0x40 : Byte) ∉ requestKinds ∧ (0x3F : Byte) ∈ requestKinds) :=
  ⟨rfl, by decide, ⟨0, 1, 1, 0, [0x80], rfl, by decide, by decide⟩, by decide, by decide, by decide +kernel, ⟨rfl, rfl⟩,
    by decide, by decide⟩

/-- The last note index with a buffer free, OPEN, and of another mode; one NOTE entry written behind the other; a read of 16. -/
theorem witness_TablesStaged :
    let s := staged .note [[1, 0, 20], [1, 0, 50]] 0 (inMode .config)
    TableKind.ofCode 3 = some .note ∧ TableKind.ofCode 10 = none ∧ TableKind.note.hasIndex 7 = true
      ∧ TableKind.note.hasIndex 8 = false ∧ s.tables.staging ≠ .empty ∧ shop.tables.staging = .empty
      ∧ (TableKind.load.timing = .configOnly ∧ shop.tables.mode ≠ .config)
      ∧ (∃ b, s.tables.staging = .opened b ∧ ([1, 0, 100] : List Byte).length = 1 * b.kind.writtenSize
        ∧ (1 : Byte).toNat + 1 ≤ b.entries.length ∧ b.entries.length < (2 : Byte).toNat + 3 / b.kind.writtenSize)
      ∧ (1 ≤ (16 : Byte).toNat ∧ (16 : Byte).toNat ≤ 16 ∧ 16 < (17 : Byte).toNat) :=
  ⟨rfl, rfl, rfl, rfl, by decide, rfl, by decide, ⟨_, rfl, rfl, by decide, by decide⟩, by decide⟩

/-- A NOTE load of value 20000 that applies in CONFIG and waits in an OPEN session; an entry of value 0; a LOAD load that fits
and one below the drawn units. -/
theorem witness_CommitsTaken :
    let load : List Byte := [70, 15, 15, 8, 60, 25, 40, 0, 30, 0, 120]
    (∃ b, (staged .note [[1, 0x4E, 0x20]] 1 (inMode .config)).tables.staging = .opened b ∧ b.kind = .note
        ∧ ∀ e ∈ b.entries.take (max 1 b.extent), noteOf e ≠ none)
      ∧ (withSession (cashOf 50) shop).credit.session.state ≠ .idle ∧ noteOf [1, 0, 0] = none
      ∧ ((loadBytes load).inRange = true ∧ (inMode .config).load.drawn ≤ (loadBytes load).budget
        ∧ (inMode .config).load.queue = [] ∧ (inMode .config).tables.mode = .config)
      ∧ (let s := paying .claimWait none (inMode .config);
        (loadBytes load).budget < ({ s with load := { s.load with granted := [
          { kind := .compressorStart, owner := .plant, units := 61, since := 0, arrival := 0 }] } } : State).load.drawn) :=
  ⟨⟨_, rfl, rfl, by decide +kernel⟩, by decide, by decide, by decide +kernel, by decide +kernel⟩

theorem witness_ModesFollow :
    let s := { inMode .config with tables := { (inMode .config).tables with loadCommitted := true, curveCommitted := true } }
    let v := vending .turning (.turning (turnOf 0 .vend))
    1 < (2 : Byte).toNat ∧ (1 : Byte).toNat ≤ 1 ∧ (inMode .service).tables.mode = .service
      ∧ (inMode .config).tables.loadCommitted = false
      ∧ (s.tables.mode ≠ .service ∧ s.tables.loadCommitted = true ∧ s.tables.curveCommitted = true)
      ∧ (shop.sales.vends = [] ∧ shop.drive.a.testEndsAtDoor = false ∧ shop.drive.b.testEndsAtDoor = false)
      ∧ (OnlyVend v (vendIn .turning) ∧ groupOf 0 = .a ∧ v.drive.a.state = .turning (turnOf 0 .vend)
        ∧ (turnOf 0 .vend).owner = .vend ∧ v.drive.b.testEndsAtDoor = false ∧ NothingWaits v) :=
  ⟨by decide, by decide, rfl, rfl, by decide, ⟨rfl, rfl, rfl⟩, ⟨⟨rfl, rfl, rfl⟩, by decide, rfl, rfl, rfl, ⟨rfl, rfl⟩⟩⟩

theorem witness_ResetLeaves : (0 : Nat) = 0 ∧ Instr.powerOnReset = Instr.powerOnReset := ⟨rfl, rfl⟩

theorem witness_RestartLeaves :
    (evaluating false).link.floor ≤ 7 ∧ (evaluating false).credit.policy.assuranceLimit ≠ 0 := by decide

/-! #### Further clauses: states that meet the hypotheses of each -/

/-- A confirmed coin that opens a session changes credit. -/
theorem witness_ReportedKept_change :
    let s := { withCoin (falling true .cashbox) shop with pending := [.pathPassage] }
    Reported s ∧ ∃ t, step s = .next t ∧ t.credit.session.state ≠ s.credit.session.state :=
  ⟨rfl, _, rfl, by decide⟩

/-- A session that owes 150 while a dispense waits for its coin. -/
theorem witness_CashClosePays_deferred :
    let s := paying (.secondWait 1 0) (some (.dispense 1 3)) (withSession (cashOf 150) shop)
    s.credit.session.state = .opened ∧ s.credit.session.card = none ∧ s.credit.session.cashCredit ≠ 0
      ∧ s.sales.vends = [] ∧ s.change.job = some (.dispense 1 3) ∧ s.change.seq = .secondWait 1 0 := by
  decide

/-- The shop with a tube 1 of its own, and a tube 2 of ten coins of 10. -/
def withTubes (t : Tube) (s : State) : State :=
  { s with
    coin :=
      { s.coin with
        table := coin0 :: { coin0 with value := 10, route := .tube 2 } :: List.replicate 10 .reset }
    tubes := t :: { tubeOf 10 .normal with entry := some 1 } :: List.replicate 3 (.reset false) }

/-- A payout run of `due` in a session that owes it, with this plan. -/
def owing (q : SeqState) (due : Nat) (plan : List PlanLine) (s : State) : State :=
  paying q (some (.payout due due plan)) (withSession { cashOf due with state := .payout } s)

/-- The tube of a dispense has lost its assignment; tube 1 fails with another tube to pay from, and alone. -/
theorem witness_ExitWaitExpires_ends :
    let d := paying (.firstWait 1 0) (some (.dispense 1 3)) (withTubes (tubeOf 0 .absent) (inMode .config))
    let q := owing (.secondWait 1 0) 50 [{ tube := 1, value := 50, coins := 1 }]
    let jammed := fun s : State =>
      { s with tubes := s.tubes.set 0 { s.tube 1 with state := .jammed, jamCount := min 255 ((s.tube 1).jamCount + 1) } }
    (d.change.seq = .firstWait 1 0 ∧ d.change.job = some (.dispense 1 3) ∧ (d.tube 1).state = .absent
        ∧ d.change.deferred = none ∧ NothingWaits d)
      ∧ ((q (withTubes (tubeOf 5 .normal) shop)).change.seq = .secondWait 1 0
        ∧ planFor (jammed (q (withTubes (tubeOf 5 .normal) shop))).searchOrder 50 = [{ tube := 2, value := 10, coins := 5 }])
      ∧ ((q shop).change.seq = .secondWait 1 0 ∧ planFor (jammed (q shop)).searchOrder 50 = [] ∧ NothingWaits (q shop)
        ∧ NothingPending (q shop)) :=
  ⟨⟨rfl, rfl, rfl, rfl, ⟨rfl, rfl⟩⟩, ⟨rfl, by decide +kernel⟩, ⟨rfl, by decide +kernel, ⟨rfl, rfl⟩, noLoad rfl⟩⟩

/-- A tube after one of its coins was paid. -/
def paidFrom (n : Nat) (s : State) : State :=
  { s with tubes := s.tubes.set (n - 1) ({ s.tube n with count := (s.tube n).count - 1 }.derive false) }

/-- The next line names a tube that has become JAMMED, and tube 2 can pay in its place. -/
theorem witness_PayoutGoesOn_stale :
    let l : PlanLine := { tube := 1, value := 50, coins := 1 }
    let s := owing (.firstWait 2 0) 60 [{ tube := 2, value := 10, coins := 1 }, l] (withTubes (tubeOf 5 .jammed) shop)
    s.change.seq = .firstWait 2 0 ∧ (60 - 10 : Nat) ≠ 0 ∧ (paidFrom 2 s).stale l = true
      ∧ planFor (paidFrom 2 s).searchOrder (60 - 10) = [{ tube := 2, value := 10, coins := 5 }] := by
  decide +kernel

/-- A greedy plan of 50 for 70; and a second coin of 50 that its tube no longer has. -/
theorem witness_PayoutEnds_short :
    let greedy := owing (.firstWait 1 0) 70 [{ tube := 1, value := 50, coins := 1 }] shop
    let last := owing (.firstWait 1 0) 100 [{ tube := 1, value := 50, coins := 2 }]
      { shop with tubes := tubeOf 1 .low :: List.replicate 4 (.reset false) }
    (greedy.change.seq = .firstWait 1 0 ∧ (70 - 50 : Nat) ≠ 0 ∧ NothingWaits greedy ∧ NothingPending greedy)
      ∧ (last.change.seq = .firstWait 1 0 ∧ NothingWaits last ∧ NothingPending last
        ∧ (paidFrom 1 last).stale { tube := 1, value := 50, coins := 1 } = true
        ∧ planFor (paidFrom 1 last).searchOrder (100 - 50) = []) :=
  ⟨⟨rfl, by decide, ⟨rfl, rfl⟩, noLoad rfl⟩, ⟨rfl, ⟨rfl, rfl⟩, noLoad rfl, by decide +kernel, by decide +kernel⟩⟩

/-- A dispense with two coins to go, with one, and with one and a change due of 50 behind it. -/
theorem witness_TubeDispenseTaken_coins :
    let d := fun n => paying (.firstWait 1 0) (some (.dispense 1 n)) shop
    let deferred := { d 1 with change := { (d 1).change with deferred := some 50 } }
    ((d 2).change.seq = .firstWait 1 0 ∧ ((paidFrom 1 (d 2)).tube 1).state ≠ .absent
        ∧ ((paidFrom 1 (d 2)).tube 1).state ≠ .jammed)
      ∧ (NothingWaits (d 1) ∧ (d 1).change.deferred = none)
      ∧ (NothingWaits deferred ∧ deferred.change.deferred = some 50
        ∧ planFor (paidFrom 1 deferred).searchOrder 50 = [{ tube := 1, value := 50, coins := 1 }]
        ∧ (deferred.load.granted.filter fun g => !(g.kind = .payout && g.owner = .change)) = []
        ∧ 10 + 0 + deferred.load.table.payout ≤ deferred.load.table.budget) :=
  ⟨by decide +kernel, ⟨⟨rfl, rfl⟩, rfl⟩, ⟨⟨rfl, rfl⟩, rfl, by decide +kernel, by decide +kernel, by decide⟩⟩

/-- The switch of a spiral that does not turn moves: in an IDLE group, and beside the energized position. -/
theorem witness_HomeEvents_beside :
    (∀ t, (shop.group (groupOf 0)).state ≠ .starting t ∧ (shop.group (groupOf 0)).state ≠ .turning t)
      ∧ ∀ t, t.position = 1 →
        ((testing (.turning (turnOf 0 .test)) none).group (groupOf 1)).state ≠ .starting t
          ∧ ((testing (.turning (turnOf 0 .test)) none).group (groupOf 1)).state ≠ .turning t :=
  ⟨fun _ => ⟨nofun, nofun⟩, fun t h => ⟨nofun, fun e => by cases e; cases h⟩⟩

/-- COND and CAB, each FAILED, and each with 59 bad samples behind it, at rest and RUNNING. -/
theorem witness_SensorsSampled_notices :
    let s := readings 50 20 300 shop
    let cond := fun x : Sensor → Sensor => { s with plant := { s.plant with cond := x s.plant.cond } }
    let cab := fun x : Sensor → Sensor => { s with plant := { s.plant with cab := x s.plant.cab } }
    let gone := fun x : Sensor => { x with state := .failed, badRun := 60 }
    let going := fun x : Sensor => { x with state := .holding, badRun := 59 }
    let run := withPlant (.running 0) .idle (cab going)
    ((cond gone).plant.cond.state = .failed ∧ (cond going).plant.cond.state ≠ .failed ∧ 59 ≤ (cond going).plant.cond.badRun)
      ∧ ((cab gone).plant.cab.state = .failed ∧ (cab gone).plant.compressor = .offMin)
      ∧ ((cab going).plant.cab.state ≠ .failed ∧ 59 ≤ (cab going).plant.cab.badRun ∧ (cab going).plant.lockout = false
        ∧ (cab going).sales.vends = []
        ∧ decide ((cab going).plant.cooling.fallbackOff * 1000 ≤ max 0 (cab going).plant.sampleAt - 0) = false)
      ∧ (run.plant.compressor = .running 0 ∧ max run.now run.plant.sampleAt - 0 < run.plant.cooling.minRun * 1000)
      ∧ convert ((s.plant.curve.drop 16).take 8) 4079 ≤ s.plant.cooling.condCutout := by
  decide +kernel

/-- COND above the limit of 650 at a count of 600 and at Condenser Reset near a count of 850, in each state of the compressor. -/
theorem witness_CompressorStops_limit :
    let s := fun c => withPlant c .idle (readings 50 20 300 shop)
    let claimed := fun (c : Compressor) (k : LoadKind) =>
      { s c with load := { (s c).load with granted := [{ kind := k, owner := .plant, units := 25, since := 0, arrival := 0 }] } }
    let lost := { s .protecting with
      plant := { (s .protecting).plant with cab := { (s .protecting).plant.cab with state := .failed, badRun := 60 } } }
    (∀ c, (s c).plant.cab.state ≠ .failed ∧ (s c).plant.coil.state ≠ .failed ∧ (s c).plant.cond.state ≠ .failed
        ∧ (s c).plant.defrost = .idle ∧ (s c).plant.compressor = c)
      ∧ (s .offMin).plant.cooling.condReset < (s .offMin).plant.cooling.condCutout
      ∧ (s .offMin).plant.cooling.condCutout < convert (((s .offMin).plant.curve.drop 16).take 8) 600
      ∧ ((startWaits [] 70).plant.compressor = .startWait ∧ (startWaits [] 70).load.held = []
        ∧ (startWaits [] 70).plant.cab.state ≠ .failed)
      ∧ (NothingWaits (claimed (.starting 0) .compressorStart) ∧ NothingWaits (claimed (.running 0) .compressorRun))
      ∧ ((s .protecting).plant.cooling.condReset < convert (((s .protecting).plant.curve.drop 16).take 8) 842
        ∧ convert (((s .protecting).plant.curve.drop 16).take 8) 843 ≤ (s .protecting).plant.cooling.condReset)
      ∧ (lost.plant.cab.state = .failed ∧ ¬ (16 ≤ (15 : Nat) ∧ (15 : Nat) ≤ 4079)) :=
  ⟨fun _ => ⟨nofun, nofun, nofun, rfl, rfl⟩, by decide, by decide +kernel, ⟨rfl, rfl, nofun⟩, ⟨⟨rfl, rfl⟩, ⟨rfl, rfl⟩⟩,
    by decide +kernel,
    ⟨rfl, by decide⟩⟩

/-- Channel 0, the note acceptor's, in AWAIT with a POLL, a note of 20 at index 0, and a session. -/
def noteIn (x : Session) : State :=
  let a := awaiting .noteAcceptor .poll id
  { a with credit := { a.credit with notes := a.credit.notes.set 0 { enabled := true, value := 20 }, session := x } }

/-- The card reader on channel 0 in AWAIT with a POLL, and a session of that channel in it. -/
def cardIn (x : Session) : State :=
  let a := awaiting .cardReader .poll id
  { a with credit := { a.credit with session := x } }

/-- IDLE; 10 below the ceiling; CLOSE_WAIT; CARD; PAYOUT; a cancel without a session and with one. -/
theorem witness_MoneyReported_stacked :
    let card : Session := { cardOf 500 with card := some { channel := 0, limit := 500 } }
    ((noteIn .reset).credit.session.state = .idle ∧ (0 : Byte).toNat ≤ 7)
      ∧ ((noteIn (cashOf 990)).credit.session.funding = .cash ∧ (noteIn (cashOf 990)).credit.session.state = .opened)
      ∧ (noteIn { cashOf 0 with state := .closeWait }).credit.session.state = .closeWait
      ∧ ((noteIn (cardOf 500)).credit.session.state ≠ .idle ∧ (noteIn (cardOf 500)).credit.session.funding ≠ .cash)
      ∧ (noteIn { cashOf 0 with state := .payout }).credit.session.state = .payout
      ∧ (((cardIn .reset).channel 0).cfg.role = .cardReader ∧ ((cardIn .reset).channel 0).lastEvent ≠ some 5
        ∧ (cardIn .reset).credit.session.state ≠ .opened)
      ∧ ((cardIn card).credit.session.state = .opened ∧ (cardIn card).credit.session.funding = .card
        ∧ (cardIn card).credit.session.card = some { channel := 0, limit := 500 } ∧ (cardIn card).sales.vends = []
        ∧ NothingPending (cardIn card) ∧ ((cardIn card).bridge.channels[0]?).isSome) :=
  ⟨by decide, by decide, by decide, by decide, by decide, by decide, ⟨rfl, rfl, rfl, rfl, noLoad rfl, by decide⟩⟩

/-- The third miss with two host frames queued, the first of them on the bus, and a STACK in the slot. -/
theorem witness_ResponseMisses_host :
    let s := awaiting .noteAcceptor .host fun c =>
      { c with misses := 2, slot := some .stack, queue := [hostFrame, { hostFrame with seq := 4 }] }
    (s.channel 0).state = .await .ready ∧ (s.channel 0).cfg.missLimit ≤ min 15 ((s.channel 0).misses + 1)
      ∧ (s.channel 0).queue = [hostFrame, { hostFrame with seq := 4 }] ∧ (s.channel 0).slot = some .stack
      ∧ (∀ r, Command.stack ≠ .settle r) ∧ (txn .host).work = .host :=
  ⟨rfl, by decide, rfl, rfl, nofun, rfl⟩

/-- RUNNING inside Min Run and at its end, with the compressor's grant and room for the defrost's claim; a start claim that
waits. -/
theorem witness_DefrostStarts_running :
    let on := fun now : Nat =>
      let s := withPlant (.running 0) .idle (readings 50 79 300 shop)
      { s with
        now := now
        load := { s.load with granted := [{ kind := .compressorRun, owner := .plant, units := 25, since := 0, arrival := 0 }] } }
    let w := startWaits [] 70
    ((on 59999).plant.compressor = .running 0 ∧ (on 59999).now - 0 < (on 59999).plant.cooling.minRun * 1000)
      ∧ ((on 60000).plant.cooling.minRun * 1000 ≤ (on 60000).now - 0 ∧ NothingWaits (on 60000)
        ∧ (∀ g ∈ (on 60000).load.granted, g.kind ≠ .defrost) ∧ (on 60000).plant.coilEnd = false
        ∧ 10 + 0 + (on 60000).load.table.defrost ≤ (on 60000).load.table.budget
        ∧ (on 60000).plant.cooling.minRun * 1000
          ≤ max (on 60000).now (0 + ((on 60000).plant.cooling.defrostInterval * 1000 - (on 60000).plant.runMs)) - 0)
      ∧ (w.plant.defrost = .idle ∧ w.plant.compressor = .startWait
        ∧ w.load.queue = [{ kind := .compressorStart, owner := .plant, units := 60, priority := 3, arrival := 0 }]
        ∧ w.load.held = [] ∧ w.load.drawn + w.load.table.defrost ≤ w.load.table.budget ∧ w.plant.coilEnd = false) :=
  ⟨⟨rfl, by decide⟩, ⟨by decide, ⟨rfl, rfl⟩, by decide, by decide, by decide, by decide⟩, rfl, rfl, rfl, rfl, by decide, by decide⟩

/-- SUSPENDED with its claim waiting; DRIP in OFF_READY with CAB at Setpoint and at Cut-In; HEATING with a Drip of 0. -/
theorem witness_DefrostEnds_other :
    let s := fun (c : Compressor) (d : Defrost) (cab : Int) => withPlant c d (readings cab 20 300 shop)
    let held := { s .offMin (.suspended .request) 50 with
      load := { shop.load with
        queue := [{ kind := .defrost, owner := .plant, units := 40, priority := 4, arrival := 0 }] } }
    let dry := { s .offMin (.heating .request 0) 50 with
      plant := { (s .offMin (.heating .request 0) 50).plant with cooling := { Cooling.reset with drip := 0 } } }
    (held.plant.defrost = .suspended .request ∧ held.load.held = [] ∧ ∀ g ∈ held.load.granted, g.kind ≠ .defrost)
      ∧ ((s .offReady (.drip .request 0) 40).plant.compressor = .offReady
        ∧ (s .offReady (.drip .request 0) 40).plant.cab.temp = some 40
        ∧ (40 : Int) ≤ (s .offReady (.drip .request 0) 40).plant.cooling.setpoint)
      ∧ ((s .offReady (.drip .request 0) 70).plant.limitApplies = false ∧ NothingWaits (s .offReady (.drip .request 0) 70)
        ∧ (s .offReady (.drip .request 0) 70).load.drawn + (s .offReady (.drip .request 0) 70).load.table.compressorStart
          ≤ (s .offReady (.drip .request 0) 70).load.table.budget)
      ∧ (dry.plant.defrost = .heating .request 0 ∧ dry.plant.cooling.drip = 0 ∧ NothingWaits dry) :=
  ⟨⟨rfl, rfl, by decide⟩, ⟨rfl, rfl, by decide⟩, ⟨by decide, ⟨rfl, rfl⟩, by decide⟩, rfl, rfl, ⟨rfl, rfl⟩⟩

def coinBytes : List Byte := [1, 0, 50, 0, 0, 0, 10, 0, 0, 0, 10, 0, 0, 3, 0xFF, 1]
def curveBytes : List Byte := [0, 150, 4, 0xE2]
def channelBytes : List Byte := [2, 5, 1, 2, 0, 4, 3, 20]

/-- A load of each kind in range; a COOLING record with CAB at Setpoint; a CURVE point that keeps its curve rising; an idle
channel and one with a host frame. -/
theorem witness_CommitsTaken_kinds :
    (coinOf coinBytes).isSome ∧ (assignmentOf [0, 20, 0, 2]).isSome ∧ (assignmentOf [0xFF, 120, 120, 120]).isSome
      ∧ (policyOf [3, 0xE8, 1, 0, 10, 0, 100]).isSome ∧ (selectionOf [0, 100, 1, 2]).isSome
      ∧ ((coolingBytes Cooling.reset.written).inRange = true ∧ coolingBytes Cooling.reset.written = Cooling.reset
        ∧ (readings 40 20 300 shop).plant.cab.temp = some 40)
      ∧ ((pointBytes curveBytes).inRange = true ∧ Rising (((builtInCurve ++ builtInCurve).set 0 (pointBytes curveBytes)).take 8)
        ∧ shop.plant.curve.length = 24)
      ∧ ((Machine.channelOf channelBytes).isSome ∧ shop.bridge.line = .guarding shop.now ∧ (shop.channel 0).queue = []
        ∧ (shop.channel 0).slot = none ∧ shop.bridge.channels.length = 4
        ∧ ∀ n, n < 4 → n ≠ 0 → (shop.channel n).cfg.hostNode = 0)
      ∧ ((awaiting .passive .host fun c => { c with queue := [hostFrame] }).channel 0).queue ≠ [] := by
  refine ⟨by decide, by decide, by decide, by decide +kernel, by decide, ⟨by decide +kernel, by decide +kernel, rfl⟩,
    ⟨by decide +kernel, by unfold Rising; decide +kernel, rfl⟩, by decide, by decide⟩

/-- A NOTE load that waits for a session which has spent all it took. -/
theorem witness_CommitsTaken_pending :
    let b : Buffer := { kind := .note, first := 0, entries := [[1, 0, 50]], extent := 1 }
    let s := withSession (cashOf 0) { shop with tables := { shop.tables with staging := .pending b } }
    s.tables.staging = .pending b ∧ b.kind = .note ∧ s.credit.session.state = .opened ∧ s.credit.session.card = none
      ∧ s.credit.session.cashCredit = 0 ∧ s.sales.vends = [] := by
  decide

/-! #### Vends that wait, closes at the end of a vend, channels that come back, the holds -/

/-- The shop's vend of position 0 waits alone: QUEUED without a claim, or in WAIT_POWER with the only claim that waits. -/
def waitsAlone (st : VendState) (claims : List Claim) : State :=
  let s := vending st (.turning (turnOf 1 .test))
  { s with load := { shop.load with queue := claims } }

/-- The claim of the vend in WAIT_POWER. -/
def motorClaim : Claim := { kind := .motor .a, owner := .vend, units := 15, priority := 2, arrival := 0 }

theorem waitsAlone_queued : WaitsAlone (waitsAlone .queued []) (vendIn .queued) shop.load :=
  ⟨⟨rfl, rfl, rfl⟩, .inl ⟨rfl, ⟨rfl, rfl⟩, rfl⟩⟩

theorem waitsAlone_power : WaitsAlone (waitsAlone .waitPower [motorClaim]) (vendIn .waitPower) shop.load :=
  ⟨⟨rfl, rfl, rfl⟩, .inr ⟨rfl, rfl, rfl, ⟨motorClaim, rfl, by decide, rfl⟩, by decide⟩⟩

/-- A vend that turns between two that are QUEUED, one of them for an add-on turn; and a vend that waits alone in each way. -/
theorem witness_CloseTurnedAwayOrWaits_queued :
    let s := vending .turning (.turning (turnOf 0 .vend))
    let s := { s with sales := { s.sales with
      vends := [{ vendIn .queued with id := 4 }, vendIn .turning, { vendIn .queued with id := 2, turnsMade := 1 }]
      started := [2, 0] } }
    (s.credit.session.state = .opened ∧ s.sales.vends.length ≤ 4 ∧ (s.sales.vends.map Vend.id).Nodup
        ∧ (∀ v ∈ s.sales.vends, v.result = none ∧ v.state ≠ .waitPower) ∧ ∃ v ∈ s.sales.vends, v.state ≠ .queued)
      ∧ (WaitsAlone (waitsAlone .queued []) (vendIn .queued) shop.load ∧ NothingPending (waitsAlone .queued []))
      ∧ (WaitsAlone (waitsAlone .waitPower [motorClaim]) (vendIn .waitPower) shop.load
        ∧ NothingPending (waitsAlone .waitPower [motorClaim])) :=
  ⟨by decide, ⟨waitsAlone_queued, noLoad rfl⟩, ⟨waitsAlone_power, noLoad rfl⟩⟩

/-- The dispense from tube 1 jams, and a change due of 50 that was deferred can be paid from tube 2. -/
theorem witness_ExitWaitExpires_deferred :
    let s := paying (.secondWait 1 0) (some (.dispense 1 3)) (withTubes (tubeOf 5 .normal) shop)
    let s := { s with change := { s.change with deferred := some 50 } }
    let jammed := { s with tubes := s.tubes.set 0 { s.tube 1 with state := .jammed, jamCount := 1 } }
    let left := s.load.granted.filter fun g => !(g.kind = .payout && g.owner = .change)
    (s.change.seq = .secondWait 1 0 ∧ s.change.job = some (.dispense 1 3) ∧ s.change.deferred = some 50 ∧ NothingWaits s
        ∧ 1 ≤ s.tubes.length)
      ∧ planFor jammed.searchOrder 50 = [{ tube := 2, value := 10, coins := 5 }]
      ∧ (∀ g ∈ left, g.kind ≠ .payout) ∧ 10 + grantedUnits left + s.load.table.payout ≤ s.load.table.budget :=
  ⟨⟨rfl, rfl, rfl, ⟨rfl, rfl⟩, by decide⟩, by decide +kernel, by decide, by decide⟩

/-- A second vend of the position behind one whose window runs out with the miss streak at 1, and behind one that turns. -/
theorem witness_DropWindowExpires_second :
    let w := { vendIn .queued with id := 5 }
    let s := waiting 0 1 .ambient false
    let s := { s with sales := { s.sales with vends := [vendIn (.dropWait 0), w] } }
    s.sales.vends = [vendIn (.dropWait 0), w] ∧ (vendIn (.dropWait 0)).id ≠ w.id ∧ w.state = .queued
      ∧ s.credit.session.state = .opened ∧ w.position = (vendIn (.dropWait 0)).position ∧ s.sales.started[1 - 1]? = some 0
      ∧ (s.selection 0).addOn < (vendIn (.dropWait 0)).turnsMade ∧ (s.selection 0).state = .available
      ∧ 2 ≤ min 15 ((s.selection 0).missStreak + 1) := by
  decide

theorem witness_TurnFaults_second :
    let w := { vendIn .queued with id := 5 }
    let s := vending .turning (.turning (turnOf 0 .vend))
    let s := { s with sales := { s.sales with vends := [vendIn .turning, w] } }
    NothingWaits s ∧ (s.group .a).state = .turning (turnOf 0 .vend) ∧ s.sales.vends = [vendIn .turning, w]
      ∧ (vendIn .turning).id ≠ w.id ∧ w.state = .queued ∧ w.position = (turnOf 0 .vend).position
      ∧ (vendIn .turning).position = (turnOf 0 .vend).position ∧ groupOf 0 = .a ∧ s.credit.session.state = .opened :=
  ⟨⟨rfl, rfl⟩, by decide⟩

/-- A session in CLOSE_WAIT. -/
def closingWith (n : Nat) : Session := { cashOf n with state := .closeWait }

/-- In CLOSE_WAIT: the door finds the last vend in each stage, in SALES; a Drop Window takes the streak to 2; and a turn that
faults. -/
theorem witness_DeliveryCloses_ends :
    let s := fun (st : VendState) (claims : List Claim) (grants : List Grant) =>
      let u := withSession (closingWith 100) (vending st (.turning (turnOf 0 .vend)))
      { u with load := { u.load with queue := claims, granted := grants } }
    let grant : Grant := { kind := .motor .a, owner := .vend, units := 15, since := 0, arrival := 0 }
    let late := withSession (closingWith 100) (waiting 0 1 .ambient false)
    (∀ st c g, (s st c g).sales.vends = [vendIn st] ∧ (vendIn st).result = none
        ∧ (s st c g).credit.session.state = .closeWait ∧ (s st c g).tables.mode ≠ .service
        ∧ (s st c g).drive.a.testEndsAtDoor = false ∧ (s st c g).drive.b.testEndsAtDoor = false)
      ∧ ClaimGone (s .turning [] [grant]) (vendIn .turning) shop.load
      ∧ ClaimGone (s .waitPower [motorClaim] []) (vendIn .waitPower) shop.load
      ∧ ClaimGone (s (.dropWait 0) [] []) (vendIn (.dropWait 0)) shop.load
      ∧ (late.sales.vends = [vendIn (.dropWait 0)] ∧ late.credit.session.state = .closeWait
        ∧ late.sales.started[1 - 1]? = some 0 ∧ (late.selection 0).addOn < 1 ∧ (late.selection 0).state = .available
        ∧ 2 ≤ min 15 ((late.selection 0).missStreak + 1))
      ∧ (((s .turning [] [grant]).group .a).state = .turning (turnOf 0 .vend) ∧ (turnOf 0 .vend).owner = .vend
        ∧ NothingWaits (s .turning [] [grant]) ∧ (vendIn .turning).position = (turnOf 0 .vend).position ∧ groupOf 0 = .a) :=
  ⟨fun _ _ _ => ⟨rfl, rfl, rfl, nofun, rfl, rfl⟩, .inr (.inl ⟨rfl, by decide⟩),
    .inr (.inr ⟨rfl, rfl, rfl, ⟨motorClaim, rfl, by decide, rfl⟩, by decide⟩), .inl ⟨.inr ⟨0, rfl⟩, rfl⟩, by decide,
    ⟨rfl, rfl, ⟨rfl, rfl⟩, rfl, by decide⟩⟩

/-- In CLOSE_WAIT: a delivery that leaves 150 owed, and a CARD session whose reader is READY; a window that runs out with 100
owed, and one in a lockout with an add-on turn due; a drop in an OPEN session with Multi-vend off. -/
theorem witness_DeliveryCloses_wait :
    let item := { vendIn .turning with droppedEarly := true }
    let fell := fun x : Session =>
      let s := withSession x (vending .turning (.turning (turnOf 0 .vend)))
      { s with sales := { s.sales with vends := [item] }, load := { s.load with granted := [] } }
    let late := fun a h l => withSession (closingWith 100) (waiting a 0 h l)
    let dropped := withBeam (.timing 0) (waiting 0 0 .ambient false)
    ((fell (closingWith 250)).credit.session.state = .closeWait ∧ NothingWaits (fell (closingWith 250))
        ∧ NothingPending (fell (closingWith 250)) ∧ (fell (closingWith 250)).change.seq = .idle
        ∧ (fell (closingWith 250)).load.drawn + (fell (closingWith 250)).load.table.payout
          ≤ (fell (closingWith 250)).load.table.budget
        ∧ planFor (fell (closingWith 250)).searchOrder (250 - 100) = [{ tube := 1, value := 50, coins := 3 }])
      ∧ (let s := withChannel (channelOf .cardReader .ready) .idle
            (fell { closingWith 0 with funding := .card, card := some { channel := 0, limit := 500 } })
        s.credit.session.card = some { channel := 0, limit := 500 } ∧ (s.bridge.channels[0]?).isSome
          ∧ (s.channel 0).isReady = true ∧ (s.channel 0).slot = none)
      ∧ ((late 0 .ambient false).sales.vends = [vendIn (.dropWait 0)]
        ∧ (late 0 .ambient false).credit.session.state = .closeWait ∧ ((late 0 .ambient false).selection 0).addOn < 1
        ∧ min 15 (((late 0 .ambient false).selection 0).missStreak + 1) < 2
        ∧ planFor (late 0 .ambient false).searchOrder 100 = [{ tube := 1, value := 50, coins := 2 }])
      ∧ (1 ≤ ((late 1 .chilled true).selection 0).addOn ∧ ((late 1 .chilled true).selection 0).health = .chilled
        ∧ (late 1 .chilled true).plant.lockout = true)
      ∧ (dropped.drive.beam = .timing 0 ∧ dropped.sales.vends = [vendIn (.dropWait 0)] ∧ 0 ∈ dropped.sales.started
        ∧ dropped.credit.policy.multiVend = false) :=
  ⟨⟨rfl, ⟨rfl, rfl⟩, noLoad rfl, rfl, by decide, by decide +kernel⟩, by decide, by decide +kernel, by decide, by decide⟩

/-- The lockout finds a vend of the CHILLED position that waits alone, in each way, and one that turns. -/
theorem witness_ExposureSteps_waiting :
    let warm := fun s : State => { readings 81 20 300 (priced 0 100 .chilled s) with
      plant := { (readings 81 20 300 s).plant with exposure := 299 } }
    (WaitsAlone (warm (waitsAlone .queued [])) (vendIn .queued) shop.load
        ∧ ((warm (waitsAlone .queued [])).selection 0).health = .chilled
        ∧ (warm (waitsAlone .queued [])).plant.lockout = false)
      ∧ WaitsAlone (warm (waitsAlone .waitPower [motorClaim])) (vendIn .waitPower) shop.load
      ∧ 300 ≤ min 65535 (299 + ((81 : Int) - (warm shop).plant.cooling.safeLimit).toNat)
      ∧ ∀ v ∈ (warm (vending .turning .idle)).sales.vends, v.waits = true →
        ((warm (vending .turning .idle)).selection v.position).health ≠ .chilled :=
  ⟨⟨⟨⟨rfl, rfl, rfl⟩, .inl ⟨rfl, ⟨rfl, rfl⟩, rfl⟩⟩, rfl, rfl⟩,
    ⟨⟨rfl, rfl, rfl⟩, .inr ⟨rfl, rfl, rfl, ⟨motorClaim, rfl, by decide, rfl⟩, by decide⟩⟩, by decide, by decide⟩

/-- Channel 0 in AWAIT from SUSPECT, or in PROBING, with work on the bus, and settlements listed for channels 1 and 0. -/
def returning (r : Role) (st : ChannelState) (w : Work) (c : Channel → Channel) : State :=
  let s := withChannel (c (channelOf r st)) (.waiting (txn w)) shop
  let owed := fun n => ({ channel := n, amount := 300, vends := 1, openedAt := 0 } : Settlement)
  { s with credit := { s.credit with settlements := [owed 1, owed 0] } }

/-- SUSPECT with a POLL, with a host frame, and with a DENY or a STACK in the slot; READY with a DENY; PROBING with a PROBE; and
the settlement that moves, behind another channel's. -/
theorem witness_RepliesTaken_ready :
    let s := fun (r : Role) (w : Work) (c : Channel → Channel) => returning r (.await .suspect) w c
    let deny := fun c : Channel => { c with slot := some .deny }
    ((s .noteAcceptor .poll id).channel 0).state = .await .suspect
      ∧ ((s .passive .host fun c => { c with queue := [hostFrame] }).channel 0).queue = [hostFrame]
      ∧ (((s .cardReader .internal deny).channel 0).slot = some .deny
        ∧ ((s .cardReader .internal deny).channel 0).cfg.role = .cardReader)
      ∧ (Command.stack ≠ .deny ∧ ∀ r, Command.stack ≠ .settle r)
      ∧ ((returning .cardReader (.await .ready) .internal deny).channel 0).state = .await .ready
      ∧ ((returning .cardReader .probing .probe id).channel 0).state = .probing
      ∧ ((s .cardReader .poll id).credit.settlements
          = [{ channel := 1, amount := 300, vends := 1, openedAt := 0 }]
            ++ { channel := 0, amount := 300, vends := 1, openedAt := 0 } :: []
        ∧ ((s .cardReader .poll id).channel 0).slot = none ∧ (s .cardReader .poll id).credit.deny = false) :=
  ⟨rfl, rfl, ⟨rfl, rfl⟩, ⟨nofun, nofun⟩, rfl, rfl, ⟨rfl, rfl, rfl⟩⟩

/-- The note acceptor on channel 0 in a state, with what its slot and the holds contain and the mask last handed over. -/
def holding (st : ChannelState) (slot : Option Command) (answer : Option Escrow) (last : Byte) : State :=
  let s := withChannel { channelOf .noteAcceptor st with slot := slot } .idle shop
  { s with credit := { s.credit with answer := answer, maskLast := some last } }

/-- A slot that is free for the answer and for the mask, one that is full, and a channel that is away; no note of the table is
enabled, so that the mask is 0; and a DENY for a reader that is SUSPECT. -/
theorem witness_MoneyReported_holds :
    let s := holding .ready none (some .stack) 4
    let reader := withChannel (channelOf .cardReader .suspect) .idle
      { shop with credit := { shop.credit with deny := true } }
    SlotFree s .noteAcceptor ∧ s.credit.answer = some .stack
      ∧ (SlotFree (holding .ready none none 4) .noteAcceptor ∧ (holding .ready none none 4).credit.maskLast = some 4
        ∧ (4 : Byte) ≠ 0 ∧ ∀ k, k < 8 → ((0 : Byte).getLsbD k = true ↔ Stacks (holding .ready none none 4) k))
      ∧ (Reachable (holding .ready (some .stack) none 4) .noteAcceptor
        ∧ ¬ SlotFree (holding .ready (some .stack) none 4) .noteAcceptor)
      ∧ ¬ Reachable (holding .lost none (some .stack) 4) .noteAcceptor
      ∧ (reader.credit.deny = true ∧ SlotFree reader .cardReader) := by
  have role : ∀ st slot answer last, HasRole (holding st slot answer last) .noteAcceptor 0 := fun _ _ _ _ =>
    ⟨⟨by decide, nofun, rfl⟩, fun _ h => absurd h (Nat.not_lt_zero _)⟩
  have only : ∀ st slot answer last n, HasRole (holding st slot answer last) .noteAcceptor n → n = 0 := fun _ _ _ _ n h => by
    match n with
    | 0 => rfl
    | 1 | 2 | 3 => exact absurd rfl h.1.2.1
    | _ + 4 => exact absurd h.1.1 (by omega)
  refine ⟨⟨0, role .., .inl rfl, rfl⟩, rfl, ⟨⟨0, role .., .inl rfl, rfl⟩, rfl, by decide, by unfold Stacks; decide⟩,
    ⟨⟨0, role .., .inl rfl⟩, fun ⟨n, h, _, e⟩ => ?_⟩, fun ⟨n, h, l⟩ => ?_, rfl,
    0, ⟨⟨by decide, nofun, rfl⟩, fun _ h => absurd h (Nat.not_lt_zero _)⟩, .inr (.inl rfl), rfl⟩
  · obtain rfl := only _ _ _ _ n h; cases e
  · obtain rfl := only _ _ _ _ n h
    rcases l with l | l | ⟨_, l⟩ <;> cases l

/-- A price of 0 for the position of a QUEUED vend; a CURVE point that does not rise behind the one before it; a CHANNEL entry out of
range, and one with the node of a channel behind it. -/
theorem witness_CommitsTaken_bad :
    let s := { waitsAlone .queued [] with tables := { shop.tables with mode := .config } }
    let curve := (builtInCurve ++ builtInCurve).set 1 (pointBytes [0, 200, 0, 0])
    let other := { Channel.reset with cfg := { channelOf .passive .ready with }.cfg }
    (OnlyVend s (vendIn .queued) ∧ s.tables.mode = .config
        ∧ selectionOf [0, 0, 0, 1] =
          some { price := 0, health := .ambient, addOn := 1, state := .available, missStreak := 0, vendCount := 0 })
      ∧ ((curve.getD 1 ⟨0, 0⟩).count ≤ (curve.getD 0 ⟨0, 0⟩).count ∧ 1 % 8 ≠ 0 ∧ (curve.getD 0 ⟨0, 0⟩).inRange = true)
      ∧ Machine.channelOf [2, 5, 3, 2, 0, 4, 3, 20] = none
      ∧ (∃ x, Machine.channelOf [7, 5, 2, 2, 0, 4, 3, 20] = some x ∧ x.node = other.cfg.node ∧ x.hostNode ≠ 0
        ∧ other.cfg.hostNode ≠ 0) :=
  ⟨⟨⟨rfl, rfl, rfl⟩, rfl, by decide⟩, by decide +kernel, by decide, ⟨_, rfl, by decide, by decide, by decide⟩⟩

end Sys2Proof.Tests
end

/-! ## Coin passages with the path EMPTY (01, R7 and R11) -/

namespace Sys2Proof.Machine

/-- The instruction PATH_PASSAGE is carried out by the Coin Acceptor's command. -/
theorem exec_pathPassage : ∀ s : State, exec .pathPassage s = execPathPassage s := by
  intros; rfl

/-- The selector is at rest (R7): no coin holds a route. -/
theorem State.selector_of_path_empty {s : State} (h : s.coin.path = .empty) : s.selector = .cashbox := by
  rw [State.selector, h]

/-- A passage that no acceptance explains (R11) is only reported. -/
theorem execPathPassage_of_path_empty {s : State} (h : s.coin.path = .empty) :
    execPathPassage s = .next (s.raise .unexpectedCoin none []) := by
  rw [execPathPassage, h]

/-- A notice reaches the Machine Link's queue with the present stamp and touches no other block (R154). -/
theorem State.raise_eq (s : State) (k : NoticeKind) (subject : Option Nat) (values : List Nat) :
    s.raise k subject values =
      { s with link := s.link.push { kind := k, stamp := s.stamp, subject := subject, values := values } } :=
  rfl

/-- Settles O12: with the path EMPTY the command is the raising of one notice, and raising changes the link alone. -/
theorem passageUnexpected : Obligations.PassageUnexpected := by
  intro s hempty
  refine ⟨State.selector_of_path_empty hempty, ?_⟩
  rw [exec_pathPassage, execPathPassage_of_path_empty hempty, State.raise_eq]

end Sys2Proof.Machine

/-! ## Exit breaks with no Exit Wait open (03, R55) -/

namespace Sys2Proof.Machine

/-- The instruction PAYOUT_EXIT_BREAK is carried out by the Change Sequencer's command. -/
theorem exec_payoutExitBreak : ∀ s : State, exec .payoutExitBreak s = execPayoutExitBreak s := by
  intros; rfl

/-- No payout or dispense is under way: there is no coin to confirm. -/
theorem execPayoutExitBreak_of_idle {s : State} (h : s.change.seq = .idle) :
    execPayoutExitBreak s = .next s := by
  rw [execPayoutExitBreak, h]

/-- A dispense has ended and the run handed over during it is still to be planned (R51): no coin of it has been pulsed. -/
theorem execPayoutExitBreak_of_deferred {s : State} (h : s.change.seq = .deferred) :
    execPayoutExitBreak s = .next s := by
  rw [execPayoutExitBreak, h]

/-- A PAYOUT claim, of a run or a dispense, waits in the Load Arbiter: its coin is not pulsed before the grant. -/
theorem execPayoutExitBreak_of_claimWait {s : State} (h : s.change.seq = .claimWait) :
    execPayoutExitBreak s = .next s := by
  rw [execPayoutExitBreak, h]

/-- Settles O23, by the three sequencer states in which no Exit Wait is open. -/
theorem exitBreakIgnored : Obligations.ExitBreakIgnored := by
  intro s hclosed
  rw [exec_payoutExitBreak]
  obtain hidle | hdeferred | hclaim := hclosed
  · exact execPayoutExitBreak_of_idle hidle
  · exact execPayoutExitBreak_of_deferred hdeferred
  · exact execPayoutExitBreak_of_claimWait hclaim

end Sys2Proof.Machine

/-! ## The clearing of a Selection Table record and Max Available Price (04, R63; 03, R50) -/

namespace Sys2Proof.Machine

/-! ### Max Available Price -/

/-- The last record raises the highest price, if it is sellable; otherwise it does not count. -/
theorem highestPrice_append_singleton (xs : List Selection) (x : Selection) (lockout : Bool) :
    highestPrice (xs ++ [x]) lockout =
      if x.sellable lockout then max (highestPrice xs lockout) x.price else highestPrice xs lockout := by
  rw [highestPrice, List.foldl_append]
  rfl

theorem HighestPrice.nil (lockout : Bool) : HighestPrice [] lockout 0 := by
  simp [HighestPrice]

/-- A record that is not sellable leaves the bound and the record that reaches it as they were. -/
theorem HighestPrice.append_unsellable {xs : List Selection} {x : Selection} {lockout : Bool} {m : Nat}
    (h : HighestPrice xs lockout m) (hx : x.sellable lockout = false) : HighestPrice (xs ++ [x]) lockout m := by
  obtain ⟨hbound, hreached⟩ := h
  constructor
  · intro y hy hsells
    obtain hy | rfl : y ∈ xs ∨ y = x := by simpa using hy
    · exact hbound y hy hsells
    · simp [hx] at hsells
  · obtain hzero | ⟨y, hy, hreaches⟩ := hreached
    · exact .inl hzero
    · exact .inr ⟨y, List.mem_append_left _ hy, hreaches⟩

/-- A sellable record bounds the rest up to its own price, and reaches the bound where it is the dearer. -/
theorem HighestPrice.append_sellable {xs : List Selection} {x : Selection} {lockout : Bool} {m : Nat}
    (h : HighestPrice xs lockout m) (hx : x.sellable lockout = true) :
    HighestPrice (xs ++ [x]) lockout (max m x.price) := by
  obtain ⟨hbound, hreached⟩ := h
  constructor
  · intro y hy hsells
    obtain hy | rfl : y ∈ xs ∨ y = x := by simpa using hy
    · exact (hbound y hy hsells).trans (le_max_left _ _)
    · exact le_max_right _ _
  · obtain hle | hlt := le_or_gt m x.price
    · exact .inr ⟨x, by simp, hx, (max_eq_right hle).symm⟩
    · rw [max_eq_left hlt.le]
      obtain hzero | ⟨y, hy, hreaches⟩ := hreached
      · exact .inl hzero
      · exact .inr ⟨y, List.mem_append_left _ hy, hreaches⟩

/-- The model's Max Available Price is the one R50 describes: by the records from the first to the last. -/
theorem highestPrice_spec (xs : List Selection) (lockout : Bool) :
    HighestPrice xs lockout (highestPrice xs lockout) := by
  induction xs using List.reverseRecOn with
  | nil => exact .nil lockout
  | append_singleton xs x ih =>
    rw [highestPrice_append_singleton]
    split
    case isTrue hx => exact ih.append_sellable hx
    case isFalse hx => exact ih.append_unsellable (Bool.eq_false_of_not_eq_true hx)

/-- A command whose one act is the recomputing of Max Available Price: the act gives no further ones. -/
theorem run_reprice (s : State) : run s [.reprice] = s.repriceNow.conclude := by
  rw [run, settle_cons (by decide)]
  exact congrArg State.conclude (settle_nil _ _)

/-! ### The clearing of a record -/

/-- An entry changed is the entry set to its changed value: beyond the table's end, where the default stands in for the
entry, both change nothing. -/
theorem editAt_eq_set_getD {α : Type} (f : α → α) (d : α) :
    ∀ (n : Nat) (l : List α), editAt f n l = l.set n (f (l.getD n d))
  | _, [] => by simp [editAt]
  | 0, _ :: _ => by simp [editAt]
  | n + 1, _ :: l => by simp [editAt, editAt_eq_set_getD f d n l]

/-- A change of one Selection Table record touches the Selection Table alone. -/
theorem State.modSelection_eq (s : State) (p : Nat) (f : Selection → Selection) :
    s.modSelection p f =
      { s with sales := { s.sales with selections := s.sales.selections.set p (f (s.selection p)) } } := by
  rw [State.modSelection, State.modSales, editAt_eq_set_getD f]
  rfl

/-- A byte read and sent again is the byte itself. -/
theorem u8_toNat (b : Byte) : u8 b.toNat = b := by
  rw [u8, BitVec.ofNat_toNat, BitVec.setWidth_eq]

/-- The instruction SELECTION_CLEAR is carried out by the Vend Scheduler's command. -/
theorem exec_selectionClear :
    ∀ seq payload (s : State), exec (.selectionClear seq payload) s = execSelectionClear seq payload s := by
  intros; rfl

/-- SELECTION_CLEAR refuses a position outside the table. -/
theorem execSelectionClear_of_outside (s : State) (seq : Byte) {b : Byte} (rest : List Byte) (h : 63 < b.toNat) :
    execSelectionClear seq (b :: rest) s = .next (s.frameTaken.refuse seq .badArgument) :=
  if_pos (.inr h)

/-- SELECTION_CLEAR of a position of the table: the record cleared, the reply with the state before, then the recomputing of
Max Available Price. -/
theorem execSelectionClear_of_inside (s : State) (seq : Byte) {b : Byte} (rest : List Byte) (h : b.toNat ≤ 63) :
    execSelectionClear seq (b :: rest) s =
      .next
        (State.conclude
          (State.repriceNow
            ((s.frameTaken.modSelection b.toNat Selection.cleared).accept seq
              [b, u8 (s.selection b.toNat).state.code]))) := by
  have hgood : ¬ ((b :: rest).length < 1 ∨ 63 < byteAt (b :: rest) 0) := by
    rintro (hshort | houtside)
    · simp at hshort
    · exact absurd houtside (Nat.not_lt.mpr h)
  rw [execSelectionClear, if_neg hgood, run_reprice]
  simp [byteAt, u8_toNat, State.selection]

/-- Settles O28: a position outside the table is refused; inside it, the record cleared is the entry the statement sets, and
the recomputed price is the highest of the records with that entry (`highestPrice_spec`). -/
theorem selectionCleared : Obligations.SelectionCleared := by
  intro s seq b rest
  constructor
  · intro houtside
    rw [exec_selectionClear, execSelectionClear_of_outside s seq rest houtside]
  · intro hinside
    refine ⟨_, highestPrice_spec _ _, ?_⟩
    rw [exec_selectionClear, execSelectionClear_of_inside s seq rest hinside, State.modSelection_eq]
    rfl

end Sys2Proof.Machine

/-! ## The conversion of a good count (06, R98) -/

namespace Sys2Proof.Machine

/-! ### One segment -/

/-- A segment's start count gives its start temperature. -/
@[simp] theorem onSegment_start (p q : CurvePoint) : onSegment p q p.count = p.temp := by
  simp [onSegment]

/-- A segment's end count gives its end temperature. -/
theorem onSegment_end {p q : CurvePoint} (h : p.count < q.count) : onSegment p q q.count = q.temp := by
  have hwidth : (q.count : Int) - p.count ≠ 0 := by omega
  rw [onSegment, Int.mul_tdiv_cancel_left _ hwidth, add_sub_cancel]

/-- Within a segment the temperature lies between any bounds of its end temperatures: times the segment's width it is a
weighted sum of the two, and the division cut toward zero is monotone. -/
theorem onSegment_bounds {p q : CurvePoint} {c : Nat} {low high : Int} (h : p.count < q.count)
    (hstart : p.count ≤ c) (hend : c ≤ q.count) (hp : low ≤ p.temp ∧ p.temp ≤ high)
    (hq : low ≤ q.temp ∧ q.temp ≤ high) : low ≤ onSegment p q c ∧ onSegment p q c ≤ high := by
  have hwidth : 0 < (q.count : Int) - p.count := by omega
  have hpast : 0 ≤ (c : Int) - p.count := by omega
  have hleft : 0 ≤ (q.count : Int) - c := by omega
  have habove : (low - p.temp) * ((q.count : Int) - p.count) ≤ ((c : Int) - p.count) * (q.temp - p.temp) := by
    linarith [mul_nonneg hpast (sub_nonneg.mpr hq.1), mul_nonneg hleft (sub_nonneg.mpr hp.1)]
  have hbelow : ((c : Int) - p.count) * (q.temp - p.temp) ≤ (high - p.temp) * ((q.count : Int) - p.count) := by
    linarith [mul_nonneg hpast (sub_nonneg.mpr hq.2), mul_nonneg hleft (sub_nonneg.mpr hp.2)]
  have hlow := Int.tdiv_le_tdiv hwidth habove
  have hhigh := Int.tdiv_le_tdiv hwidth hbelow
  rw [Int.mul_tdiv_cancel _ hwidth.ne'] at hlow hhigh
  rw [onSegment]
  omega

/-! ### The walk along the points -/

/-- The walk stops in a segment whose end counts take the count. -/
theorem walkCurve_of_taken {p q : CurvePoint} {c : Nat} (rest : List CurvePoint) (h : p.count ≤ c ∧ c ≤ q.count) :
    walkCurve (p :: q :: rest) c = onSegment p q c :=
  if_pos h

/-- The walk goes past a segment whose end counts do not take the count. -/
theorem walkCurve_of_not_taken {p q : CurvePoint} {c : Nat} (rest : List CurvePoint)
    (h : ¬ (p.count ≤ c ∧ c ≤ q.count)) : walkCurve (p :: q :: rest) c = walkCurve (q :: rest) c :=
  if_neg h

/-- The walk finds the first segment, in point order, whose end counts take the count. -/
theorem walkCurve_first {p q : CurvePoint} {c : Nat} (htaken : p.count ≤ c ∧ c ≤ q.count) :
    ∀ (curve : List CurvePoint) (i : Nat), curve[i]? = some p → curve[i + 1]? = some q →
      (∀ (j : Nat) (x y : CurvePoint), j < i → curve[j]? = some x → curve[j + 1]? = some y →
        ¬ (x.count ≤ c ∧ c ≤ y.count)) →
      walkCurve curve c = onSegment p q c
  | [], _, hp, _, _ => by simp at hp
  | [_], _, _, hq, _ => by simp at hq
  | x :: y :: rest, 0, hp, hq, _ => by
    obtain rfl : x = p := by simpa using hp
    obtain rfl : y = q := by simpa using hq
    exact walkCurve_of_taken rest htaken
  | x :: y :: rest, i + 1, hp, hq, hfirst => by
    rw [walkCurve_of_not_taken rest (hfirst 0 x y i.succ_pos rfl rfl)]
    exact walkCurve_first htaken (y :: rest) i hp hq fun j a b hj => hfirst (j + 1) a b (Nat.succ_lt_succ hj)

/-- In a rising curve the counts before the last are lower than the last point's. -/
theorem Rising.count_le_last {curve : List CurvePoint} {p z : CurvePoint} (hrise : Rising curve) (hp : p ∈ curve)
    (hz : curve.getLast? = some z) : p.count ≤ z.count := by
  obtain ⟨front, rfl⟩ := List.getLast?_eq_some_iff.mp hz
  obtain ⟨-, -, hbefore⟩ := List.pairwise_append.mp hrise
  rcases List.mem_append.mp hp with hfront | hlast
  · exact (hbefore p hfront z (List.mem_singleton_self z)).le
  · rw [List.mem_singleton.mp hlast]

/-- A count above the last point's is taken by no segment: the walk ends at the last temperature. -/
theorem walkCurve_past {z : CurvePoint} {c : Nat} (hpast : z.count < c) :
    ∀ curve : List CurvePoint, Rising curve → curve.getLast? = some z → walkCurve curve c = z.temp
  | [], _, hz => by simp at hz
  | [p], _, hz => by
    obtain rfl : p = z := by simpa using hz
    rfl
  | p :: q :: rest, hrise, hz => by
    have hq : q.count ≤ z.count := hrise.count_le_last (by simp) hz
    rw [walkCurve_of_not_taken rest (by omega)]
    exact walkCurve_past hpast (q :: rest) hrise.of_cons (by simpa using hz)

/-- The walk gives a point's own temperature at its count: the first point's as a start, every other as the end of the
segment before it. -/
theorem walkCurve_count {z : CurvePoint} :
    ∀ curve : List CurvePoint, Rising curve → z ∈ curve → walkCurve curve z.count = z.temp
  | [], _, hz => by simp at hz
  | [p], _, hz => by
    obtain rfl : z = p := by simpa using hz
    rfl
  | p :: q :: rest, hrise, hz => by
    have hpq : p.count < q.count := List.rel_of_pairwise_cons hrise (by simp)
    rcases List.mem_cons.mp hz with rfl | hz
    · rw [walkCurve_of_taken rest ⟨le_rfl, hpq.le⟩, onSegment_start]
    · rcases List.mem_cons.mp hz with rfl | hrest
      · rw [walkCurve_of_taken rest ⟨hpq.le, le_rfl⟩, onSegment_end hpq]
      · have hqz : q.count < z.count := List.rel_of_pairwise_cons hrise.of_cons hrest
        rw [walkCurve_of_not_taken rest (by omega)]
        exact walkCurve_count (q :: rest) hrise.of_cons hz

/-- The walk along a rising curve stays within bounds of its points' temperatures. -/
theorem walkCurve_bounds {low high : Int} (c : Nat) :
    ∀ curve : List CurvePoint, Rising curve → curve ≠ [] → (∀ p ∈ curve, low ≤ p.temp ∧ p.temp ≤ high) →
      low ≤ walkCurve curve c ∧ walkCurve curve c ≤ high
  | [], _, hne, _ => absurd rfl hne
  | [p], _, _, hbounds => hbounds p (by simp)
  | p :: q :: rest, hrise, _, hbounds => by
    by_cases htaken : p.count ≤ c ∧ c ≤ q.count
    · have hpq : p.count < q.count := List.rel_of_pairwise_cons hrise (by simp)
      rw [walkCurve_of_taken rest htaken]
      exact onSegment_bounds hpq htaken.1 htaken.2 (hbounds p (by simp)) (hbounds q (by simp))
    · rw [walkCurve_of_not_taken rest htaken]
      exact walkCurve_bounds c (q :: rest) hrise.of_cons (by simp) fun x hx => hbounds x (List.mem_cons_of_mem p hx)

/-! ### The conversion -/

/-- A count below point 0's gives point 0's temperature. -/
theorem convert_of_below {p : CurvePoint} {rest : List CurvePoint} {c : Nat} (h : c < p.count) :
    convert (p :: rest) c = p.temp :=
  if_pos h

/-- A count not below point 0's is converted by the walk. -/
theorem convert_of_not_below {p : CurvePoint} {rest : List CurvePoint} {c : Nat} (h : ¬ c < p.count) :
    convert (p :: rest) c = walkCurve (p :: rest) c :=
  if_neg h

/-- A count not below some point's is converted by the walk: point 0's count is the lowest. -/
theorem convert_eq_walkCurve {curve : List CurvePoint} {p : CurvePoint} {c : Nat} (hrise : Rising curve)
    (hp : p ∈ curve) (hc : p.count ≤ c) : convert curve c = walkCurve curve c := by
  cases curve with
  | nil => simp at hp
  | cons x rest =>
    apply convert_of_not_below
    rcases List.mem_cons.mp hp with rfl | hrest
    · omega
    · have hxp : x.count < p.count := List.rel_of_pairwise_cons hrise hrest
      omega

/-- The conversion through a rising curve stays within bounds of its points' temperatures. -/
theorem convert_bounds {curve : List CurvePoint} {low high : Int} (c : Nat) (hrise : Rising curve)
    (hne : curve ≠ []) (hbounds : ∀ p ∈ curve, low ≤ p.temp ∧ p.temp ≤ high) :
    low ≤ convert curve c ∧ convert curve c ≤ high := by
  cases curve with
  | nil => exact absurd rfl hne
  | cons p rest =>
    by_cases hbelow : c < p.count
    · rw [convert_of_below hbelow]
      exact hbounds p (by simp)
    · rw [convert_of_not_below hbelow]
      exact walkCurve_bounds c _ hrise hne hbounds

/-! ### A bad count -/

/-- A count below 16 or above 4079 is a bad one (R96). -/
theorem sampleFault_of_bad {c : Nat} (h : c < 16 ∨ 4079 < c) :
    sampleFault c = some (if c < 16 then .short else .opened) := by
  rcases h with hshort | hopened
  · simp [sampleFault, hshort]
  · have hlong : ¬ c < 16 := by omega
    simp [sampleFault, hlong, hopened]

/-- A bad sample keeps the working temperature, or takes that of point 0 where there is none (R97). -/
theorem Sensor.sampled_temp_of_bad (x : Sensor) (curve : List CurvePoint) {c : Nat} (h : c < 16 ∨ 4079 < c) :
    (x.sampled curve c).temp = some (x.temp.getD (pointZero curve)) := by
  rw [Sensor.sampled, sampleFault_of_bad h]

/-- Settles O39: below point 0 the conversion holds its temperature; from there on it is the walk, whose result past the end,
in the first segment that takes the count, at a point and between bounds the lemmas above give. -/
theorem curveConversion : Obligations.CurveConversion := by
  intro curve hrise hlength
  refine ⟨?below, ?above, ?segment, ?points, ?range, ?bad⟩
  case below =>
    intro p c hp hc
    obtain ⟨rest, rfl⟩ : ∃ rest, curve = p :: rest := by
      rwa [← List.head?_eq_getElem?, List.head?_eq_some_iff] at hp
    exact convert_of_below hc
  case above =>
    intro p c hp hc
    have hlast : curve.getLast? = some p := by rwa [List.getLast?_eq_getElem?, hlength]
    rw [convert_eq_walkCurve hrise (List.mem_of_getElem? hp) hc.le, walkCurve_past hc curve hrise hlast]
  case segment =>
    intro i p q c hp hq hstart hend hfirst
    rw [convert_eq_walkCurve hrise (List.mem_of_getElem? hp) hstart,
      walkCurve_first ⟨hstart, hend⟩ curve i hp hq hfirst, onSegment]
  case points =>
    intro p hp
    rw [convert_eq_walkCurve hrise hp le_rfl, walkCurve_count curve hrise hp]
  case range =>
    intro low high c hbounds
    exact convert_bounds c hrise (List.ne_nil_of_length_eq_add_one hlength) hbounds
  case bad =>
    intro x t c ht hbad
    rw [x.sampled_temp_of_bad curve hbad, ht, Option.getD_some]

end Sys2Proof.Machine

/-! ## The identity block (09, R152) -/

namespace Sys2Proof.Machine

/-- The instruction IDENTIFY is carried out by the Link Interface's command. -/
theorem exec_identify : ∀ seq payload (s : State), exec (.identify seq payload) s = execIdentify seq payload s := by
  intros; rfl

/-- An ACCEPTED reply is a REPLY frame of node 0: condition 0, reason 0, then the data (R151). -/
theorem State.accept_eq_transmit (s : State) (seq : Byte) (data : List Byte) :
    s.accept seq data = s.transmit { node := 0, kind := 0x80, seq := seq, payload := 0 :: 0 :: data } :=
  rfl

/-- The identity block byte by byte: vendor and part code with the high byte first, the revision, then the part's sizes. -/
theorem identityBlock_eq : identityBlock = [0x3A, 0x17, 0x06, 0x40, 1, 64, 12, 5, 8, 4, 32, 24, 4, 4] := by
  decide

/-- Settles O54: IDENTIFY reads no field of the state, so its one act is the ACCEPTED reply with the constant block. -/
theorem identifyAnswered : Obligations.IdentifyAnswered := by
  intro s seq payload
  rw [exec_identify, execIdentify, State.accept_eq_transmit, identityBlock_eq]

end Sys2Proof.Machine

/-! ## What every step keeps

The six invariants speak of single blocks. `Kept s t` says that whatever of them `s` meets, `t` meets; it composes, so each act,
each command's own work and the end of a command is judged once, and every invariant follows from the one relation. -/

namespace Sys2Proof.Machine

/-! ### The invariants block by block -/

/-- Accepted counts stay at or below 65535 (R2). -/
def CoinUnit.Bounded (c : CoinUnit) : Prop := ∀ e ∈ c.table, e.accepted ≤ 65535

/-- A tube holds at most its capacity, and its jam count stays at or below 255 (R15). -/
def Tube.Bounded (t : Tube) : Prop := t.count ≤ t.capacity ∧ t.jamCount ≤ 255

/-- The Notice Queue, the link's counters and the floor (R149, R154, R155). -/
def LinkUnit.Bounded (l : LinkUnit) : Prop :=
  l.notices.length ≤ 24 ∧ l.errors ≤ 255 ∧ l.dropped ≤ 255 ∧ 1 ≤ l.floor ∧ l.floor ≤ 7

/-- A channel's queue stays within its blocks (R131). -/
def Channel.Bounded (c : Channel) : Prop := c.queue.length ≤ c.cfg.allocation

/-- The Cooling Table in its ranges (R100). -/
def Cooling.Bounded (c : Cooling) : Prop :=
  c.inRange = true ∧ (-50 ≤ c.setpoint ∧ c.setpoint ≤ 150) ∧ (5 ≤ c.band ∧ c.band ≤ 100)

/-- The drawn units fit the Budget (R120). -/
def LoadUnit.Fits (l : LoadUnit) : Prop := l.drawn ≤ l.table.budget

/-- The kinds that wait or are granted (R120). -/
def LoadUnit.kinds (l : LoadUnit) : List LoadKind :=
  (l.queue.map Claim.kind ++ l.granted.map Grant.kind).filter (· ≠ .compressorRun)

/-- A load that waits in the buffer is of a deferred kind (R163). -/
def TablesUnit.WaitsDeferred (u : TablesUnit) : Prop := ∀ b, u.staging = .pending b → b.kind.timing = .deferred

/-- The compressor's run and the heater's stages exclude each other (R109). -/
def PlantUnit.Apart (p : PlantUnit) : Prop :=
  (p.compressor = .startWait → p.defrost = .idle) ∧ (p.relay = true → p.defrost = .idle ∨ p.defrost.isDue = true)

/-- What of the invariants `s` meets, `t` meets too. -/
structure Kept (s t : State) : Prop where
  coin : s.coin.Bounded → t.coin.Bounded
  tubes : (∀ x ∈ s.tubes, x.Bounded) → ∀ x ∈ t.tubes, x.Bounded
  carried : s.credit.carried ≤ 20000 → t.credit.carried ≤ 20000
  vends : s.sales.vends.length ≤ 4 → t.sales.vends.length ≤ 4
  apart : s.plant.Apart → t.plant.Apart
  exposure : s.plant.exposure ≤ 65535 → t.plant.exposure ≤ 65535
  cooling : s.tables.WaitsDeferred → s.plant.cooling.Bounded → t.plant.cooling.Bounded
  budget : s.tables.WaitsDeferred → s.load.Fits → t.load.Fits
  kinds : s.load.kinds.Nodup → t.load.kinds.Nodup
  queues : (∀ c ∈ s.bridge.channels, c.Bounded) → ∀ c ∈ t.bridge.channels, c.Bounded
  link : s.link.Bounded → t.link.Bounded
  staging : s.tables.WaitsDeferred → t.tables.WaitsDeferred
  door : ModeFollowsDoor s → ModeFollowsDoor t

/-- An unreported change of credit stands as the mark of log 4 until the command's end: while the mark is clear, the session and
the Carried Credit are those of before. -/
def Silent (s t : State) : Prop :=
  t.credit.changed = false →
    s.credit.changed = false ∧ t.credit.session = s.credit.session ∧ t.credit.carried = s.credit.carried

/-- The work of a command before its end: the invariants are kept, and no change of credit goes unmarked. -/
structure Quiet (s t : State) : Prop extends Kept s t where
  silent : Silent s t

theorem Kept.refl (s : State) : Kept s s where
  coin h := h
  tubes h := h
  carried h := h
  vends h := h
  apart h := h
  exposure h := h
  cooling _ h := h
  budget _ h := h
  kinds h := h
  queues h := h
  link h := h
  staging h := h
  door h := h

theorem Kept.trans {s t u : State} (a : Kept s t) (b : Kept t u) : Kept s u where
  coin h := b.coin (a.coin h)
  tubes h := b.tubes (a.tubes h)
  carried h := b.carried (a.carried h)
  vends h := b.vends (a.vends h)
  apart h := b.apart (a.apart h)
  exposure h := b.exposure (a.exposure h)
  cooling d h := b.cooling (a.staging d) (a.cooling d h)
  budget d h := b.budget (a.staging d) (a.budget d h)
  kinds h := b.kinds (a.kinds h)
  queues h := b.queues (a.queues h)
  link h := b.link (a.link h)
  staging h := b.staging (a.staging h)
  door h := b.door (a.door h)

theorem Quiet.refl (s : State) : Quiet s s := ⟨.refl s, fun h => ⟨h, rfl, rfl⟩⟩

theorem Quiet.trans {s t u : State} (a : Quiet s t) (b : Quiet t u) : Quiet s u where
  toKept := a.toKept.trans b.toKept
  silent h := by
    obtain ⟨ht, hsession, hcarried⟩ := b.silent h
    obtain ⟨hs, hsession', hcarried'⟩ := a.silent ht
    exact ⟨hs, hsession.trans hsession', hcarried.trans hcarried'⟩

/-! ### One block changed -/

section Blocks

variable (s : State)

/-- The clock, the free values, the waiting commands, the Change Engine and the Spiral Drive bear no invariant. -/
theorem Quiet.of_free (now draws : Nat) (pending : List Instr) (change : ChangeUnit) (drive : DriveUnit) :
    Quiet s { s with now := now, draws := draws, pending := pending, change := change, drive := drive } :=
  { Quiet.refl s with }

theorem Quiet.of_coin {c : CoinUnit} (h : s.coin.Bounded → c.Bounded) : Quiet s { s with coin := c } :=
  { Quiet.refl s with coin := h }

theorem Quiet.of_tubes {ts : List Tube} (h : (∀ x ∈ s.tubes, x.Bounded) → ∀ x ∈ ts, x.Bounded) :
    Quiet s { s with tubes := ts } :=
  { Quiet.refl s with tubes := h }

theorem Quiet.of_sales {u : SalesUnit} (h : s.sales.vends.length ≤ 4 → u.vends.length ≤ 4) : Quiet s { s with sales := u } :=
  { Quiet.refl s with vends := h }

theorem Quiet.of_load {l : LoadUnit} (hfits : s.load.Fits → l.Fits) (hkinds : s.load.kinds.Nodup → l.kinds.Nodup) :
    Quiet s { s with load := l } :=
  { Quiet.refl s with budget := fun _ => hfits, kinds := hkinds }

theorem Quiet.of_plant {p : PlantUnit} (hcooling : p.cooling = s.plant.cooling)
    (hexposure : s.plant.exposure ≤ 65535 → p.exposure ≤ 65535) (hapart : s.plant.Apart → p.Apart) :
    Quiet s { s with plant := p } :=
  { Quiet.refl s with apart := hapart, exposure := hexposure, cooling := fun _ h => hcooling ▸ h }

theorem Quiet.of_bridge {b : BridgeUnit} (h : (∀ c ∈ s.bridge.channels, c.Bounded) → ∀ c ∈ b.channels, c.Bounded) :
    Quiet s { s with bridge := b } :=
  { Quiet.refl s with queues := h }

theorem Quiet.of_link {l : LinkUnit} (h : s.link.Bounded → l.Bounded) : Quiet s { s with link := l } :=
  { Quiet.refl s with link := h }

/-- A change of the Credit Session Unit that leaves session, Carried Credit and mark alone. -/
theorem Quiet.of_credit {c : CreditUnit} (hsession : c.session = s.credit.session) (hcarried : c.carried = s.credit.carried)
    (hchanged : c.changed = s.credit.changed) : Quiet s { s with credit := c } :=
  { Quiet.refl s with
    carried := fun h => hcarried ▸ h
    silent := fun h => ⟨hchanged ▸ h, hsession, hcarried⟩ }

/-- A change of credit sets the mark. -/
theorem Quiet.modCash {f : CreditUnit → CreditUnit} (h : s.credit.carried ≤ 20000 → (f s.credit).carried ≤ 20000) :
    Quiet s (s.modCash f) :=
  { Quiet.refl s with carried := h, silent := fun h => by cases h }

theorem Quiet.modSession (f : Session → Session) : Quiet s (s.modSession f) := Quiet.modCash s id

/-- A change of the Table Manager that keeps its modes. -/
theorem Quiet.of_tables {u : TablesUnit} (hmode : u.mode = s.tables.mode) (hremembered : u.remembered = s.tables.remembered)
    (h : s.tables.WaitsDeferred → u.WaitsDeferred) : Quiet s { s with tables := u } :=
  { Quiet.refl s with
    staging := h
    door := fun hdoor => by
      obtain ⟨hservice, hnot⟩ := hdoor
      exact ⟨by rw [← hservice, ← hmode], by rwa [← hremembered] at hnot⟩ }

end Blocks
end Sys2Proof.Machine

namespace Sys2Proof.Machine

/-! ### Notices (R154, R155) -/

theorem NoticeKind.level_le (k : NoticeKind) : k.level ≤ 7 := by cases k <;> decide

theorem foldl_min_level_le (q : List Notice) (m : Nat) : q.foldl (fun m n => min m n.kind.level) m ≤ m := by
  induction q generalizing m with
  | nil => simp
  | cons n q ih => exact (ih _).trans (min_le_left _ _)

/-- The lowest level bounds every level of the queue. -/
theorem lowestLevel_le {q : List Notice} {n : Notice} (h : n ∈ q) : lowestLevel q ≤ n.kind.level := by
  unfold lowestLevel
  generalize 7 = m
  induction q generalizing m with
  | nil => cases h
  | cons x q ih =>
    obtain rfl | h := List.mem_cons.1 h
    · exact (foldl_min_level_le q _).trans (min_le_right _ _)
    · exact ih h _

/-- The lowest level is a notice's level, or the one the search began with. -/
theorem foldl_min_level_mem (q : List Notice) (m : Nat) :
    q.foldl (fun m n => min m n.kind.level) m = m ∨ ∃ n ∈ q, n.kind.level = q.foldl (fun m n => min m n.kind.level) m := by
  induction q generalizing m with
  | nil => exact .inl rfl
  | cons x q ih =>
    obtain h | ⟨n, hn, h⟩ := ih (min m x.kind.level)
    · rw [List.foldl_cons, h]
      obtain hle | hle := le_total m x.kind.level
      · exact .inl (min_eq_left hle)
      · exact .inr ⟨x, by simp, (min_eq_right hle).symm⟩
    · exact .inr ⟨n, by simp [hn], h⟩

/-- A queue that is not empty holds a notice of its lowest level. -/
theorem exists_lowestLevel {q : List Notice} (h : q ≠ []) : ∃ n ∈ q, n.kind.level = lowestLevel q := by
  obtain h7 | hmem := foldl_min_level_mem q 7
  · obtain ⟨n, hn⟩ := List.exists_mem_of_ne_nil q h
    refine ⟨n, hn, le_antisymm ?_ (lowestLevel_le hn)⟩
    rw [lowestLevel, h7]
    exact n.kind.level_le
  · exact hmem

/-- The newest notice of the lowest level leaves a queue that is not empty. -/
theorem dropNewest_lowest_length {q : List Notice} (h : q ≠ []) :
    (dropNewest (lowestLevel q) q).length = q.length - 1 := by
  obtain ⟨n, hn, hlevel⟩ := exists_lowestLevel h
  rw [dropNewest, List.length_reverse, List.length_eraseP_of_mem (a := n) (by simpa using hn) (by simpa using hlevel),
    List.length_reverse]

/-- A full queue makes room for a notice of a higher level; no queue grows beyond its capacity (R155). -/
theorem LinkUnit.push_bounded {l : LinkUnit} (n : Notice) (h : l.Bounded) : (l.push n).Bounded := by
  obtain ⟨hnotices, herrors, hdropped, hfloor⟩ := h
  have hcapped : stopAt 255 l.dropped 1 ≤ 255 := min_le_left _ _
  unfold LinkUnit.push
  split_ifs with hlow hroom hhigher
  · exact ⟨hnotices, herrors, hdropped, hfloor⟩
  · refine ⟨?_, herrors, hdropped, hfloor⟩
    simp only [Config.noticeMax] at hroom
    simp; omega
  · have hne : l.notices ≠ [] := by rintro hnil; simp [hnil, Config.noticeMax] at hroom
    have hpos := List.length_pos_of_ne_nil hne
    refine ⟨?_, herrors, hcapped, hfloor⟩
    simp only [List.length_append, dropNewest_lowest_length hne, List.length_singleton]
    omega
  · exact ⟨hnotices, herrors, hcapped, hfloor⟩

section Blocks

variable (s : State)

theorem Quiet.raise (k : NoticeKind) (u : Option Nat) (vs : List Nat) : Quiet s (s.raise k u vs) :=
  Quiet.of_link s (LinkUnit.push_bounded _)

/-- A frame formed for TX, and the assembler's state, bear no invariant. -/
theorem Quiet.transmit (f : Frame) : Quiet s (s.transmit f) := Quiet.of_link s id

theorem Quiet.accept (q : Byte) (d : List Byte) : Quiet s (s.accept q d) := Quiet.transmit s _

theorem Quiet.refuse (q : Byte) (r : Reason) (d : List Byte) : Quiet s (s.refuse q r d) := Quiet.transmit s _

theorem Quiet.frameTaken : Quiet s s.frameTaken := Quiet.of_link s id

theorem Quiet.modChange (f : ChangeUnit → ChangeUnit) : Quiet s (s.modChange f) := Quiet.of_free s _ _ _ _ _

theorem Quiet.modDrive (f : DriveUnit → DriveUnit) : Quiet s (s.modDrive f) := Quiet.of_free s _ _ _ _ _

theorem Quiet.reach (t : Nat) : Quiet s (s.reach t) := Quiet.of_free s _ _ _ _ _

theorem Quiet.modGroup (g : Group) (f : GroupRec → GroupRec) : Quiet s (s.modGroup g f) := by
  cases g
  · exact Quiet.modDrive s fun d => { d with a := f d.a }
  · exact Quiet.modDrive s fun d => { d with b := f d.b }

/-! ### The Load Arbiter (R120 to R127) -/

theorem enqueue_perm (c : Claim) (q : List Claim) : (enqueue c q).Perm (c :: q) := by
  induction q with
  | nil => exact .refl _
  | cons x q ih =>
    unfold enqueue
    split
    · exact .refl _
    · exact (ih.cons x).trans (.swap c x q)

end Blocks

/-- The kinds a placement adds: its own, beside those that were there. -/
theorem LoadUnit.kinds_enqueue_perm (l : LoadUnit) (c : Claim) (q : List Claim) :
    ({ l with queue := enqueue c q } : LoadUnit).kinds.Perm
      ((c.kind :: (q.map Claim.kind ++ l.granted.map Grant.kind)).filter (· ≠ .compressorRun)) :=
  (((enqueue_perm c q).map Claim.kind).append_right _).filter _

/-- No kind waits or is granted twice (R120), and the kind `k` not at all. -/
theorem LoadUnit.kinds_enter_nodup {l : LoadUnit} (now : Nat) (k : LoadKind) (o : Claimant) (h : l.kinds.Nodup)
    (hfresh : k ∉ l.kinds) : (l.enter now k o).kinds.Nodup := by
  refine (List.Perm.nodup_iff (l.kinds_enqueue_perm _ _)).2 ?_
  rw [List.filter_cons]
  split
  · exact List.nodup_cons.2 ⟨hfresh, h⟩
  · exact h

theorem LoadUnit.letIn_fits {l : LoadUnit} (now : Nat) (k : LoadKind) (h : l.Fits) : (l.letIn now k).Fits := by
  unfold LoadUnit.letIn
  split <;> exact h

theorem LoadUnit.kinds_letIn_nodup {l : LoadUnit} (now : Nat) (k : LoadKind) (h : l.kinds.Nodup) (hfresh : k ∉ l.kinds) :
    (l.letIn now k).kinds.Nodup := by
  unfold LoadUnit.letIn
  split
  · exact LoadUnit.kinds_enter_nodup now k _ h hfresh
  · exact h

theorem grantedUnits_filter_le (p : Grant → Bool) (gs : List Grant) : grantedUnits (gs.filter p) ≤ grantedUnits gs := by
  exact ((List.filter_sublist (p := p) (l := gs)).map Grant.units).sum_le_sum (by simp)

/-- A kind that stood once among the waiting claims is gone once its claim is taken out. -/
theorem not_mem_filter_of_nodup_append {α : Type} {key : α → LoadKind} {k : LoadKind} (p : α → Bool) {xs : List α}
    {ys : List LoadKind} {x : α} (hx : x ∈ xs) (hkey : key x = k) (hp : p x = false)
    (h : ((xs.map key ++ ys).filter (· ≠ .compressorRun)).Nodup) :
    k ∉ ((xs.filter p).map key ++ ys).filter (· ≠ .compressorRun) := by
  intro hmem
  obtain ⟨hmem, hrun⟩ := List.mem_filter.1 hmem
  obtain ⟨as, bs, rfl⟩ := List.append_of_mem hx
  rw [List.filter_append, List.filter_cons_of_neg (by simp [hp])] at hmem
  have hperm : ((as ++ x :: bs).map key ++ ys).Perm (k :: ((as ++ bs).map key ++ ys)) := by
    rw [← hkey]
    exact (List.perm_middle.map key).append_right ys
  have hnodup := ((hperm.filter (· ≠ .compressorRun)).nodup_iff).1 h
  rw [List.filter_cons_of_pos (by simpa using hrun)] at hnodup
  refine (List.nodup_cons.1 hnodup).1 (List.mem_filter.2 ⟨?_, hrun⟩)
  simp only [List.mem_append, List.mem_map] at hmem ⊢
  obtain ⟨y, hy | hy, hk⟩ | hmem := hmem
  · exact .inl ⟨y, .inl (List.mem_filter.1 hy).1, hk⟩
  · exact .inl ⟨y, .inr (List.mem_filter.1 hy).1, hk⟩
  · exact .inr hmem

theorem LoadUnit.kinds_nodup_of_sublist {l m : LoadUnit} (h : l.kinds.Nodup)
    (hq : (m.queue.map Claim.kind).Sublist (l.queue.map Claim.kind))
    (hg : (m.granted.map Grant.kind).Sublist (l.granted.map Grant.kind)) : m.kinds.Nodup :=
  ((hq.append hg).filter _).nodup h

theorem Quiet.placeClaim (s : State) (k : LoadKind) (o : Claimant) : Quiet s (s.placeClaim k o).1 := by
  unfold State.placeClaim
  split_ifs with hholds hheld
  · exact .refl s
  · exact Quiet.of_load s id id
  · refine Quiet.of_load s id fun h => LoadUnit.kinds_enter_nodup _ _ _ h fun hk => hholds ?_
    obtain ⟨hk, -⟩ := List.mem_filter.1 hk
    simp only [List.mem_append, List.mem_map] at hk
    simp only [LoadUnit.holds, Bool.or_eq_true, List.any_eq_true, decide_eq_true_eq]
    exact hk

theorem Quiet.withdrawClaim (s : State) (k : LoadKind) (o : Claimant) : Quiet s (s.withdrawClaim k o).1 := by
  unfold State.withdrawClaim
  split_ifs with hwaits
  · simp only [List.any_eq_true, Bool.and_eq_true, decide_eq_true_eq] at hwaits
    obtain ⟨c, hc, hkind, howner⟩ := hwaits
    refine Quiet.of_load s (fun h => LoadUnit.letIn_fits _ _ h) fun h => LoadUnit.kinds_letIn_nodup _ _ ?_ ?_
    · exact LoadUnit.kinds_nodup_of_sublist h ((List.filter_sublist).map _) (.refl _)
    · exact not_mem_filter_of_nodup_append _ hc hkind (by simp [hkind, howner]) h
  · exact Quiet.of_load s id id

theorem Quiet.releaseClaim (s : State) (k : LoadKind) (o : Claimant) : Quiet s (s.releaseClaim k o).1 := by
  unfold State.releaseClaim
  split_ifs with hgranted
  · simp only [List.any_eq_true, Bool.and_eq_true, decide_eq_true_eq] at hgranted
    obtain ⟨g, hg, hkind, howner⟩ := hgranted
    refine Quiet.of_load s (fun h => LoadUnit.letIn_fits _ _ ?_) fun h => LoadUnit.kinds_letIn_nodup _ _ ?_ ?_
    · exact (Nat.add_le_add_left (grantedUnits_filter_le _ _) _).trans h
    · exact LoadUnit.kinds_nodup_of_sublist h (.refl _) ((List.filter_sublist).map _)
    · have hswap : ∀ (q : List Claim) (gs : List Grant),
          ((q.map Claim.kind ++ gs.map Grant.kind).filter (· ≠ .compressorRun)).Perm
            ((gs.map Grant.kind ++ q.map Claim.kind).filter (· ≠ .compressorRun)) :=
        fun q gs => List.perm_append_comm.filter _
      intro hmem
      exact not_mem_filter_of_nodup_append _ hg hkind (by simp [hkind, howner]) (((hswap _ _).nodup_iff).1 h)
        ((hswap _ _).mem_iff.1 hmem)
  · exact Quiet.withdrawClaim s k o

theorem LoadUnit.kinds_grant_perm (l : LoadUnit) (now : Nat) (h : Claim) (rest : List Claim) :
    (l.grant now h rest).kinds.Perm ({ l with queue := h :: rest } : LoadUnit).kinds := by
  refine List.Perm.filter _ ?_
  simp only [LoadUnit.grant, List.map_append, List.map_cons, List.map_nil, ← List.append_assoc]
  exact List.perm_append_singleton _ _

theorem LoadUnit.drawn_grant (l : LoadUnit) (now : Nat) (h : Claim) (rest : List Claim) :
    (l.grant now h rest).drawn = l.drawn + h.units := by
  simp [LoadUnit.grant, LoadUnit.drawn, grantedUnits]; omega

theorem PlantUnit.suspend_cooling (p : PlantUnit) (now : Nat) : (p.suspend now).cooling = p.cooling := by
  unfold PlantUnit.suspend; split <;> rfl

theorem PlantUnit.suspend_exposure (p : PlantUnit) (now : Nat) : (p.suspend now).exposure = p.exposure := by
  unfold PlantUnit.suspend; split <;> rfl

theorem PlantUnit.Apart.suspend {p : PlantUnit} (now : Nat) (h : p.Apart) : (p.suspend now).Apart := by
  obtain ⟨hwait, hrelay⟩ := h
  unfold PlantUnit.suspend
  split
  case h_1 c since heq =>
    refine ⟨fun hw => ?_, fun hr => ?_⟩
    · simp [hwait hw] at heq
    · have := hrelay hr
      simp [heq, Defrost.isDue] at this
  all_goals exact ⟨hwait, hrelay⟩

/-- The units of the granted DEFROST that is taken back leave the drawn ones. -/
theorem grantedUnits_filter_add_le {gs : List Grant} {d : Grant} (hd : d ∈ gs) (p : Grant → Bool) (hp : p d = false) :
    grantedUnits (gs.filter p) + d.units ≤ grantedUnits gs := by
  obtain ⟨as, bs, rfl⟩ := List.append_of_mem hd
  have ha := grantedUnits_filter_le p as
  have hb := grantedUnits_filter_le p bs
  rw [List.filter_append, List.filter_cons_of_neg (by simp [hp])]
  simp only [grantedUnits, List.map_append, List.map_cons, List.sum_append, List.sum_cons] at *
  omega

theorem LoadUnit.kinds_takeBack_nodup {l : LoadUnit} {d : Grant} (h : Claim) (rest : List Claim) (hd : d ∈ l.granted)
    (hkind : d.kind = .defrost) (hq : l.queue = h :: rest) (hnodup : l.kinds.Nodup) (now : Nat) :
    ((l.takeBack d rest).1.grant now h (l.takeBack d rest).2).kinds.Nodup := by
  refine ((LoadUnit.kinds_grant_perm _ _ _ _).nodup_iff).2 ?_
  have hperm : ({ (l.takeBack d rest).1 with queue := h :: (l.takeBack d rest).2 } : LoadUnit).kinds.Perm
      ((LoadKind.defrost :: ((h :: rest).map Claim.kind
        ++ (l.granted.filter fun g => g.kind ≠ .defrost).map Grant.kind)).filter (· ≠ .compressorRun)) := by
    refine List.Perm.filter _ ?_
    exact ((((enqueue_perm _ rest).cons h).trans (.swap _ _ _)).map Claim.kind).append_right _
  refine (hperm.nodup_iff).2 ?_
  rw [List.filter_cons_of_pos (by decide), List.nodup_cons]
  rw [LoadUnit.kinds, hq] at hnodup
  constructor
  · intro hmem
    have hcomm := (List.perm_append_comm (l₁ := (h :: rest).map Claim.kind) (l₂ := l.granted.map Grant.kind)).filter
      (fun k => decide (k ≠ LoadKind.compressorRun))
    have hcomm' := (List.perm_append_comm (l₁ := (h :: rest).map Claim.kind)
      (l₂ := (l.granted.filter fun g => g.kind ≠ .defrost).map Grant.kind)).filter
      (fun k => decide (k ≠ LoadKind.compressorRun))
    exact not_mem_filter_of_nodup_append _ hd hkind (by simp [hkind]) ((hcomm.nodup_iff).1 hnodup) (hcomm'.mem_iff.1 hmem)
  · exact ((((List.Sublist.refl _).append ((List.filter_sublist).map _))).filter _).nodup hnodup

theorem LoadUnit.suspension_eq_some {l : LoadUnit} {now : Nat} {h : Claim} {d : Grant} (hs : l.suspension now h = some d) :
    d ∈ l.granted ∧ d.kind = .defrost ∧ l.drawn - d.units + h.units ≤ l.table.budget := by
  rw [LoadUnit.suspension, Option.filter_eq_some_iff] at hs
  obtain ⟨hfind, hcond⟩ := hs
  simp only [Bool.and_eq_true, decide_eq_true_eq] at hcond
  exact ⟨List.mem_of_find?_eq_some hfind, by simpa using List.find?_some hfind, hcond.2⟩

theorem Quiet.decideHead (s : State) : Quiet s s.decideHead.1 := by
  unfold State.decideHead
  split
  case h_1 => exact .refl s
  case h_2 h rest hq =>
    have hkinds : ({ s.load with queue := h :: rest } : LoadUnit).kinds = s.load.kinds := by rw [← hq]
    split_ifs with hfits
    · refine Quiet.of_load s (fun _ => ?_) fun hn => ?_
      · rw [LoadUnit.Fits, LoadUnit.drawn_grant]
        exact hfits
      · rwa [(LoadUnit.kinds_grant_perm _ _ _ _).nodup_iff, hkinds]
    · split
      case h_2 => exact .refl s
      case h_1 d hsusp =>
        obtain ⟨hd, hkind, hunits⟩ := LoadUnit.suspension_eq_some hsusp
        refine Quiet.trans (t := s.modLoad fun l => (l.takeBack d rest).1.grant s.now h (l.takeBack d rest).2) ?_ ?_
        · refine Quiet.of_load s (fun _ => ?_) fun hn => LoadUnit.kinds_takeBack_nodup h rest hd hkind hq hn _
          have hle := grantedUnits_filter_add_le hd (fun g => decide (g.kind ≠ .defrost)) (by simp [hkind])
          rw [LoadUnit.Fits, LoadUnit.drawn_grant]
          simp only [LoadUnit.drawn, LoadUnit.takeBack, LoadUnit.grant] at hunits ⊢
          omega
        · exact Quiet.of_plant _ (PlantUnit.suspend_cooling _ _) (fun h => by rwa [PlantUnit.suspend_exposure])
            fun h => h.suspend _

theorem Grant.shrink_units_le (g : Grant) (t : LoadTable) : (g.shrink t).units ≤ g.units := by
  unfold Grant.shrink
  split
  · exact min_le_right _ _
  · exact le_rfl

/-- A shrunk start grant leaves the kinds that are told apart; the others stay. -/
theorem kinds_shrink_sublist (t : LoadTable) (gs : List Grant) :
    (((gs.map fun g => g.shrink t).map Grant.kind).filter (· ≠ .compressorRun)).Sublist
      ((gs.map Grant.kind).filter (· ≠ .compressorRun)) := by
  induction gs with
  | nil => exact .refl _
  | cons g gs ih =>
    unfold Grant.shrink at *
    by_cases hk : g.kind = .compressorStart
    · simpa [hk] using ih.cons _
    · by_cases hr : g.kind = .compressorRun
      · simpa [hr] using ih
      · simpa [hk, hr] using ih

theorem Quiet.shrinkStart (s : State) : Quiet s s.shrinkStart.1 := by
  unfold State.shrinkStart
  split_ifs
  · refine Quiet.of_load s (fun h => ?_) fun h => ?_
    · refine le_trans (Nat.add_le_add_left ?_ _) h
      simp only [grantedUnits, List.map_map]
      exact List.sum_le_sum fun g _ => g.shrink_units_le _
    · simp only [LoadUnit.kinds, List.filter_append] at h ⊢
      exact ((List.Sublist.refl _).append (kinds_shrink_sublist _ _)).nodup h
  · exact .refl s

theorem LoadUnit.kinds_promote_nodup {l : LoadUnit} {c : Claim} (hc : l.agingStart = some c) (h : l.kinds.Nodup) :
    (l.promote c).kinds.Nodup := by
  have hmem := List.mem_of_find?_eq_some hc
  have hkind : c.kind = .compressorStart := by
    have := List.find?_some hc
    simp only [Bool.and_eq_true, decide_eq_true_eq] at this
    exact this.1
  refine ((l.kinds_enqueue_perm _ _).nodup_iff).2 ?_
  rw [List.filter_cons_of_pos (by simp [hkind]), List.nodup_cons]
  constructor
  · exact not_mem_filter_of_nodup_append _ hmem rfl (by simp) h
  · exact ((((List.filter_sublist).map _).append (.refl _)).filter _).nodup h

theorem Quiet.promote (s : State) {c : Claim} (hc : s.load.agingStart = some c) :
    Quiet s (s.modLoad fun l => l.promote c) :=
  Quiet.of_load s id (LoadUnit.kinds_promote_nodup hc)

end Sys2Proof.Machine

namespace Sys2Proof.Machine

/-! ### The Spiral Drive and the Vend Scheduler -/

section Acts

variable (s : State)

theorem Quiet.modSales {f : SalesUnit → SalesUnit} (h : (f s.sales).vends.length ≤ s.sales.vends.length) :
    Quiet s (s.modSales f) :=
  Quiet.of_sales s h.trans

theorem Quiet.modVend (id : Nat) (f : Vend → Vend) : Quiet s (s.modVend id f) :=
  Quiet.modSales s (List.length_map _).le

theorem Quiet.modSelection (p : Nat) (f : Selection → Selection) : Quiet s (s.modSelection p f) :=
  Quiet.modSales s le_rfl

theorem Quiet.energize (g : Group) (p : Nat) (o : Owner) : Quiet s (s.energize g p o) := by
  unfold State.energize
  exact Quiet.modGroup s _ _

theorem Quiet.requestTurn (p : Nat) (o : Owner) : Quiet s (s.requestTurn p o) := by
  unfold State.requestTurn
  split
  · exact Quiet.energize s _ _ _
  all_goals exact Quiet.modGroup s _ _

theorem Quiet.startHeldRequest (g : Group) : Quiet s (s.startHeldRequest g).1 := by
  unfold State.startHeldRequest
  split
  · exact (Quiet.modGroup s g _).trans (Quiet.energize _ _ _ _)
  · exact .refl s

theorem Quiet.endTest (g : Group) : Quiet s (s.endTest g).1 := by
  unfold State.endTest
  dsimp only
  exact Quiet.modGroup s g _

theorem Quiet.reportTurn (g : Group) (o : Owner) : Quiet s (s.reportTurn g o).1 := by
  cases o
  · exact .refl s
  · exact Quiet.endTest s g

theorem Quiet.reportFault (g : Group) (o : Owner) : Quiet s (s.reportFault g o).1 := by
  cases o
  · exact .refl s
  · exact Quiet.endTest s g

theorem Quiet.testGranted (g : Group) : Quiet s (s.testGranted g).1 := by
  unfold State.testGranted
  split
  · exact Quiet.requestTurn s _ _
  · exact .refl s

theorem Quiet.dropVendClaim (id : Nat) : Quiet s (s.dropVendClaim id).1 := by
  unfold State.dropVendClaim
  repeat' split
  all_goals first | exact Quiet.releaseClaim s _ _ | exact .refl s

theorem Quiet.dropVendClaims (ends : List (Nat × VendResult)) : Quiet s (s.dropVendClaims ends).1 := by
  induction ends generalizing s with
  | nil => exact .refl s
  | cons e es ih => exact (Quiet.dropVendClaim s e.1).trans (ih _)

theorem Quiet.endTogether (ends : List (Nat × VendResult)) (d : Bool) : Quiet s (s.endTogether ends d).1 :=
  (Quiet.modSales s (List.length_map _).le).trans (Quiet.dropVendClaims _ ends)

theorem Quiet.recordEnd (id : Nat) (r : VendResult) (d : Bool) : Quiet s (s.recordEnd id r d).1 := by
  unfold State.recordEnd
  split
  · exact .refl s
  · exact (Quiet.modVend s _ _).trans (Quiet.modSelection _ _ _)

theorem Quiet.takeFromList (id : Nat) (r : VendResult) (d : Bool) : Quiet s (s.takeFromList id r d).1 := by
  unfold State.takeFromList
  split
  · exact .refl s
  · dsimp only
    refine Quiet.trans (Quiet.modSales s ?_) (.trans (Quiet.raise _ _ _ _) (Quiet.modSales _ ?_))
    · exact le_rfl
    · exact List.length_filter_le _ _

theorem Quiet.repriceNow : Quiet s s.repriceNow := Quiet.modChange s _

theorem Quiet.dispatchOne : Quiet s s.dispatchOne.1 := by
  unfold State.dispatchOne
  split
  · exact Quiet.modVend s _ _
  · exact .refl s

theorem Quiet.vendGranted (g : Group) : Quiet s (s.vendGranted g).1 := by
  unfold State.vendGranted
  split
  · exact .refl s
  · refine (Quiet.modVend s _ _).trans ((Quiet.modSales _ ?_).trans (Quiet.requestTurn _ _ _))
    exact le_rfl

theorem Quiet.turnDone (g : Group) : Quiet s (s.turnDone g).1 := by
  unfold State.turnDone
  repeat' split
  all_goals first | exact .refl s | exact Quiet.modVend s _ _

theorem Quiet.turnJammed (g : Group) : Quiet s (s.turnJammed g).1 := by
  unfold State.turnJammed
  split <;> exact .refl s

/-! ### The Credit Session Unit -/

theorem Quiet.carry (n : Nat) : Quiet s (s.carry n) := Quiet.modCash s fun _ => min_le_left _ _

theorem Quiet.openCash : Quiet s s.openCash := Quiet.modCash s fun _ => Nat.zero_le _

theorem Quiet.openCard (n k : Nat) : Quiet s (s.openCard n k) := Quiet.modCash s id

theorem Quiet.takeCash (k : Cash) (n : Nat) : Quiet s (s.takeCash k n) := by
  unfold State.takeCash
  dsimp only
  split_ifs
  · exact (Quiet.modSession s _).trans (Quiet.carry _ _)
  · exact Quiet.modSession s _
  · exact Quiet.carry s n

theorem Quiet.receiveCash (k : Cash) (n : Nat) : Quiet s (s.receiveCash k n) := by
  unfold State.receiveCash
  split
  · exact (Quiet.openCash s).trans (Quiet.takeCash _ k n)
  · exact Quiet.takeCash s k n

theorem Quiet.charge (n : Nat) (f : Funding) : Quiet s (s.charge n f) := by
  unfold State.charge
  split
  · exact Quiet.modSession s _
  · exact .refl s

theorem Quiet.takeVendEnd (r : VendResult) (n : Nat) (f : Funding) : Quiet s (s.takeVendEnd r n f).1 := by
  have hcharge : Quiet s (if r = .delivered then s.charge n f else s) := by
    split
    · exact Quiet.charge s n f
    · exact .refl s
  unfold State.takeVendEnd
  generalize (if r = .delivered then s.charge n f else s) = u at hcharge ⊢
  dsimp only
  repeat' split
  all_goals exact hcharge

theorem Quiet.requestClose : Quiet s s.requestClose.1 := by
  unfold State.requestClose
  split <;> exact .refl s

theorem Quiet.goOnClosing : Quiet s s.goOnClosing.1 := by
  unfold State.goOnClosing
  split_ifs
  · exact .refl s
  · dsimp only
    exact Quiet.modSession s _
  · exact .refl s

theorem Quiet.modBridge {f : BridgeUnit → BridgeUnit}
    (h : ∀ c ∈ (f s.bridge).channels, c ∈ s.bridge.channels ∨ c.Bounded) : Quiet s (s.modBridge f) :=
  Quiet.of_bridge s fun hs c hc => (h c hc).elim (hs c) id

/-- A change of one channel that keeps its queue within its blocks. -/
theorem Quiet.modChannel (n : Nat) {f : Channel → Channel} (h : ∀ c, c.Bounded → (f c).Bounded) :
    Quiet s (s.modChannel n f) :=
  Quiet.of_bridge s fun hs c hc => by
    obtain hc | ⟨d, hd, rfl⟩ := mem_editAt f hc
    · exact hs c hc
    · exact h d (hs d hd)

theorem Quiet.fillSlot (n : Nat) (x : Command) : Quiet s (s.fillSlot n x) := Quiet.modChannel s n fun _ h => h

theorem Quiet.modCredit {f : CreditUnit → CreditUnit} (hsession : (f s.credit).session = s.credit.session)
    (hcarried : (f s.credit).carried = s.credit.carried) (hchanged : (f s.credit).changed = s.credit.changed) :
    Quiet s (s.modCredit f) :=
  Quiet.of_credit s hsession hcarried hchanged

theorem Quiet.settleCard (x : Session) (c : Card) : Quiet s (s.settleCard x c).1 := by
  unfold State.settleCard State.sessionToIdle
  dsimp only
  refine .trans ?_ ((Quiet.raise _ _ _ _).trans (Quiet.modSession _ _))
  split
  · exact Quiet.fillSlot s _ _
  · exact Quiet.modCredit s rfl rfl rfl

theorem Quiet.finishClose : Quiet s s.finishClose.1 := by
  unfold State.finishClose
  split
  · exact Quiet.settleCard s _ _
  · split_ifs
    · exact .refl s
    · dsimp only
      exact Quiet.modSession s _

theorem Quiet.endCash (n : Nat) : Quiet s (s.endCash n).1 := by
  unfold State.endCash State.sessionToIdle
  dsimp only
  refine .trans ?_ ((Quiet.raise _ _ _ _).trans (Quiet.modSession _ _))
  split
  · exact .refl s
  · exact Quiet.carry s n

theorem Quiet.moveHead (n : Nat) : Quiet s (s.moveHead n).1 := by
  unfold State.moveHead
  split
  · split_ifs
    · refine (Quiet.modCredit s ?_ ?_ ?_).trans (Quiet.fillSlot _ _ _) <;> rfl
    · exact .refl s
  · exact .refl s

theorem Quiet.channelReady (n : Nat) : Quiet s (s.channelReady n).1 := by
  unfold State.channelReady
  split
  · dsimp only
    exact Quiet.modCredit s rfl rfl rfl
  · exact .refl s
  · exact .refl s

theorem Quiet.takeEscrow (n k : Nat) : Quiet s (s.takeEscrow n k) := by
  refine (Quiet.modCredit s ?_ ?_ ?_).trans (Quiet.raise _ _ _ _) <;> rfl

theorem Quiet.takeStacked (n k : Nat) : Quiet s (s.takeStacked n k) := by
  unfold State.takeStacked
  split
  · refine .trans ?_ ((Quiet.takeCash _ .note _).trans (Quiet.raise _ _ _ _))
    split
    · exact Quiet.openCash s
    · exact .refl s
  · exact Quiet.raise s _ _ _

theorem Quiet.takeApproved (n k : Nat) : Quiet s (s.takeApproved n k) := by
  unfold State.takeApproved
  split
  · exact (Quiet.openCard s _ _).trans (Quiet.raise _ _ _ _)
  · refine (Quiet.modCredit s ?_ ?_ ?_).trans (Quiet.raise _ _ _ _) <;> rfl

theorem Quiet.draw : Quiet s s.draw := Quiet.of_free s _ _ _ _ _

theorem Quiet.takeReport (n : Nat) (k : Byte) (p : List Byte) : Quiet s (s.takeReport n k p).1 := by
  have hdraw : Quiet s (if p.length < reportSize k then s.draw else s) := by
    split
    · exact Quiet.draw s
    · exact .refl s
  unfold State.takeReport
  generalize (if p.length < reportSize k then s.draw else s) = u at hdraw ⊢
  refine hdraw.trans ?_
  dsimp only
  split_ifs
  · exact Quiet.takeEscrow u _ _
  · exact Quiet.takeStacked u _ _
  · exact Quiet.raise u _ _ _
  · exact Quiet.takeApproved u _ _
  · exact Quiet.raise u _ _ _
  · exact .refl u

/-! ### The Change Engine -/

theorem Quiet.takeHandOver (n : Nat) : Quiet s (s.takeHandOver n).1 := by
  unfold State.takeHandOver
  split
  · exact .refl s
  all_goals
    dsimp only
    exact Quiet.modChange s _

theorem Quiet.setJob (q : SeqState) (j : Option Job) : Quiet s (s.setJob q j) := Quiet.modChange s _

theorem Quiet.pulse (n : Nat) (w : SeqState) : Quiet s (s.pulse n w) := Quiet.modChange s _

theorem Quiet.payNext : Quiet s s.payNext.1 := by
  unfold State.payNext
  split
  · exact .refl s
  · dsimp only
    split
    · exact Quiet.setJob s _ _
    · exact (Quiet.setJob s _ _).trans (Quiet.pulse _ _ _)
  · split
    · exact .refl s
    · exact Quiet.pulse s _ _

theorem Quiet.closeRun : Quiet s s.closeRun.1 := by
  unfold State.closeRun
  split
  · refine .trans ?_ (Quiet.setJob _ _ _)
    split
    · exact .refl s
    · exact Quiet.raise s _ _ _
  · exact .refl s

theorem Quiet.closeDispense : Quiet s s.closeDispense.1 := by
  unfold State.closeDispense
  split
  · dsimp only
    exact (Quiet.setJob s _ _).trans (Quiet.modChange _ _)
  · exact Quiet.setJob s _ _

theorem Quiet.storeAssurance (x : Option Nat) : Quiet s (s.storeAssurance x) := by
  unfold State.storeAssurance
  dsimp only
  split
  · exact Quiet.modChange s _
  · exact (Quiet.modChange s _).trans (Quiet.raise _ _ _ _)

theorem Quiet.startEvaluation : Quiet s s.startEvaluation := by
  unfold State.startEvaluation
  split
  · exact (Quiet.modChange s _).trans (Quiet.storeAssurance _ _)
  · exact Quiet.modChange s _

theorem Quiet.triggerAssurance : Quiet s s.triggerAssurance := by
  unfold State.triggerAssurance
  split
  · exact Quiet.modChange s _
  · exact Quiet.startEvaluation s

theorem Quiet.completeEvaluation (e : EvalInput) : Quiet s (s.completeEvaluation e) := by
  have hstored := (Quiet.storeAssurance s e.shortAmount).trans (Quiet.modChange _ fun c => { c with evaluating := none })
  unfold State.completeEvaluation
  dsimp only
  split
  · exact hstored.trans ((Quiet.modChange _ _).trans (Quiet.startEvaluation _))
  · exact hstored

theorem Tube.bounded_derive {t : Tube} (h : t.Bounded) (c : Bool) : (t.derive c).Bounded := h

/-- A Tube record replaced by one within its bounds, where it was within them itself. An index without a tube replaces nothing. -/
theorem Quiet.setTube (n : Nat) {x : Tube} (h : (s.tube n).Bounded → x.Bounded) : Quiet s (s.setTube n x) := by
  have htubes : Quiet s (s.modTubes (editAt (fun _ => x) (n - 1))) := by
    refine Quiet.of_tubes s fun hs y hy => ?_
    rw [editAt_const] at hy
    obtain hy | rfl := List.mem_or_eq_of_mem_set hy
    · exact hs y hy
    · refine h ?_
      rw [State.tube, List.getD_eq_getElem?_getD]
      cases hx : s.tubes[n - 1]? with
      | some z => exact hs z (List.mem_of_getElem? hx)
      | none => exact ⟨Nat.zero_le _, Nat.zero_le _⟩
  unfold State.setTube
  dsimp only
  split
  · exact htubes
  · exact htubes.trans (Quiet.triggerAssurance _)

theorem Quiet.coinIntoTube (n : Nat) : Quiet s (s.coinIntoTube n) := by
  refine Quiet.setTube s n fun h => Tube.bounded_derive ?_ _
  obtain ⟨hcount, hjams⟩ := h
  refine ⟨?_, hjams⟩
  split <;> dsimp only <;> omega

theorem Quiet.coinOutOfTube (n : Nat) : Quiet s (s.coinOutOfTube n) :=
  Quiet.setTube s n fun ⟨hcount, hjams⟩ => ⟨(Nat.sub_le _ _).trans hcount, hjams⟩

theorem Quiet.jamTube (n : Nat) : Quiet s (s.jamTube n) :=
  Quiet.setTube s n fun h => ⟨h.1, min_le_left _ _⟩

end Acts
end Sys2Proof.Machine

namespace Sys2Proof.Machine

/-! ### The Refrigeration Controller (R96 to R118) -/

/-- Nothing told apart has changed. -/
theorem PlantUnit.Apart.congr {p q : PlantUnit} (h : p.Apart) (hc : q.compressor = p.compressor)
    (hd : q.defrost = p.defrost) : q.Apart := by
  unfold PlantUnit.Apart PlantUnit.relay at *
  rwa [hc, hd]

/-- A compressor that neither runs nor waits to start leaves every stage of a defrost open. -/
theorem PlantUnit.apart_of_off {p : PlantUnit}
    (h : p.compressor = .offMin ∨ p.compressor = .offReady ∨ p.compressor = .protecting) : p.Apart := by
  obtain h | h | h := h <;> simp [PlantUnit.Apart, PlantUnit.relay, h]

theorem PlantUnit.apart_of_idle {p : PlantUnit} (h : p.defrost = .idle) : p.Apart := by
  simp [PlantUnit.Apart, h]

section Acts

variable (s : State)

/-- A change of the plant that leaves the Cooling Table and Exposure alone. -/
theorem Quiet.modPlant {f : PlantUnit → PlantUnit} (hcooling : (f s.plant).cooling = s.plant.cooling)
    (hexposure : (f s.plant).exposure = s.plant.exposure) (hapart : s.plant.Apart → (f s.plant).Apart) :
    Quiet s (s.modPlant f) :=
  Quiet.of_plant s hcooling (fun h => hexposure ▸ h) hapart

theorem Quiet.setCompressor {c : Compressor} (h : s.plant.Apart → PlantUnit.Apart { s.plant with compressor := c }) :
    Quiet s (s.setCompressor c) :=
  Quiet.modPlant s rfl rfl h

theorem Quiet.setDefrost {d : Defrost} (h : s.plant.Apart → PlantUnit.Apart { s.plant with defrost := d }) :
    Quiet s (s.setDefrost d) :=
  Quiet.modPlant s rfl rfl h

/-- A stop, or a compressor at rest that goes to another state of rest. -/
theorem Quiet.setOff {c : Compressor} (h : c = .offMin ∨ c = .offReady ∨ c = .protecting) : Quiet s (s.setCompressor c) :=
  Quiet.modPlant s rfl rfl fun _ => PlantUnit.apart_of_off h

theorem Quiet.halt {c : Compressor} (h : c = .offMin ∨ c = .protecting) : Quiet s (s.modPlant fun p => p.halt s.now c) :=
  Quiet.modPlant s rfl rfl fun _ => PlantUnit.apart_of_off (h.imp_right .inr)

theorem Quiet.testDemand : Quiet s s.testDemand.1 := by
  have hdemand : Quiet s (s.modPlant fun p => { p with demand := p.demandNow s.now }) :=
    Quiet.modPlant s rfl rfl fun h => h
  unfold State.testDemand
  generalize s.modPlant (fun p => { p with demand := p.demandNow s.now }) = u at hdemand ⊢
  refine hdemand.trans ?_
  dsimp only
  split
  · split_ifs with hstart
    · refine Quiet.setCompressor u fun _ => PlantUnit.apart_of_idle ?_
      simp only [PlantUnit.mayStart, Bool.and_eq_true, decide_eq_true_eq] at hstart
      exact hstart.2.1
    · exact .refl u
  · split_ifs
    · exact .refl u
    · exact Quiet.setOff u (by simp)
  all_goals exact .refl u

theorem Quiet.testStop : Quiet s s.testStop.1 := by
  unfold State.testStop
  split
  · split_ifs
    · exact Quiet.halt s (.inl rfl)
    · exact .refl s
  all_goals exact .refl s

theorem Quiet.testCondenser : Quiet s s.testCondenser.1 := by
  unfold State.testCondenser
  split
  · dsimp only
    split
    · exact Quiet.halt s (.inr rfl)
    · exact Quiet.halt s (.inr rfl)
    all_goals first | exact Quiet.setOff s (by simp) | exact .refl s
  · exact .refl s

theorem Quiet.testProtect : Quiet s s.testProtect.1 := by
  unfold State.testProtect
  split
  · dsimp only
    refine (Quiet.modPlant s ?_ ?_ fun _ => PlantUnit.apart_of_off (.inl ?_)).trans (Quiet.raise _ _ _ _) <;> rfl
  · exact .refl s

theorem Quiet.startGranted : Quiet s s.startGranted.1 := by
  unfold State.startGranted
  split
  case h_1 hwait =>
    exact Quiet.setCompressor s fun h => PlantUnit.apart_of_idle (h.1 hwait)
  all_goals exact .refl s

theorem Quiet.proceedDefrost : Quiet s s.proceedDefrost.1 := by
  unfold State.proceedDefrost
  split
  case h_1 c hdue =>
    split_ifs with hrelay
    · exact .refl s
    · refine Quiet.setDefrost s fun h => ⟨fun hwait => ?_, fun hr => absurd hr hrelay⟩
      have := h.1 hwait
      simp [hdue] at this
  all_goals exact .refl s

theorem Quiet.makeDue (c : DefrostCause) : Quiet s (s.makeDue c).1 := by
  unfold State.makeDue
  split
  · have hdue : ∀ x : Compressor, x = .offReady ∨ (x = s.plant.compressor ∧ x ≠ .startWait) →
        Quiet s (((s.setDefrost (.due c)).raise .defrost none [1, c.code]).setCompressor x) := by
      intro x hx
      refine .trans (t := (s.setDefrost (.due c)).setCompressor x) ?_ ?_
      · refine Quiet.modPlant s (f := fun p => { p with defrost := .due c, compressor := x }) rfl rfl fun _ => ?_
        refine ⟨fun hwait => ?_, fun _ => .inr rfl⟩
        obtain hx | ⟨-, hx⟩ := hx
        · simp [hx] at hwait
        · exact absurd hwait hx
      · exact Quiet.raise _ _ _ _
    have hsame : s.plant.compressor ≠ .startWait →
        Quiet s ((s.setDefrost (.due c)).raise .defrost none [1, c.code]) := fun hne =>
      hdue s.plant.compressor (.inr ⟨rfl, hne⟩)
    dsimp only
    split
    · exact hdue .offReady (.inl rfl)
    all_goals
      rename_i heq
      refine hsame ?_
      intro hwait
      change s.plant.compressor = _ at heq
      simp [hwait] at heq
  all_goals exact .refl s

theorem Quiet.defrostGranted : Quiet s s.defrostGranted.1 := by
  have hapart : ∀ d, s.plant.defrost ≠ .idle → s.plant.defrost.isDue = false → Quiet s (s.setDefrost d) := by
    intro d hidle hdue
    refine Quiet.setDefrost s fun h => ⟨fun hwait => absurd (h.1 hwait) hidle, fun hr => ?_⟩
    obtain hi | hd := h.2 hr
    · exact absurd hi hidle
    · simp [hdue] at hd
  unfold State.defrostGranted
  split
  case h_1 heq => exact hapart _ (by simp [heq]) (by simp [heq, Defrost.isDue])
  case h_2 heq => exact hapart _ (by simp [heq]) (by simp [heq, Defrost.isDue])
  all_goals exact .refl s

/-- A stage with heat neither starts nor waits beside a compressor that runs. -/
theorem PlantUnit.Apart.of_melting {p q : PlantUnit} {c : DefrostCause} (h : p.Apart) (hm : p.defrost.meltCause = some c)
    (hc : q.compressor = p.compressor) : q.Apart := by
  obtain ⟨hwait, hrelay⟩ := h
  have hidle : p.defrost ≠ .idle := by intro h; simp [h, Defrost.meltCause] at hm
  refine ⟨fun hw => absurd (hwait (hc ▸ hw)) hidle, fun hr => ?_⟩
  have hr' : p.relay = true := by rwa [PlantUnit.relay, ← hc]
  obtain hi | hd := hrelay hr'
  · exact absurd hi hidle
  · cases hp : p.defrost <;> simp [hp, Defrost.meltCause, Defrost.isDue] at hm hd

theorem Quiet.endHeating (n : Nat) : Quiet s (s.endHeating n).1 := by
  unfold State.endHeating
  split
  case h_1 c hc =>
    refine Quiet.modPlant s (f := fun p => { p with defrost := .drip c s.now, heatMs := s.plant.heatingMs s.now }) rfl rfl
      fun h => h.of_melting hc rfl
  case h_2 => exact .refl s

theorem Quiet.testDefrost : Quiet s s.testDefrost.1 := by
  unfold State.testDefrost
  split
  · exact Quiet.endHeating s 1
  · exact .refl s

theorem Quiet.endDrip : Quiet s s.endDrip.1 := by
  unfold State.endDrip
  split
  case h_1 =>
    dsimp only
    refine (Quiet.modPlant s ?_ ?_ fun _ => PlantUnit.apart_of_idle ?_).trans (Quiet.raise _ _ _ _) <;> rfl
  all_goals exact .refl s

theorem Quiet.activateLockout (n : Nat) : Quiet s (s.activateLockout n).1 := by
  unfold State.activateLockout
  split
  · exact .refl s
  · dsimp only
    exact .trans (t := s.modPlant fun p => { p with lockout := true }) (Quiet.modPlant s rfl rfl fun h => h)
      (Quiet.raise _ _ _ _)

theorem Quiet.testExposure : Quiet s s.testExposure.1 := by
  unfold State.testExposure
  split
  · exact Quiet.activateLockout s 1
  · exact .refl s

theorem PlantUnit.stepExposure_le {p : PlantUnit} (h : p.exposure ≤ 65535) : p.stepExposure ≤ 65535 := by
  unfold PlantUnit.stepExposure
  split
  all_goals first | exact h | skip
  all_goals
    split
    · exact min_le_left _ _
    · exact (Nat.sub_le _ _).trans h

theorem Quiet.takeStep : Quiet s s.takeStep.1 := by
  have hstep : Quiet s (s.modPlant fun p =>
      { p with exposure := p.stepExposure, stepAt := p.stepAt + Config.exposureSpacing }) :=
    Quiet.of_plant s rfl PlantUnit.stepExposure_le fun h => h
  unfold State.takeStep
  generalize s.modPlant (fun p => { p with exposure := p.stepExposure, stepAt := p.stepAt + Config.exposureSpacing }) = u
    at hstep ⊢
  refine hstep.trans ?_
  dsimp only
  split
  · exact .trans (t := u.modPlant fun p => { p with lockout := false }) (Quiet.modPlant u rfl rfl fun h => h)
      (Quiet.raise _ _ _ _)
  · exact .refl u

theorem Quiet.raiseSensor (n : Nat) (x y : Sensor) : Quiet s (s.raiseSensor n x y) := by
  unfold State.raiseSensor
  split
  · exact Quiet.raise s _ _ _
  · exact .refl s

theorem PlantUnit.sampled_keeps (p : PlantUnit) (now a b c : Nat) :
    (p.sampled now a b c).cooling = p.cooling ∧ (p.sampled now a b c).exposure = p.exposure
      ∧ (p.sampled now a b c).compressor = p.compressor ∧ (p.sampled now a b c).defrost = p.defrost := by
  unfold PlantUnit.sampled
  dsimp only
  split <;> exact ⟨rfl, rfl, rfl, rfl⟩

theorem Quiet.takeSamples (a b c : Nat) : Quiet s (s.takeSamples a b c).1 := by
  obtain ⟨hcooling, hexposure, hcompressor, hdefrost⟩ := PlantUnit.sampled_keeps s.plant s.now a b c
  unfold State.takeSamples
  dsimp only
  refine .trans (t := s.modPlant fun p => p.sampled s.now a b c) ?_
    ((Quiet.raiseSensor _ _ _ _).trans ((Quiet.raiseSensor _ _ _ _).trans (Quiet.raiseSensor _ _ _ _)))
  exact Quiet.modPlant s hcooling hexposure fun h => h.congr hcompressor hdefrost

/-- STARTING becomes RUNNING: the relay stays on. -/
theorem Quiet.toRunning {since : Nat} (h : s.plant.compressor = .starting since) :
    Quiet s (s.setCompressor (.running since)) :=
  Quiet.setCompressor s fun hapart => ⟨fun hw => by simp at hw, fun _ => hapart.2 (by simp [PlantUnit.relay, h])⟩

theorem Quiet.endIntervals (n : Nat) : Quiet s (s.endIntervals n).1 := by
  unfold State.endIntervals
  split
  case h_1 since hstarting =>
    split
    · exact (Quiet.toRunning s hstarting).trans (Quiet.shrinkStart _)
    · exact .refl s
  case h_2 =>
    have hoff : Quiet s (if s.plant.compressor = .offMin ∧ s.plant.cooling.minOff * 1000 ≤ s.now - s.plant.offSince then
        s.setCompressor .offReady else s) := by
      split
      · exact Quiet.setOff s (by simp)
      · exact .refl s
    generalize (if s.plant.compressor = .offMin ∧ s.plant.cooling.minOff * 1000 ≤ s.now - s.plant.offSince then
        s.setCompressor .offReady else s) = u at hoff ⊢
    refine hoff.trans ?_
    dsimp only
    split
    · exact Quiet.endHeating u 2
    · exact .refl u

/-! ### The Peripheral Bridge -/

theorem Quiet.startWork (n : Nat) (j : WorkItem) : Quiet s (s.startWork n j) := by
  unfold State.startWork
  dsimp only
  refine .trans (.trans (Quiet.modChannel s n ?_) (Quiet.modBridge _ ?_)) (Quiet.draw _)
  · exact fun c hc => hc
  · exact fun c hc => .inl hc

theorem Quiet.lookForWork : Quiet s s.lookForWork := by
  unfold State.lookForWork
  split
  · split
    · exact Quiet.startWork s _ _
    · exact .refl s
  all_goals exact .refl s

theorem Quiet.enterGuard : Quiet s s.enterGuard := Quiet.modBridge s fun _ hc => .inl hc

end Acts
end Sys2Proof.Machine

namespace Sys2Proof.Machine

/-! ### The tables (R163, R164) -/

/-- What every committed entry makes of a record, and every record has, the whole table has. -/
theorem forall_mem_putEntries {α : Type} {f : List Byte → α → α} {P : α → Prop} (hf : ∀ e x, P x → P (f e x)) (base : Nat)
    (es : List (Nat × List Byte)) {xs : List α} (h : ∀ x ∈ xs, P x) : ∀ x ∈ putEntries f base es xs, P x := by
  unfold putEntries
  induction es generalizing xs with
  | nil => exact h
  | cons e es ih =>
    refine ih fun x hx => ?_
    obtain hx | ⟨y, hy, rfl⟩ := mem_editAt _ hx
    · exact h x hx
    · exact hf _ y (h y hy)

theorem coinOf_accepted {e : List Byte} {c : CoinEntry} (h : coinOf e = some c) : c.accepted = 0 := by
  unfold coinOf at h
  split at h
  · split at h
    · cases h; rfl
    · cases h
  · cases h

theorem Tube.bounded_assign {t : Tube} (a : Assignment) (h : t.Bounded) : (t.assign a).Bounded := by
  obtain ⟨-, hjams⟩ := h
  refine ⟨?_, hjams⟩
  change (if a.entry.isNone then 0 else min t.count a.capacity) ≤ a.capacity
  split
  · exact Nat.zero_le _
  · exact min_le_right _ _

theorem clampInt_bounds {low high : Int} (h : low ≤ high) (n : Int) : low ≤ clampInt low high n ∧ clampInt low high n ≤ high := by
  unfold clampInt
  omega

theorem coolingBytes_bounded {e : List Byte} (h : (coolingBytes e).inRange = true) : (coolingBytes e).Bounded :=
  ⟨h, clampInt_bounds (by decide) _, clampInt_bounds (by decide) _⟩

section Tables

variable (s : State)

/-- Cooling entries that the owner's validation has passed are put in. -/
theorem Quiet.commitCooling (es : List (Nat × List Byte))
    (h : s.tables.WaitsDeferred → ∀ e ∈ es, (coolingBytes e.2).inRange = true) :
    Quiet s (es.foldl (fun s e => s.modPlant fun p => { p with cooling := coolingBytes e.2 }) s) := by
  induction es generalizing s with
  | nil => exact .refl s
  | cons e es ih =>
    refine .trans ?_ (ih _ fun hd x hx => h hd x (List.mem_cons_of_mem _ hx))
    exact { Quiet.refl s with cooling := fun hd _ => coolingBytes_bounded (h hd e List.mem_cons_self) }

/-- Load entries whose Budget holds what is drawn are put in; the waiting claims keep their kinds. -/
theorem Quiet.commitLoad (es : List (Nat × List Byte))
    (h : s.tables.WaitsDeferred → ∀ e ∈ es, s.load.drawn ≤ (loadBytes e.2).budget) :
    Quiet s (es.foldl (fun s e => s.modLoad fun l => l.renew (loadBytes e.2)) s) := by
  induction es generalizing s with
  | nil => exact .refl s
  | cons e es ih =>
    refine .trans ?_ (ih _ fun hd x hx => h hd x (List.mem_cons_of_mem _ hx))
    refine { Quiet.refl s with budget := fun hd _ => h hd e List.mem_cons_self, kinds := fun hk => ?_ }
    simpa [LoadUnit.kinds, State.modLoad, LoadUnit.renew, Function.comp_def] using hk

theorem Quiet.commitPolicy (es : List (Nat × List Byte)) :
    Quiet s (es.foldl (fun s e => s.modCredit fun c => { c with policy := (policyOf e.2).getD c.policy }) s) := by
  induction es generalizing s with
  | nil => exact .refl s
  | cons e es ih => exact .trans (Quiet.modCredit s rfl rfl rfl) (ih _)

theorem Quiet.rehomeSettlements : Quiet s s.rehomeSettlements := by
  unfold State.rehomeSettlements
  split
  · exact Quiet.modCredit s rfl rfl rfl
  · exact .refl s

theorem Quiet.applyChannels (es : List (Nat × List Byte)) : Quiet s (s.applyChannels es).1 := by
  unfold State.applyChannels
  dsimp only
  refine .trans (Quiet.of_bridge s fun hs => ?_) (Quiet.rehomeSettlements _)
  dsimp only
  refine forall_mem_putEntries (fun e c hc => ?_) 0 es hs
  split
  · exact Nat.zero_le _
  · exact hc

/-- A load applied: a Cooling or a Load Table needs the check of R163; the other tables bring no value out of bounds. -/
theorem Quiet.applyLoad (k : TableKind) (es : List (Nat × List Byte))
    (hcooling : s.tables.WaitsDeferred → k = .cooling → ∀ e ∈ es, (coolingBytes e.2).inRange = true)
    (hload : s.tables.WaitsDeferred → k = .load → ∀ e ∈ es, s.load.drawn ≤ (loadBytes e.2).budget) :
    Quiet s (s.applyLoad k es).1 := by
  unfold State.applyLoad
  cases k with
  | coin =>
    refine .trans (Quiet.of_coin s fun hs => ?_) (Quiet.triggerAssurance _)
    change ∀ x ∈ putEntries (fun e x => (coinOf e).getD x) 0 es s.coin.table, x.accepted ≤ 65535
    refine forall_mem_putEntries (fun e x hx => ?_) 0 es hs
    cases hc : coinOf e with
    | none => exact hx
    | some c => simp [coinOf_accepted hc]
  | tube =>
    refine .trans (Quiet.of_tubes s fun hs => ?_) (Quiet.triggerAssurance _)
    refine forall_mem_putEntries (fun e t ht => ?_) 1 es hs
    split
    · exact Tube.bounded_assign _ ht
    · exact ht
  | note =>
    dsimp only
    exact Quiet.modCredit s rfl rfl rfl
  | policy => exact (Quiet.commitPolicy s es).trans (Quiet.triggerAssurance _)
  | selection =>
    dsimp only
    exact Quiet.modSales s le_rfl
  | cooling => exact Quiet.commitCooling s es fun hd => hcooling hd rfl
  | curve =>
    dsimp only
    exact Quiet.modPlant s rfl rfl fun h => h
  | load => exact Quiet.commitLoad s es fun hd => hload hd rfl
  | channel => exact Quiet.applyChannels s es

/-- A load that waited is of a deferred kind, so that it is neither a Cooling nor a Load Table. -/
theorem Quiet.applyPendingLoad : Quiet s s.applyPendingLoad.1 := by
  unfold State.applyPendingLoad
  split
  case h_1 b hb =>
    refine Quiet.applyLoad s b.kind _ (fun hd hk => ?_) fun hd hk => ?_
    all_goals
      have := hd b hb
      rw [hk] at this
      cases this
  all_goals exact .refl s

theorem Quiet.modTables {f : TablesUnit → TablesUnit} (hmode : (f s.tables).mode = s.tables.mode)
    (hremembered : (f s.tables).remembered = s.tables.remembered)
    (h : s.tables.WaitsDeferred → (f s.tables).WaitsDeferred) : Quiet s (s.modTables f) :=
  Quiet.of_tables s hmode hremembered h

theorem Quiet.setStaging {x : Staging} (h : ∀ b, x = .pending b → b.kind.timing = .deferred) : Quiet s (s.setStaging x) :=
  Quiet.modTables s rfl rfl fun _ => h

theorem Quiet.loadApplied (k : TableKind) (a b c : Nat) : Quiet s (s.loadApplied k a b c) := by
  unfold State.loadApplied
  dsimp only
  refine (Quiet.modTables s ?_ ?_ ?_).trans ((Quiet.raise _ _ _ _).trans (Quiet.modTables _ ?_ ?_ ?_))
  · rfl
  · rfl
  · exact fun h => h
  · rfl
  · rfl
  · intro _ b hb
    cases hb

end Tables

/-! ### Every act, and the end of a command -/

theorem Quiet.handGrant (s : State) (k : LoadKind) (o : Claimant) : Quiet s (s.handGrant k o).1 := by
  cases k with
  | payout => exact .refl s
  | motor g => cases o <;> first | exact Quiet.testGranted s g | exact Quiet.vendGranted s g
  | compressorStart => exact Quiet.startGranted s
  | defrost => exact Quiet.defrostGranted s
  | compressorRun => exact .refl s

/-- Every act keeps the invariants and marks every change of credit. -/
theorem Quiet.perform (a : Act) (s : State) : Quiet s (perform a s).1 := by
  cases a with
  | notice k u vs => exact Quiet.raise s k u vs
  | decide => exact Quiet.decideHead s
  | place k o => exact Quiet.placeClaim s k o
  | withdraw k o => exact Quiet.withdrawClaim s k o
  | release k o => exact Quiet.releaseClaim s k o
  | granted k o => exact Quiet.handGrant s k o
  | dispatch => exact Quiet.dispatchOne s
  | endVends ends d => exact Quiet.endTogether s ends d
  | endVend id r d => exact Quiet.recordEnd s id r d
  | leaveList id r d => exact Quiet.takeFromList s id r d
  | reprice => exact Quiet.repriceNow s
  | jamPosition p => exact Quiet.modSelection s p _
  | turnEnded g o => exact Quiet.reportTurn s g o
  | turnFaulted g o => exact Quiet.reportFault s g o
  | vendTurned g => exact Quiet.turnDone s g
  | vendJammed g => exact Quiet.turnJammed s g
  | startHeld g => exact Quiet.startHeldRequest s g
  | vendReported r n f => exact Quiet.takeVendEnd s r n f
  | closeRequest => exact Quiet.requestClose s
  | closeRest => exact Quiet.goOnClosing s
  | completeClose => exact Quiet.finishClose s
  | handOver n => exact Quiet.takeHandOver s n
  | closeCash n => exact Quiet.endCash s n
  | applyPending => exact Quiet.applyPendingLoad s
  | applied k a b c => exact Quiet.loadApplied s k a b c
  | startRun n => exact Quiet.setJob s _ _
  | nextCoin => exact Quiet.payNext s
  | runEnded => exact Quiet.closeRun s
  | dispenseEnded => exact Quiet.closeDispense s
  | demandTest => exact Quiet.testDemand s
  | stopTest => exact Quiet.testStop s
  | defrostTest => exact Quiet.testDefrost s
  | condenserTest => exact Quiet.testCondenser s
  | protectTest => exact Quiet.testProtect s
  | defrostProceeds => exact Quiet.proceedDefrost s
  | defrostDue c => exact Quiet.makeDue s c
  | dripEntered r n => exact Quiet.raise s _ _ _
  | dripDone => exact Quiet.endDrip s
  | exposureTest => exact Quiet.testExposure s
  | lockOut n => exact Quiet.activateLockout s n
  | intervalsEnd n => exact Quiet.endIntervals s n
  | becameReady n => exact Quiet.channelReady s n
  | moveSettlement n => exact Quiet.moveHead s n
  | look => exact Quiet.lookForWork s
  | handOn n k p => exact Quiet.takeReport s n k p
  | guardLine => exact Quiet.enterGuard s
  | replySession q => exact Quiet.accept s _ _
  | replyDefrost q => exact Quiet.accept s _ _

theorem Quiet.settle {s u : State} (h : Quiet s u) (n : Nat) (acts : List Act) : Quiet s (settle n acts u) :=
  settle_keeps (P := Quiet s) (fun a _ hu => hu.trans (Quiet.perform a _)) n acts u h

theorem Quiet.evaluateMask (s : State) : Quiet s s.evaluateMask := by
  unfold State.evaluateMask
  split
  · split
    · exact .refl s
    · exact Quiet.modCredit s rfl rfl rfl
  · exact .refl s

theorem Quiet.pumpNotes (s : State) : Quiet s s.pumpNotes.1 := by
  unfold State.pumpNotes
  repeat' split
  all_goals first | exact .refl s | skip
  · dsimp only
    exact Quiet.modCredit s rfl rfl rfl
  all_goals
    dsimp only
    refine (Quiet.fillSlot s _ _).trans (Quiet.modCredit _ ?_ ?_ ?_) <;> rfl

theorem Quiet.pumpCards (s : State) : Quiet s s.pumpCards.1 := by
  unfold State.pumpCards
  repeat' split
  all_goals first | exact .refl s | skip
  · dsimp only
    exact Quiet.modCredit s rfl rfl rfl
  · dsimp only
    refine (Quiet.fillSlot s _ _).trans (Quiet.modCredit _ ?_ ?_ ?_) <;> rfl

/-- What follows CREDIT_CHANGED at the end of a command. -/
theorem Quiet.reportCredit_conclude (s : State) : Quiet s.reportCredit s.conclude := by
  have hpumped : Quiet s.reportCredit s.reportCredit.evaluateMask.pumpNotes.1.pumpCards.1 :=
    (Quiet.evaluateMask _).trans ((Quiet.pumpNotes _).trans (Quiet.pumpCards _))
  unfold State.conclude
  dsimp only
  split
  · exact hpumped.trans (Quiet.lookForWork _)
  · exact hpumped

theorem Kept.conclude (s : State) : Kept s s.conclude := by
  have hreport : Kept s s.reportCredit := by
    unfold State.reportCredit
    split
    · exact { (Quiet.raise s .creditChanged none s.creditValues).toKept with }
    · exact .refl s
  exact hreport.trans (Quiet.reportCredit_conclude s).toKept

end Sys2Proof.Machine

namespace Sys2Proof.Machine

/-! ### Every command -/

/-- How a command that is no reset goes from `s`: quiet work, and then the end of a command, or nothing where no credit has been
touched. -/
def Goes (s : State) (out : Host.Outcome State Fault Refusal) : Prop :=
  ∃ u, Quiet s u ∧ (out = .next u.conclude ∨ out = .next u ∧ u.credit = s.credit)

theorem Goes.next {s u : State} (h : Quiet s u) (hcredit : u.credit = s.credit) : Goes s (.next u) :=
  ⟨u, h, .inr ⟨rfl, hcredit⟩⟩

theorem Goes.refl (s : State) : Goes s (.next s) := .next (.refl s) rfl

theorem Goes.run {s u : State} (h : Quiet s u) (acts : List Act) : Goes s (.next (run u acts)) :=
  ⟨_, h.settle _ acts, .inl rfl⟩

theorem Goes.runDoing {s : State} {d : Doing} (h : Quiet s d.1) : Goes s (.next (runDoing d)) := Goes.run h d.2

section Commands

variable (s : State)

/-! #### The coin mechanism, the tubes, the session and the payout -/

/-- The gates and the path bear no invariant. -/
theorem Quiet.modCoin {f : CoinUnit → CoinUnit} (h : (f s.coin).table = s.coin.table) : Quiet s (s.modCoin f) :=
  Quiet.of_coin s fun hs => by rwa [CoinUnit.Bounded, h]

theorem Quiet.acceptCoin (e : Nat) : Quiet s (s.acceptCoin e) := Quiet.modCoin s rfl

theorem Quiet.closeGate : Quiet s s.closeGate := Quiet.modCoin s rfl

theorem Quiet.clearPath : Quiet s s.clearPath := Quiet.modCoin s rfl

theorem Quiet.rejectCoin (why : Rejection) (subject : Option Nat) (a b c : Nat) :
    Quiet s (s.rejectCoin why subject a b c) := by
  unfold State.rejectCoin
  refine .trans ?_ (Quiet.raise _ _ _ _)
  split
  · exact Quiet.closeGate s
  · exact .refl s

theorem State.rejectCoin_credit (why : Rejection) (subject : Option Nat) (a b c : Nat) :
    (s.rejectCoin why subject a b c).credit = s.credit := by
  unfold State.rejectCoin
  split <;> rfl

theorem execCoinSignature_goes (a b c : Nat) : Goes s (execCoinSignature a b c s) := by
  unfold execCoinSignature
  split
  · exact .run (Quiet.acceptCoin s _) _
  · exact .next (Quiet.rejectCoin s _ _ _ _ _) (State.rejectCoin_credit s _ _ _ _ _)

theorem execGateHoldEnd_goes : Goes s (execGateHoldEnd s) := by
  unfold execGateHoldEnd
  split
  · exact .next ((Quiet.reach s _).trans (Quiet.closeGate _)) rfl
  · exact .refl s

theorem CoinUnit.bounded_countEntry {c : CoinUnit} (h : c.Bounded) (e : Nat) :
    CoinUnit.Bounded { c with table := editAt (fun x => { x with accepted := stopAt 65535 x.accepted 1 }) e c.table } := by
  intro x hx
  obtain hx | ⟨y, -, rfl⟩ := mem_editAt _ hx
  · exact h x hx
  · exact min_le_left _ _

theorem Quiet.confirmCoin (c : PendingCoin) : Quiet s (s.confirmCoin c) := by
  have hcounted : Quiet s (s.countCoin c) := by
    unfold State.countCoin
    split
    · exact .refl s
    · split
      · exact Quiet.coinIntoTube s _
      · exact .refl s
  have hcleared : Quiet s ((s.countCoin c).countEntry c.entry).clearPath :=
    hcounted.trans ((Quiet.of_coin _ fun h => CoinUnit.bounded_countEntry h _).trans (Quiet.clearPath _))
  unfold State.confirmCoin
  dsimp only
  split
  · exact hcleared.trans (Quiet.receiveCash _ _ _)
  · exact hcleared

theorem execPathPassage_goes : Goes s (execPathPassage s) := by
  unfold execPathPassage
  split
  · exact .run (Quiet.confirmCoin s _) _
  · exact .next (Quiet.raise s _ _ _) rfl

theorem execPathTimeout_goes : Goes s (execPathTimeout s) := by
  unfold execPathTimeout
  split
  · exact .run ((Quiet.reach s _).trans ((Quiet.clearPath _).trans (Quiet.raise _ _ _ _))) _
  · exact .refl s

theorem Tube.correction_le {t : Tube} {covered : Bool} {c : Nat} (h : t.correction covered = some c) (ht : t.Bounded) :
    c ≤ t.capacity := by
  have hcount := ht.1
  unfold Tube.correction at h
  split_ifs at h <;> cases h <;> omega

theorem Quiet.takeLowSensor (n : Nat) (covered : Bool) : Quiet s (s.takeLowSensor n covered) := by
  unfold State.takeLowSensor
  dsimp only
  split
  case h_1 c hc =>
    refine (Quiet.setTube s n ?_).trans (Quiet.raise _ _ _ _)
    intro h
    have hle := Tube.correction_le hc h
    exact ⟨hle, h.2⟩
  case h_2 =>
    refine Quiet.of_tubes s fun hs x hx => ?_
    obtain hx | ⟨y, hy, rfl⟩ := mem_editAt _ hx
    · exact hs x hx
    · exact hs y hy

theorem execLowSensorChange_goes (n : Nat) (covered : Bool) : Goes s (execLowSensorChange n covered s) := by
  unfold execLowSensorChange
  split
  · exact .refl s
  · exact .run (Quiet.takeLowSensor s n covered) _

theorem execTubeSet_goes (q : Byte) (p : List Byte) : Goes s (execTubeSet q p s) := by
  have hrefuse : ∀ r, Goes s (.next (s.frameTaken.refuse q r)) := fun r =>
    .next ((Quiet.frameTaken s).trans (Quiet.refuse _ _ _ _)) rfl
  unfold execTubeSet
  dsimp only
  split
  · exact hrefuse _
  · split
    · exact hrefuse _
    · refine .run ((Quiet.frameTaken s).trans ((Quiet.setTube _ _ fun h => ?_).trans (Quiet.accept _ _ _))) _
      exact ⟨min_le_right _ _, h.2⟩

theorem execEndSession_goes (q : Byte) (p : List Byte) : Goes s (execEndSession q p s) := by
  unfold execEndSession
  dsimp only
  split
  · exact .next ((Quiet.frameTaken s).trans (Quiet.refuse _ _ _ _)) rfl
  · exact .run (Quiet.frameTaken s) _
  all_goals exact .next ((Quiet.frameTaken s).trans (Quiet.refuse _ _ _ _)) rfl

theorem execCoinReturn_goes : Goes s (execCoinReturn s) := by
  unfold execCoinReturn
  repeat' split
  all_goals first | exact .refl s | skip
  · exact .run (Quiet.openCash s) _
  · exact .run (.refl s) _

theorem execAssuranceEvaluationComplete_goes : Goes s (execAssuranceEvaluationComplete s) := by
  unfold execAssuranceEvaluationComplete
  split
  · exact .run (Quiet.completeEvaluation s _) _
  · exact .refl s

theorem Quiet.confirmPaid (n : Nat) : Quiet s (s.confirmPaid n).1 := by
  unfold State.confirmPaid State.payBack
  dsimp only
  split
  · exact (Quiet.coinOutOfTube s n).trans (Quiet.setJob _ _ _)
  · dsimp only
    exact (Quiet.coinOutOfTube s n).trans ((Quiet.setJob _ _ _).trans (Quiet.modSession _ _))
  · exact (Quiet.coinOutOfTube s n).trans (Quiet.setJob _ _ _)

theorem execPayoutExitBreak_goes : Goes s (execPayoutExitBreak s) := by
  unfold execPayoutExitBreak
  split
  all_goals first | exact .refl s | exact .runDoing (Quiet.confirmPaid s _)

theorem Quiet.tubeFails (n : Nat) : Quiet s (s.tubeFails n).1 := by
  unfold State.tubeFails
  dsimp only
  split
  all_goals exact (Quiet.jamTube s n).trans ((Quiet.raise _ _ _ _).trans (Quiet.setJob _ _ _))

theorem execExitWaitExpiry_goes : Goes s (execExitWaitExpiry s) := by
  unfold execExitWaitExpiry
  split
  · dsimp only
    split
    · exact .run ((Quiet.reach s _).trans (Quiet.setJob _ _ _)) _
    · exact .next ((Quiet.reach s _).trans (Quiet.pulse _ _ _)) rfl
  · exact .runDoing ((Quiet.reach s _).trans (Quiet.tubeFails _ _))
  all_goals exact .refl s

theorem execTubeDispense_goes (q : Byte) (p : List Byte) : Goes s (execTubeDispense q p s) := by
  have hrefuse : ∀ r, Goes s (.next (s.frameTaken.refuse q r)) := fun r =>
    .next ((Quiet.frameTaken s).trans (Quiet.refuse _ _ _ _)) rfl
  unfold execTubeDispense
  dsimp only
  split
  · exact hrefuse _
  · split
    · exact hrefuse _
    · exact .run ((Quiet.frameTaken s).trans ((Quiet.setJob _ _ _).trans (Quiet.accept _ _ _))) _

/-! #### The selections, the vends, the motors and the drop sensor -/

theorem execSelectionClear_goes (q : Byte) (p : List Byte) : Goes s (execSelectionClear q p s) := by
  unfold execSelectionClear
  dsimp only
  split
  · exact .next ((Quiet.frameTaken s).trans (Quiet.refuse _ _ _ _)) rfl
  · exact .run ((Quiet.frameTaken s).trans ((Quiet.modSelection _ _ _).trans (Quiet.accept _ _ _))) _

/-- A vend is listed only where the Vend List has room (R65). -/
theorem Quiet.judgeVend (q : Byte) (n : Nat) : Quiet s (s.judgeVend q n).1 := by
  unfold State.judgeVend
  split
  case h_1 => exact Quiet.refuse s _ _ _
  case h_2 hnone =>
    refine .trans (Quiet.of_sales s fun _ => ?_) (Quiet.accept _ _ _)
    unfold State.vendRefusal at hnone
    split_ifs at hnone with _ hfull
    simp only [SalesUnit.append, List.length_append, List.length_singleton]
    simp only [Config.vendListMax] at hfull
    omega

theorem execVend_goes (q : Byte) (p : List Byte) : Goes s (execVend q p s) := by
  have hrefuse : ∀ r, Goes s (.next (s.frameTaken.refuse q r)) := fun r =>
    .next ((Quiet.frameTaken s).trans (Quiet.refuse _ _ _ _)) rfl
  unfold execVend
  dsimp only
  repeat' split
  all_goals first | exact hrefuse _ | skip
  · exact .runDoing ((Quiet.frameTaken s).trans (Quiet.judgeVend _ _ _))
  · exact .runDoing ((Quiet.frameTaken s).trans ((Quiet.openCash _).trans (Quiet.judgeVend _ _ _)))

theorem Quiet.windowOver (v : Vend) : Quiet s (s.windowOver v).1 := by
  unfold State.windowOver
  dsimp only
  repeat' split
  all_goals first | exact .refl s | exact Quiet.modVend s _ _

theorem execDropWindowExpiry_goes (n : Nat) : Goes s (execDropWindowExpiry n s) := by
  unfold execDropWindowExpiry
  split
  · exact .runDoing ((Quiet.reach s _).trans (Quiet.windowOver _ _))
  · exact .refl s

theorem Quiet.setBeam (b : Beam) : Quiet s (s.setBeam b) := Quiet.modDrive s _

theorem Quiet.attributeDrop : Quiet s s.attributeDrop.1 := by
  unfold State.attributeDrop
  repeat' split
  all_goals first | exact .refl s | exact Quiet.raise s _ _ _ | exact Quiet.modVend s _ _

theorem execDropEvent_goes : Goes s (execDropEvent s) := by
  unfold execDropEvent
  split
  · exact .runDoing ((Quiet.reach s _).trans ((Quiet.setBeam _ _).trans (Quiet.attributeDrop _)))
  all_goals exact .refl s

theorem execDropBeamBreak_goes : Goes s (execDropBeamBreak s) := by
  unfold execDropBeamBreak
  split
  · exact .next (Quiet.setBeam s _) rfl
  all_goals exact .refl s

theorem Quiet.setAway (n : Nat) (away : Bool) : Quiet s (s.setAway n away) := { Quiet.refl s with }

theorem State.leaveHome_credit (n : Nat) : (s.leaveHome n).credit = s.credit := by rw [s.leaveHome_touches]

theorem Quiet.leaveHome (n : Nat) : Quiet s (s.leaveHome n) := by
  unfold State.leaveHome
  split
  · exact Quiet.modGroup s _ _
  · exact .refl s

theorem execHomeLeave_goes (n : Nat) : Goes s (execHomeLeave n s) :=
  .next ((Quiet.setAway s n true).trans (Quiet.leaveHome _ n)) (State.leaveHome_credit _ n)

theorem Quiet.endTurn (g : Group) (t : Turn) : Quiet s (s.endTurn g t).1 := by
  unfold State.endTurn
  dsimp only
  exact Quiet.modGroup s g _

theorem execHomeReturn_goes (n : Nat) : Goes s (execHomeReturn n s) := by
  unfold execHomeReturn
  dsimp only
  split
  · exact .runDoing ((Quiet.setAway s n false).trans (Quiet.endTurn _ _ _))
  · exact .next (Quiet.setAway s n false) rfl

theorem Quiet.faultTurn (g : Group) (t : Turn) (w : MotorFault) : Quiet s (s.faultTurn g t w).1 := by
  unfold State.faultTurn
  dsimp only
  exact Quiet.modGroup s g _

theorem execHomeLeaveTime_goes (g : Group) : Goes s (execHomeLeaveTime g s) := by
  unfold execHomeLeaveTime
  split
  · exact .runDoing ((Quiet.reach s _).trans (Quiet.faultTurn _ _ _ _))
  all_goals exact .refl s

theorem execTurnTimeout_goes (g : Group) : Goes s (execTurnTimeout g s) := by
  unfold execTurnTimeout
  split
  · exact .runDoing ((Quiet.reach s _).trans (Quiet.faultTurn _ _ _ _))
  · exact .refl s

theorem Quiet.takeCurrent (g : Group) (t : Turn) (n : Nat) : Quiet s (s.takeCurrent g t n).1 := by
  unfold State.takeCurrent
  dsimp only
  repeat' split
  · exact (Quiet.modGroup s g _).trans (Quiet.faultTurn _ _ _ _)
  · exact (Quiet.modGroup s g _).trans (Quiet.faultTurn _ _ _ _)
  · dsimp only
    exact Quiet.modGroup s g _

theorem execCurrentSample_goes (g : Group) (n : Nat) : Goes s (execCurrentSample g n s) := by
  unfold execCurrentSample
  split
  · exact .runDoing ((Quiet.reach s _).trans (Quiet.takeCurrent _ _ _ _))
  · exact .refl s

theorem execFaultRestEnd_goes (g : Group) : Goes s (execFaultRestEnd g s) := by
  unfold execFaultRestEnd
  split
  · exact .run ((Quiet.reach s _).trans (Quiet.modGroup _ _ _)) _
  all_goals exact .refl s

theorem execMotorTest_goes (q : Byte) (p : List Byte) : Goes s (execMotorTest q p s) := by
  have hrefuse : ∀ r, Goes s (.next (s.frameTaken.refuse q r)) := fun r =>
    .next ((Quiet.frameTaken s).trans (Quiet.refuse _ _ _ _)) rfl
  unfold execMotorTest
  dsimp only
  split
  · exact hrefuse _
  · split
    · exact hrefuse _
    · exact .run ((Quiet.frameTaken s).trans ((Quiet.modGroup _ _ _).trans (Quiet.accept _ _ _))) _

/-! #### The refrigeration plant and the load budget -/

theorem execSensorSample_goes (a b c : Nat) : Goes s (execSensorSample a b c s) :=
  .runDoing ((Quiet.reach s _).trans (Quiet.takeSamples _ a b c))

theorem execMinOffEnd_goes : Goes s (execMinOffEnd s) := by
  unfold execMinOffEnd
  split
  · exact .run ((Quiet.reach s _).trans (Quiet.setOff _ (by simp))) _
  all_goals exact .refl s

theorem execStartWindowEnd_goes : Goes s (execStartWindowEnd s) := by
  unfold execStartWindowEnd
  split
  case h_1 since hstarting =>
    exact .runDoing ((Quiet.reach s _).trans ((Quiet.toRunning (s.reach _) hstarting).trans (Quiet.shrinkStart _)))
  all_goals exact .refl s

theorem execMinRunReached_goes : Goes s (execMinRunReached s) := by
  unfold execMinRunReached
  split
  · exact .run (Quiet.reach s _) _
  all_goals exact .refl s

theorem execFallbackOffElapsed_goes : Goes s (execFallbackOffElapsed s) := by
  unfold execFallbackOffElapsed
  split
  · exact .run (Quiet.reach s _) _
  · exact .refl s

theorem execFallbackOnElapsed_goes : Goes s (execFallbackOnElapsed s) := by
  unfold execFallbackOnElapsed
  repeat' split
  all_goals first | exact .refl s | exact .run (Quiet.reach s _) _

theorem execDefrostIntervalReached_goes : Goes s (execDefrostIntervalReached s) := by
  unfold execDefrostIntervalReached
  split
  · exact .run (Quiet.reach s _) _
  · exact .run (Quiet.reach s _) _
  · exact .refl s

theorem execDefrostNow_goes (q : Byte) (p : List Byte) : Goes s (execDefrostNow q p s) := by
  unfold execDefrostNow
  dsimp only
  split
  · exact .run (Quiet.frameTaken s) _
  · exact .next ((Quiet.frameTaken s).trans (Quiet.refuse _ _ _ _)) rfl

theorem execDefrostMaxReached_goes : Goes s (execDefrostMaxReached s) := by
  unfold execDefrostMaxReached
  split
  · exact .runDoing ((Quiet.reach s _).trans (Quiet.endHeating _ _))
  all_goals exact .refl s

theorem execDripEnd_goes : Goes s (execDripEnd s) := by
  unfold execDripEnd
  split
  · exact .runDoing ((Quiet.reach s _).trans (Quiet.endDrip _))
  all_goals exact .refl s

theorem execExposureStep_goes : Goes s (execExposureStep s) := .runDoing ((Quiet.reach s _).trans (Quiet.takeStep _))

theorem execMinResumeReached_goes : Goes s (execMinResumeReached s) := by
  unfold execMinResumeReached
  split
  · exact .run (Quiet.reach s _) _
  · exact .refl s

theorem execStartDeferLimit_goes : Goes s (execStartDeferLimit s) := by
  unfold execStartDeferLimit
  split
  case h_1 c hc => exact .run ((Quiet.reach s _).trans (Quiet.promote _ hc)) _
  case h_2 => exact .refl s

end Commands
end Sys2Proof.Machine

namespace Sys2Proof.Machine

section Commands

variable (s : State)

/-! #### The Peripheral Bus -/

theorem Quiet.failHost (n : Nat) (f : HostFrame) (w : Reason) : Quiet s (s.failHost n f w) := by
  unfold State.failHost
  split
  · exact Quiet.raise s _ _ _
  · exact Quiet.transmit s _

theorem Quiet.answerHost (n : Nat) (f : HostFrame) (r : Frame) : Quiet s (s.answerHost n f r) := by
  unfold State.answerHost
  split
  · exact Quiet.raise s _ _ _
  · exact Quiet.transmit s _

theorem Quiet.failAll (n : Nat) (w : Reason) (fs : List HostFrame) : Quiet s (s.failAll n w fs) := by
  induction fs generalizing s with
  | nil => exact .refl s
  | cons f fs ih => exact (Quiet.failHost s n f w).trans (ih _)

theorem Quiet.dequeue (n : Nat) : Quiet s (s.dequeue n) :=
  Quiet.modChannel s n fun _ h => (List.length_tail.trans_le (Nat.sub_le _ _)).trans h

theorem Quiet.failHead (n : Nat) : Quiet s (s.failHead n) := by
  unfold State.failHead
  split
  · exact (Quiet.dequeue s n).trans (Quiet.failHost _ _ _ _)
  · exact .refl s

/-- A channel whose queue is empty is within its blocks. -/
theorem Channel.bounded_of_queue_nil {c : Channel} (h : c.queue = []) : c.Bounded := by simp [Channel.Bounded, h]

theorem Quiet.loseChannel (n : Nat) : Quiet s (s.loseChannel n) := by
  unfold State.loseChannel
  dsimp only
  refine (Quiet.modChannel s n fun _ _ => Channel.bounded_of_queue_nil ?_).trans ((Quiet.failAll _ _ _ _).trans
    ((Quiet.modCredit _ ?_ ?_ ?_).trans ((Quiet.modCredit _ ?_ ?_ ?_).trans (Quiet.raise _ _ _ _))))
  all_goals first | rfl | (cases (s.channel n).cfg.role <;> rfl)

theorem Channel.missed_queue (c : Channel) (now : Nat) :
    (c.missed now).1.queue = c.queue ∧ (c.missed now).1.cfg = c.cfg := by
  unfold Channel.missed
  dsimp only
  repeat' split
  all_goals exact ⟨rfl, rfl⟩

/-- The channel of a number is within its blocks where every channel is: a number without a channel gives an empty queue. -/
theorem State.channel_bounded {s : State} (h : ∀ c ∈ s.bridge.channels, c.Bounded) (n : Nat) : (s.channel n).Bounded := by
  rw [State.channel, List.getD_eq_getElem?_getD]
  cases hc : s.bridge.channels[n]? with
  | some c => exact h c (List.mem_of_getElem? hc)
  | none => exact Nat.zero_le _

/-- A channel replaced by a record within its blocks, where every channel is within its own. -/
theorem Quiet.setChannel (n : Nat) {c : Channel} (h : (s.channel n).Bounded → c.Bounded) :
    Quiet s (s.modChannel n fun _ => c) :=
  Quiet.of_bridge s fun hs x hx => by
    obtain hx | ⟨-, -, rfl⟩ := mem_editAt _ hx
    · exact hs x hx
    · exact h (State.channel_bounded hs n)

theorem Quiet.missWork (t : Txn) : Quiet s (s.missWork t) := by
  have hdequeued : Quiet s (if t.work = .host then s.dequeue t.channel else s) := by
    split
    · exact Quiet.dequeue s _
    · exact .refl s
  unfold State.missWork
  generalize (if t.work = .host then s.dequeue t.channel else s) = u at hdequeued ⊢
  generalize (if t.work = .host then (s.channel t.channel).queue.head? else none) = failing
  refine hdequeued.trans ?_
  obtain ⟨hqueue, hcfg⟩ := (u.channel t.channel).missed_queue u.now
  have hset : Quiet u (u.modChannel t.channel fun _ => ((u.channel t.channel).missed u.now).1) :=
    Quiet.setChannel u _ fun h => by rwa [Channel.Bounded, hqueue, hcfg]
  have hlost : Quiet u
      (if ((u.channel t.channel).missed u.now).2 then
        (u.modChannel t.channel fun _ => ((u.channel t.channel).missed u.now).1).loseChannel t.channel
      else u.modChannel t.channel fun _ => ((u.channel t.channel).missed u.now).1) := by
    split
    · exact hset.trans (Quiet.loseChannel _ _)
    · exact hset
  dsimp only
  generalize (if ((u.channel t.channel).missed u.now).2 then
      (u.modChannel t.channel fun _ => ((u.channel t.channel).missed u.now).1).loseChannel t.channel
    else u.modChannel t.channel fun _ => ((u.channel t.channel).missed u.now).1) = v at hlost ⊢
  refine hlost.trans (.trans ?_ (Quiet.enterGuard _))
  cases failing with
  | some f => exact Quiet.failHost v _ _ _
  | none => exact .refl v

theorem Channel.answered_queue (c : Channel) (now : Nat) :
    (c.answered now).queue = c.queue ∧ (c.answered now).cfg = c.cfg := by
  unfold Channel.answered
  split <;> exact ⟨rfl, rfl⟩

theorem Quiet.raiseUp (n : Nat) (r : Frame) : Quiet s (s.raiseUp n r) := by
  unfold State.raiseUp
  dsimp only
  refine .trans ?_ (Quiet.raise _ _ _ _)
  split
  · exact Quiet.draw s
  · exact .refl s

theorem Quiet.finishWork (t : Txn) (r : Frame) : Quiet s (s.finishWork t r) := by
  unfold State.finishWork
  split
  · exact Quiet.modChannel s _ fun _ h => h
  · split
    · exact (Quiet.dequeue s _).trans (Quiet.answerHost _ _ _ _)
    · exact .refl s
  all_goals exact .refl s

theorem Quiet.readEvent (n : Nat) (r : Frame) : Quiet s (s.readEvent n r).1 := by
  have hdraw : Quiet s (if r.payload.isEmpty then s.draw else s) := by
    split
    · exact Quiet.draw s
    · exact .refl s
  unfold State.readEvent
  dsimp only
  split
  · generalize (if r.payload.isEmpty then s.draw else s) = u at hdraw ⊢
    split
    · exact hdraw
    · exact hdraw.trans (Quiet.modChannel u n fun _ h => h)
  · exact .refl s

theorem Quiet.goodReply (t : Txn) (r : Frame) : Quiet s (s.goodReply t r).1 := by
  have hanswered : Quiet s (s.modChannel t.channel fun c => c.answered s.now) :=
    Quiet.modChannel s _ fun c h => by
      obtain ⟨hqueue, hcfg⟩ := c.answered_queue s.now
      rwa [Channel.Bounded, hqueue, hcfg]
  unfold State.goodReply
  generalize (s.modChannel t.channel fun c => c.answered s.now) = u at hanswered ⊢
  dsimp only
  refine hanswered.trans (.trans ?_ ((Quiet.finishWork _ t r).trans (Quiet.readEvent _ _ _)))
  split
  · exact Quiet.raiseUp u _ _
  · exact .refl u

theorem Quiet.busHunting : Quiet s s.busHunting := Quiet.modBridge s fun _ hc => .inl hc

theorem execBusFrameReceived_goes (f : Frame) (check : Word) : Goes s (execBusFrameReceived f check s) := by
  unfold execBusFrameReceived
  split
  case h_1 d hd =>
    refine .runDoing ((Quiet.busHunting s).trans ?_)
    unfold State.judgeBusFrame at hd
    split at hd
    · split_ifs at hd
      · cases hd
        exact Quiet.goodReply _ _ _
      · cases hd
        exact Quiet.missWork _ _
    all_goals cases hd
  case h_2 => exact .next (Quiet.busHunting s) rfl

theorem execResponseTimeout_goes : Goes s (execResponseTimeout s) := by
  unfold execResponseTimeout
  split
  case h_1 => exact .run ((Quiet.reach s _).trans (Quiet.missWork _ _)) _
  all_goals exact .refl s

/-- A host frame joins a queue only where its channel has a free block (R132). -/
theorem Quiet.queueFrame (n : Nat) (node kind q : Byte) (p : List Byte) (h : (s.channel n).refuses kind = none) :
    Quiet s (s.queueFrame n node kind q p) := by
  have hroom : (s.channel n).queue.length < (s.channel n).cfg.allocation := by
    unfold Channel.refuses at h
    split_ifs at h
    omega
  have hqueued : Quiet s (s.modChannel n fun c =>
      { c with queue := c.queue ++ [{ hostNode := node, kind := kind, seq := q, payload := p, queuedAt := s.now }] }) := by
    refine Quiet.of_bridge s fun hs x hx => ?_
    dsimp only at hx
    rw [editAt_eq_set_getD _ Channel.reset] at hx
    obtain hx | rfl := List.mem_or_eq_of_mem_set hx
    · exact hs x hx
    · change ((s.channel n).queue ++ [_]).length ≤ (s.channel n).cfg.allocation
      rw [List.length_append, List.length_singleton]
      exact hroom
  unfold State.queueFrame
  dsimp only
  split
  · exact hqueued.trans (Quiet.transmit _ _)
  · exact hqueued

theorem execPeripheralFrame_goes (node kind q : Byte) (p : List Byte) : Goes s (execPeripheralFrame node kind q p s) := by
  unfold execPeripheralFrame
  dsimp only
  split
  · exact .refl s
  · split
    · exact .next ((Quiet.frameTaken s).trans (Quiet.transmit _ _)) rfl
    · split
      case h_1 => exact .next ((Quiet.frameTaken s).trans (Quiet.transmit _ _)) rfl
      case h_2 hnone => exact .run ((Quiet.frameTaken s).trans (Quiet.queueFrame _ _ _ _ _ _ hnone)) _

theorem execGuardEnd_goes : Goes s (execGuardEnd s) := by
  unfold execGuardEnd
  split
  · exact .run ((Quiet.reach s _).trans (Quiet.modBridge _ fun _ hc => .inl hc)) _
  all_goals exact .refl s

theorem execPollDue_goes (n : Nat) : Goes s (execPollDue n s) := by
  unfold execPollDue
  split
  · exact .run (Quiet.reach s _) _
  · exact .refl s

theorem execProbeDue_goes (n : Nat) : Goes s (execProbeDue n s) := by
  unfold execProbeDue
  split
  · exact .run (Quiet.reach s _) _
  · exact .refl s

theorem Channel.bounded_recovered {c : Channel} (h : c.Bounded) (now : Nat) : (c.recovered now).Bounded := by
  unfold Channel.recovered Channel.reprobe
  split <;> exact h

theorem Quiet.declareStuck : Quiet s s.declareStuck := by
  have hcut : Quiet s s.cutTransaction.1 := by
    unfold State.cutTransaction
    split
    · dsimp only
      split
      · exact Quiet.failHead s _
      · exact .refl s
    all_goals exact .refl s
  unfold State.declareStuck
  dsimp only
  refine hcut.trans (.trans (Quiet.of_bridge _ fun hs c hc => ?_) (.trans (Quiet.modCredit _ ?_ ?_ ?_)
    (Quiet.raise _ _ _ _)))
  · obtain ⟨d, hd, rfl⟩ := List.mem_map.1 hc
    exact Channel.bounded_recovered (hs d hd) _
  all_goals rfl

theorem execBusStuck_goes : Goes s (execBusStuck s) := by
  unfold execBusStuck
  split
  · exact .refl s
  all_goals exact .run ((Quiet.reach s _).trans (Quiet.declareStuck _)) _

theorem Quiet.recover (r : Recovery) : Quiet s (s.recover r) := by
  unfold State.recover
  split
  · exact (Quiet.raise s _ _ _).trans (Quiet.enterGuard _)
  · exact Quiet.modBridge s fun _ hc => .inl hc

theorem State.recover_credit (r : Recovery) : (s.recover r).credit = s.credit := by
  unfold State.recover
  split <;> rfl

theorem execPrstPulseEnd_goes : Goes s (execPrstPulseEnd s) := by
  unfold execPrstPulseEnd
  split
  · split
    · exact .next ((Quiet.reach s _).trans (Quiet.recover _ _)) (State.recover_credit _ _)
    · exact .refl s
  all_goals exact .refl s

theorem execReceiveLineReleased_goes : Goes s (execReceiveLineReleased s) := by
  unfold execReceiveLineReleased
  split
  · split
    · exact .next (Quiet.recover s _) (State.recover_credit s _)
    · exact .refl s
  all_goals exact .refl s

/-! #### The Machine Link -/

theorem Quiet.linkError : Quiet s s.linkError := by
  have hcounted : Quiet s (s.modLink fun l => { l with errors := stopAt 255 l.errors 1 }) :=
    Quiet.of_link s fun ⟨hnotices, _, hrest⟩ => ⟨hnotices, min_le_left _ _, hrest⟩
  unfold State.linkError
  generalize (s.modLink fun l => { l with errors := stopAt 255 l.errors 1 }) = u at hcounted ⊢
  refine hcounted.trans ?_
  dsimp only
  split
  · exact (Quiet.raise u _ _ _).trans (Quiet.of_link _ fun h => h)
  · exact .refl u

theorem State.linkError_credit : s.linkError.credit = s.credit := by rw [s.linkError_touches]

theorem execLinkByteGap_goes (heard : List Byte) : Goes s (execLinkByteGap heard s) := by
  unfold execLinkByteGap
  split
  · exact .next ((Quiet.frameTaken s).trans (Quiet.linkError _)) (State.linkError_credit _)
  · exact .refl s

theorem execOverLengthFrame_goes (a b c d : Byte) : Goes s (execOverLengthFrame a b c d s) := by
  unfold execOverLengthFrame
  split
  · exact .next ((Quiet.frameTaken s).trans (Quiet.linkError _)) (State.linkError_credit _)
  · exact .refl s

theorem execCheckValueError_goes (f : Frame) (check : Word) : Goes s (execCheckValueError f check s) := by
  unfold execCheckValueError
  split
  · exact .refl s
  · exact .next ((Quiet.frameTaken s).trans (Quiet.linkError _)) (State.linkError_credit _)

theorem execUnknownNode_goes (node kind q : Byte) (p : List Byte) : Goes s (execUnknownNode node kind q p s) := by
  unfold execUnknownNode
  split
  · exact .refl s
  · exact .next ((Quiet.frameTaken s).trans (Quiet.transmit _ _)) rfl

theorem execBadKind_goes (kind q : Byte) (p : List Byte) : Goes s (execBadKind kind q p s) := by
  unfold execBadKind
  split
  · exact .refl s
  · exact .next ((Quiet.frameTaken s).trans (Quiet.refuse _ _ _ _)) rfl

theorem execIdentify_goes (q : Byte) (p : List Byte) : Goes s (execIdentify q p s) :=
  .next ((Quiet.frameTaken s).trans (Quiet.accept _ _ _)) rfl

theorem execStatus_goes (q : Byte) (p : List Byte) : Goes s (execStatus q p s) := by
  unfold execStatus
  dsimp only
  split
  · exact .next ((Quiet.frameTaken s).trans (Quiet.accept _ _ _)) rfl
  · refine .next ((Quiet.frameTaken s).trans ((Quiet.accept _ _ _).trans (Quiet.of_link _ ?_))) rfl
    exact fun ⟨hnotices, _, _, hfloor⟩ => ⟨hnotices, Nat.zero_le _, Nat.zero_le _, hfloor⟩
  · exact .next ((Quiet.frameTaken s).trans (Quiet.refuse _ _ _ _)) rfl

theorem execFetchNotices_goes (q : Byte) (p : List Byte) : Goes s (execFetchNotices q p s) := by
  unfold execFetchNotices
  dsimp only
  split
  · exact .next ((Quiet.frameTaken s).trans (Quiet.refuse _ _ _ _)) rfl
  · refine .next ((Quiet.frameTaken s).trans ((Quiet.accept _ _ _).trans (Quiet.of_link _ ?_))) rfl
    exact fun ⟨hnotices, hrest⟩ => ⟨(List.length_drop.trans_le (Nat.sub_le _ _)).trans hnotices, hrest⟩

theorem execSetFloor_goes (q : Byte) (p : List Byte) : Goes s (execSetFloor q p s) := by
  unfold execSetFloor
  dsimp only
  split
  · exact .next ((Quiet.frameTaken s).trans (Quiet.refuse _ _ _ _)) rfl
  · refine .next ((Quiet.frameTaken s).trans ((Quiet.of_link _ ?_).trans (Quiet.accept _ _ _))) rfl
    intro ⟨hnotices, herrors, hdropped, _⟩
    refine ⟨hnotices, herrors, hdropped, le_max_left _ _, ?_⟩
    exact max_le (by decide) (min_le_left _ _)

/-! #### The tables, the modes and the door -/

theorem execStageOpen_goes (q : Byte) (p : List Byte) : Goes s (execStageOpen q p s) := by
  unfold execStageOpen
  dsimp only
  split
  · exact .next ((Quiet.frameTaken s).trans (Quiet.refuse _ _ _ _)) rfl
  · split
    · exact .next ((Quiet.frameTaken s).trans (Quiet.refuse _ _ _ _)) rfl
    · exact .next ((Quiet.frameTaken s).trans ((Quiet.setStaging _ (by simp)).trans (Quiet.accept _ _ _))) rfl

theorem execStageWrite_goes (q : Byte) (p : List Byte) : Goes s (execStageWrite q p s) := by
  have hrefuse : ∀ r, Goes s (.next (s.frameTaken.refuse q r)) := fun r =>
    .next ((Quiet.frameTaken s).trans (Quiet.refuse _ _ _ _)) rfl
  unfold execStageWrite
  dsimp only
  repeat' split
  all_goals first | exact hrefuse _ | skip
  exact .next ((Quiet.frameTaken s).trans ((Quiet.setStaging _ (by simp)).trans (Quiet.accept _ _ _))) rfl

theorem execStageDiscard_goes (q : Byte) (p : List Byte) : Goes s (execStageDiscard q p s) :=
  .next ((Quiet.frameTaken s).trans ((Quiet.setStaging _ (by simp)).trans (Quiet.accept _ _ _))) rfl

theorem Verdict.ofBad_eq_passes {o : Option Nat} (h : Verdict.ofBad o = .passes) : o = none := by
  cases o with
  | none => rfl
  | some i => cases h

theorem forall_of_firstBad_eq_none {es : List (Nat × List Byte)} {ok : List Byte → Bool} (h : firstBad es ok = none) :
    ∀ e ∈ es, ok e.2 = true := by
  simpa [firstBad] using h

/-- The owner's validation of a Cooling Table (R100). -/
theorem State.validate_cooling {es : List (Nat × List Byte)} (h : s.validate .cooling es = .passes) :
    ∀ e ∈ es, (coolingBytes e.2).inRange = true :=
  forall_of_firstBad_eq_none (Verdict.ofBad_eq_passes h)

/-- The owner's validation of a Load Table (R119). -/
theorem State.validate_load {es : List (Nat × List Byte)} (h : s.validate .load es = .passes) :
    ∀ e ∈ es, s.load.drawn ≤ (loadBytes e.2).budget := by
  unfold State.validate at h
  dsimp only at h
  split at h
  · cases h
  · split at h
    case isTrue => cases h
    case isFalse hfits =>
      intro e he
      simp only [List.any_eq_true, decide_eq_true_eq, not_exists, not_and, not_lt] at hfits
      exact hfits e he

theorem Quiet.applyBuffer (b : Buffer) (d : Nat) (h : s.validate b.kind b.committed = .passes) :
    Quiet s (s.applyBuffer b d).1 := by
  refine Quiet.applyLoad s b.kind _ (fun _ hk => ?_) fun _ hk => ?_
  · exact State.validate_cooling s (hk ▸ h)
  · exact State.validate_load s (hk ▸ h)

/-- Outside CONFIG a load of a kind for CONFIG alone is refused before it could wait (R163). -/
theorem State.commitBuffer_goes (q : Byte) (b : Buffer) (h : ¬ (b.kind.timing = .configOnly ∧ s.tables.mode ≠ .config)) :
    Goes s (.next (s.commitBuffer q b)) := by
  unfold State.commitBuffer
  split
  case h_1 => exact .next (Quiet.refuse s _ _ _) rfl
  case h_2 => exact .next (Quiet.refuse s _ _ _) rfl
  case h_3 hpasses =>
    split
    case isTrue => exact .runDoing ((Quiet.accept s _ _).trans (Quiet.applyBuffer _ b 0 hpasses))
    case isFalse hwaits =>
      refine .next ((Quiet.setStaging s ?_).trans (Quiet.accept _ _ _)) rfl
      intro c hc
      cases hc
      simp only [State.takesEffect, Bool.or_eq_true, decide_eq_true_eq, not_or] at hwaits
      cases ht : b.kind.timing with
      | deferred => rfl
      | configOnly => exact absurd ⟨ht, hwaits.1.2⟩ h
      | atOnce => exact absurd ht hwaits.1.1

theorem Goes.trans {s t : State} {out : Host.Outcome State Fault Refusal} (h : Quiet s t) (hcredit : t.credit = s.credit)
    (hgoes : Goes t out) : Goes s out := by
  obtain ⟨u, hu, hout⟩ := hgoes
  exact ⟨u, h.trans hu, hout.imp_right fun ⟨hnext, hc⟩ => ⟨hnext, hc.trans hcredit⟩⟩

theorem execStageCommit_goes (q : Byte) (p : List Byte) : Goes s (execStageCommit q p s) := by
  unfold execStageCommit
  dsimp only
  split
  · exact .next ((Quiet.frameTaken s).trans (Quiet.refuse _ _ _ _)) rfl
  · exact .next ((Quiet.frameTaken s).trans (Quiet.refuse _ _ _ _)) rfl
  · split
    case isTrue => exact .next ((Quiet.frameTaken s).trans (Quiet.refuse _ _ _ _)) rfl
    case isFalse hkind => exact .trans (Quiet.frameTaken s) rfl (State.commitBuffer_goes _ q _ hkind)

theorem execReadTable_goes (q : Byte) (p : List Byte) : Goes s (execReadTable q p s) := by
  have hrefuse : ∀ r, Goes s (.next (s.frameTaken.refuse q r)) := fun r =>
    .next ((Quiet.frameTaken s).trans (Quiet.refuse _ _ _ _)) rfl
  unfold execReadTable
  dsimp only
  repeat' split
  all_goals first | exact hrefuse _ | skip
  exact .next ((Quiet.frameTaken s).trans (Quiet.accept _ _ _)) rfl

/-- A change between CONFIG and SALES leaves the door's mode alone. -/
theorem Quiet.setMode {m : Mode} (hs : s.tables.mode ≠ .service) (hm : m ≠ .service) : Quiet s (s.setMode m) :=
  { Quiet.refl s with
    door := fun ⟨hservice, hnot⟩ =>
      ⟨⟨fun h => absurd h hm, fun h => absurd (hservice.2 h) hs⟩, hnot⟩ }

theorem execMode_goes (q : Byte) (p : List Byte) : Goes s (execMode q p s) := by
  have hrefuse : ∀ r, Goes s (.next (s.frameTaken.refuse q r)) := fun r =>
    .next ((Quiet.frameTaken s).trans (Quiet.refuse _ _ _ _)) rfl
  unfold execMode
  dsimp only
  split
  · exact hrefuse _
  · split
    case h_1 => exact hrefuse _
    case h_2 m hm =>
      split
      case h_1 => exact hrefuse _
      case h_2 hnone =>
        refine .run ((Quiet.frameTaken s).trans ((Quiet.setMode _ ?_ ?_).trans (Quiet.accept _ _ _))) _
        · intro hservice
          rw [State.modeRefusal, if_pos hservice] at hnone
          cases hnone
        · rintro rfl
          unfold askedMode at hm
          split at hm <;> cases hm

theorem Quiet.doorAtMotors : Quiet s s.doorAtMotors.1 := by
  unfold State.doorAtMotors
  dsimp only
  exact Quiet.modDrive s _

theorem execDoorOpen_goes : Goes s (execDoorOpen s) := by
  have henter : s.tables.mode ≠ .service → Quiet s (s.setDoor true).enterService := fun hmode =>
    { Quiet.refl s with door := fun _ => ⟨⟨fun _ => rfl, fun _ => rfl⟩, hmode⟩ }
  have hopen : s.tables.mode ≠ .service → Goes s (.next (Machine.runDoing (s.setDoor true).openDoor)) := fun hmode =>
    .runDoing ((henter hmode).trans (Quiet.doorAtMotors _))
  unfold execDoorOpen
  split
  case h_1 hmode => exact hopen (by simp [hmode])
  case h_2 hmode => exact hopen (by simp [hmode])
  case h_3 hmode =>
    exact .next { Quiet.refl s with door := fun ⟨_, hnot⟩ => ⟨⟨fun _ => rfl, fun _ => hmode⟩, hnot⟩ } rfl

theorem execDoorClose_goes : Goes s (execDoorClose s) := by
  have hclosed : s.tables.mode ≠ .service → Goes s (.next (s.setDoor false)) := fun hmode =>
    .next { Quiet.refl s with door := fun ⟨_, hnot⟩ => ⟨⟨fun h => absurd h hmode, fun h => by cases h⟩, hnot⟩ } rfl
  unfold execDoorClose
  split
  case h_1 =>
    refine .run (u := (s.setDoor false).setMode s.tables.remembered) ?_ []
    exact { Quiet.refl s with door := fun ⟨_, hnot⟩ => ⟨⟨fun h => absurd h hnot, fun h => by cases h⟩, hnot⟩ }
  case h_2 hmode => exact hclosed (by simp [hmode])
  case h_3 hmode => exact hclosed (by simp [hmode])

end Commands

/-! #### All of them -/

/-- The commands that begin anew: the two resets and the soft restart. -/
def beginsAnew : Instr → Bool
  | .powerOnReset | .resetPin | .restart _ _ => true
  | _ => false

/-- Every command but a reset and a soft restart goes by quiet work. -/
theorem exec_goes (c : Instr) (s : State) (h : beginsAnew c = false) : Goes s (exec c s) := by
  cases c with
  | powerOnReset => cases h
  | resetPin => cases h
  | restart => cases h
  | coinSignature a b c => exact execCoinSignature_goes s a b c
  | gateHoldEnd => exact execGateHoldEnd_goes s
  | pathPassage => exact execPathPassage_goes s
  | pathTimeout => exact execPathTimeout_goes s
  | lowSensorChange n covered => exact execLowSensorChange_goes s n covered
  | tubeSet q p => exact execTubeSet_goes s q p
  | endSession q p => exact execEndSession_goes s q p
  | coinReturn => exact execCoinReturn_goes s
  | assuranceEvaluationComplete => exact execAssuranceEvaluationComplete_goes s
  | payoutExitBreak => exact execPayoutExitBreak_goes s
  | exitWaitExpiry => exact execExitWaitExpiry_goes s
  | tubeDispense q p => exact execTubeDispense_goes s q p
  | selectionClear q p => exact execSelectionClear_goes s q p
  | vend q p => exact execVend_goes s q p
  | dropWindowExpiry n => exact execDropWindowExpiry_goes s n
  | dropEvent => exact execDropEvent_goes s
  | dropBeamBreak => exact execDropBeamBreak_goes s
  | dropBeamClear => exact .next (Quiet.setBeam s _) rfl
  | homeLeave n => exact execHomeLeave_goes s n
  | homeReturn n => exact execHomeReturn_goes s n
  | homeLeaveTime g => exact execHomeLeaveTime_goes s g
  | turnTimeout g => exact execTurnTimeout_goes s g
  | currentSample g n => exact execCurrentSample_goes s g n
  | faultRestEnd g => exact execFaultRestEnd_goes s g
  | motorTest q p => exact execMotorTest_goes s q p
  | sensorSample a b c => exact execSensorSample_goes s a b c
  | minOffEnd => exact execMinOffEnd_goes s
  | startWindowEnd => exact execStartWindowEnd_goes s
  | minRunReached => exact execMinRunReached_goes s
  | fallbackOffElapsed => exact execFallbackOffElapsed_goes s
  | fallbackOnElapsed => exact execFallbackOnElapsed_goes s
  | defrostIntervalReached => exact execDefrostIntervalReached_goes s
  | defrostNow q p => exact execDefrostNow_goes s q p
  | defrostMaxReached => exact execDefrostMaxReached_goes s
  | dripEnd => exact execDripEnd_goes s
  | exposureStep => exact execExposureStep_goes s
  | minResumeReached => exact execMinResumeReached_goes s
  | startDeferLimit => exact execStartDeferLimit_goes s
  | peripheralFrame n k q p => exact execPeripheralFrame_goes s n k q p
  | guardEnd => exact execGuardEnd_goes s
  | pollDue n => exact execPollDue_goes s n
  | probeDue n => exact execProbeDue_goes s n
  | busFrameReceived f check => exact execBusFrameReceived_goes s f check
  | responseTimeout => exact execResponseTimeout_goes s
  | busByteGap heard => exact .next (Quiet.busHunting s) rfl
  | busOverLengthFrame a b c d => exact .next (Quiet.busHunting s) rfl
  | busStuck => exact execBusStuck_goes s
  | prstPulseEnd => exact execPrstPulseEnd_goes s
  | receiveLineReleased => exact execReceiveLineReleased_goes s
  | linkByteGap heard => exact execLinkByteGap_goes s heard
  | overLengthFrame a b c d => exact execOverLengthFrame_goes s a b c d
  | checkValueError f check => exact execCheckValueError_goes s f check
  | unknownNode n k q p => exact execUnknownNode_goes s n k q p
  | badKind k q p => exact execBadKind_goes s k q p
  | identify q p => exact execIdentify_goes s q p
  | status q p => exact execStatus_goes s q p
  | fetchNotices q p => exact execFetchNotices_goes s q p
  | setFloor q p => exact execSetFloor_goes s q p
  | timeStampWrap => exact .next (Quiet.reach s _) rfl
  | stageOpen q p => exact execStageOpen_goes s q p
  | stageWrite q p => exact execStageWrite_goes s q p
  | stageCommit q p => exact execStageCommit_goes s q p
  | stageDiscard q p => exact execStageDiscard_goes s q p
  | readTable q p => exact execReadTable_goes s q p
  | doorOpen => exact execDoorOpen_goes s
  | doorClose => exact execDoorClose_goes s
  | mode q p => exact execMode_goes s q p

theorem modeFor_spec (isOpen : Bool) : modeFor isOpen = .service ↔ isOpen = true := by cases isOpen <;> decide

/-- A reset leaves every block within its bounds, whatever it finds. -/
theorem Kept.resetBy (s : State) (cause : Nat) : Kept s (s.resetBy cause) where
  coin _ := by
    intro e he
    have : e = CoinEntry.reset := List.eq_of_mem_replicate he
    simp [this, CoinEntry.reset]
  tubes _ := by
    intro x hx
    obtain ⟨y, -, rfl⟩ := List.mem_map.1 hx
    exact ⟨Nat.zero_le _, Nat.zero_le _⟩
  carried _ := Nat.zero_le _
  vends _ := Nat.zero_le _
  apart _ := PlantUnit.apart_of_off (.inl rfl)
  exposure _ := Nat.zero_le _
  cooling _ _ := by change Cooling.Bounded .reset; unfold Cooling.Bounded; decide
  budget _ _ := by change LoadUnit.Fits .reset; unfold LoadUnit.Fits; decide
  kinds _ := List.nodup_nil
  queues _ := by
    intro c hc
    have : c = Channel.reset := List.eq_of_mem_replicate hc
    exact this ▸ Channel.bounded_of_queue_nil rfl
  link _ := ⟨by change 1 ≤ 24; decide, Nat.zero_le _, Nat.zero_le _, le_rfl, by change 1 ≤ 7; decide⟩
  staging _ := fun b hb => by cases hb
  door _ := ⟨modeFor_spec _, by change Mode.config ≠ .service; decide⟩

theorem Quiet.restartVends (s : State) : Quiet s s.restartVends := by
  unfold State.restartVends
  generalize s.sales.vends.filter Vend.unfinished = vs
  induction vs generalizing s with
  | nil => exact .refl s
  | cons v vs ih => exact (Quiet.raise s _ _ _).trans (ih _)

theorem Quiet.failQueues (s : State) (ns : List Nat) : Quiet s (s.failQueues ns) := by
  induction ns generalizing s with
  | nil => exact .refl s
  | cons n ns ih => exact (Quiet.failAll s n _ _).trans (ih _)

theorem Channel.reprobe_queue (c : Channel) (now : Nat) :
    (c.reprobe now).queue = c.queue ∧ (c.reprobe now).cfg = c.cfg := by
  unfold Channel.reprobe
  split <;> exact ⟨rfl, rfl⟩

theorem Kept.restartBlocks (s : State) : Kept s s.restartBlocks where
  coin h := h
  tubes h := h
  carried h := by
    change (if s.credit.session.funding = .cash then _ else s.credit.carried) ≤ 20000
    split
    · exact min_le_left _ _
    · exact h
  vends _ := Nat.zero_le _
  apart _ := PlantUnit.apart_of_off (.inl rfl)
  exposure h := h
  cooling _ h := h
  budget _ h := by
    refine le_trans ?_ h
    exact Nat.add_le_add_left (Nat.zero_le _) _
  kinds _ := List.nodup_nil
  queues _ := by
    intro c hc
    obtain ⟨d, -, rfl⟩ := List.mem_map.1 hc
    exact Channel.bounded_of_queue_nil rfl
  link h := h
  staging _ := fun b hb => by cases hb
  door _ := ⟨modeFor_spec _, by change Mode.config ≠ .service; decide⟩

theorem Kept.announceRestart (s : State) : Kept s s.announceRestart := by
  unfold State.announceRestart
  refine .trans (Quiet.of_link s ?_).toKept (Quiet.raise _ _ _ _).toKept
  exact fun ⟨_, hrest⟩ => ⟨Nat.zero_le _, hrest⟩

theorem Kept.softRestart (s : State) : Kept s s.softRestart :=
  ((Quiet.restartVends s).trans (Quiet.failQueues _ _)).toKept.trans
    ((Kept.restartBlocks _).trans ((Kept.announceRestart _).trans (Quiet.startEvaluation _).toKept))

/-- Every command keeps what the invariants say. -/
theorem Kept.exec {c : Instr} {s t : State} (h : exec c s = .next t) : Kept s t := by
  by_cases hnew : beginsAnew c = false
  · obtain ⟨u, hu, hout⟩ := exec_goes c s hnew
    rw [h] at hout
    obtain hout | ⟨hout, -⟩ := hout
    · cases hout
      exact hu.toKept.trans (Kept.conclude u)
    · cases hout
      exact hu.toKept
  · cases c with
    | powerOnReset => exact Host.Outcome.next.inj h ▸ Kept.resetBy s 0
    | resetPin => exact Host.Outcome.next.inj h ▸ Kept.resetBy s 1
    | restart q p =>
      rw [← Host.Outcome.next.inj h]
      exact ((Quiet.frameTaken s).trans (Quiet.accept _ _ _)).toKept.trans (Kept.softRestart _)
    | _ => exact absurd rfl hnew

/-- Every step keeps what the invariants say. -/
theorem Kept.step {s t : State} (h : step s = .next t) : Kept s t := by
  unfold Machine.step at h
  split at h
  · cases h
    exact (Quiet.reach s _).toKept
  · exact .trans (Quiet.of_free s s.now s.draws _ s.change s.drive).toKept (Kept.exec h)

/-! ### The statements about every step -/

/-- Settles O1: a step is the front command with the queue's rest, and on an empty queue a millisecond. -/
theorem stepRunsFront : Obligations.StepRunsFront := by
  refine ⟨fun s c rest h => ?_, fun s h => ?_⟩
  · rw [step, h]
  · unfold step
    split
    · rw [State.reach, Nat.max_eq_right (Nat.le_succ _)]
    · simp_all

theorem heaterApart_iff (s : State) : HeaterApart s ↔ s.plant.Apart := Iff.rfl

/-- The invariant of `Bounded` as the blocks' bounds. -/
theorem bounded_iff (s : State) :
    Bounded s ↔ s.link.Bounded ∧ s.sales.vends.length ≤ 4 ∧ s.credit.carried ≤ 20000 ∧ s.plant.exposure ≤ 65535
      ∧ (∀ c ∈ s.bridge.channels, c.Bounded) ∧ (∀ x ∈ s.tubes, x.Bounded) ∧ s.coin.Bounded ∧ s.plant.cooling.Bounded
      ∧ s.tables.WaitsDeferred := by
  simp only [Machine.Bounded, LinkUnit.Bounded, Cooling.Bounded, Channel.Bounded, Tube.Bounded, CoinUnit.Bounded,
    TablesUnit.WaitsDeferred]
  tauto

/-- Settles O2: the reset state lies within the bounds that a reset leaves (`Kept.resetBy`), and no change of credit is open. -/
theorem resetMeetsInvariants : Obligations.ResetMeetsInvariants := by
  refine ⟨PlantUnit.apart_of_off (.inl rfl), ⟨by decide, fun b hb => by cases hb⟩, List.nodup_nil, ?_,
    by unfold ModeFollowsDoor; decide, rfl⟩
  rw [bounded_iff]
  refine ⟨?_, by decide, by decide, by decide, ?_, ?_, ?_, ?_, fun b hb => by cases hb⟩
  · unfold LinkUnit.Bounded; decide
  · unfold Channel.Bounded; decide
  · unfold Tube.Bounded; decide
  · unfold CoinUnit.Bounded; decide
  · unfold Cooling.Bounded; decide

/-- Settles O3: every step keeps compressor and defrost apart, and apart they bring no heat beside the relay. -/
theorem heaterApartKept : Obligations.HeaterApartKept := by
  intro s t hs hstep
  have ht := (Kept.step hstep).apart hs
  refine ⟨ht, fun ⟨hrelay, hheat⟩ => ?_⟩
  have hdefrost := ht.2 hrelay
  cases hd : t.plant.defrost <;> simp [hd, Defrost.isDue, PlantUnit.heater] at hdefrost hheat

/-- Settles O4: every step keeps the drawn units within the Budget while a load that waits is of a deferred kind. -/
theorem budgetKept : Obligations.BudgetKept := by
  intro s t ⟨hfits, hwaits⟩ hstep
  exact ⟨(Kept.step hstep).budget hwaits hfits, (Kept.step hstep).staging hwaits⟩

/-- Settles O5: every step keeps the kinds that wait or are granted apart. -/
theorem oneOfAKindKept : Obligations.OneOfAKindKept := fun _ _ hs hstep => (Kept.step hstep).kinds hs

/-- Settles O6: every step keeps each block within its bounds. -/
theorem boundsKept : Obligations.BoundsKept := by
  intro s t hs hstep
  have hkept := Kept.step hstep
  obtain ⟨hlink, hvends, hcarried, hexposure, hqueues, htubes, hcoin, hcooling, hwaits⟩ := (bounded_iff s).1 hs
  exact (bounded_iff t).2 ⟨hkept.link hlink, hkept.vends hvends, hkept.carried hcarried, hkept.exposure hexposure,
    hkept.queues hqueues, hkept.tubes htubes, hkept.coin hcoin, hkept.cooling hwaits hcooling, hkept.staging hwaits⟩

/-- Settles O7: every step keeps SERVICE exactly with the door open. -/
theorem modeFollowsDoorKept : Obligations.ModeFollowsDoorKept := fun _ _ hs hstep => (Kept.step hstep).door hs

/-! ### The report of a change of credit (R38) -/

/-- A notice meets the queue (R155): it stands last in it, lies below the floor, or finds a full queue without a lower level. -/
theorem LinkUnit.push_cases (l : LinkUnit) (n : Notice) :
    n.kind.level < l.floor ∨ (l.push n).notices.getLast? = some n
      ∨ 24 ≤ (l.push n).notices.length ∧ 1 ≤ (l.push n).dropped ∧ ∀ x ∈ (l.push n).notices, n.kind.level ≤ x.kind.level := by
  unfold LinkUnit.push
  split_ifs with hlow hroom hhigher
  · exact .inl hlow
  · exact .inr (.inl (by simp))
  · exact .inr (.inl (by simp))
  · refine .inr (.inr ⟨not_lt.1 hroom, ?_, fun x hx => (not_lt.1 hhigher).trans (lowestLevel_le hx)⟩)
    simp [stopAt]

/-- The end of a command with an open change of credit (R38): its CREDIT_CHANGED stands last, or the floor or a full queue keeps
it out. -/
theorem State.conclude_reports (u : State) (h : u.credit.changed = true) :
    4 < u.conclude.link.floor
      ∨ u.conclude.link.notices.getLast? = some (u.notice .creditChanged none u.creditValues)
      ∨ 24 ≤ u.conclude.link.notices.length ∧ 1 ≤ u.conclude.link.dropped
        ∧ ∀ x ∈ u.conclude.link.notices, 4 ≤ x.kind.level := by
  rw [u.conclude_link, u.reportCredit_link_of_changed h]
  change 4 < (u.link.push (u.notice .creditChanged none u.creditValues)).floor ∨ _
  rw [LinkUnit.push_floor]
  exact u.link.push_cases (u.notice .creditChanged none u.creditValues)

/-- The end of a command leaves the clock and the values of CREDIT_CHANGED as they were. -/
theorem State.conclude_notice (u : State) :
    u.conclude.notice .creditChanged none u.conclude.creditValues = u.notice .creditChanged none u.creditValues := by
  simp only [State.notice, State.stamp, State.conclude_now, State.conclude_session, State.conclude_carried,
    State.creditValues]

/-- Settles O8: quiet work leaves credit as it was while its mark is clear (`Silent`), and with the mark set the command's end
raises CREDIT_CHANGED last. -/
theorem reportedKept : Obligations.ReportedKept := by
  intro s t hs hstep
  unfold step at hstep
  split at hstep
  case h_1 =>
    cases hstep
    refine ⟨hs, fun _ hdiffers => ?_⟩
    simp at hdiffers
  case h_2 c rest hpending =>
    by_cases hnew : beginsAnew c = false
    · obtain ⟨u, hu, hout⟩ := exec_goes c { s with pending := rest } hnew
      rw [hstep] at hout
      obtain hout | ⟨hout, hcredit⟩ := hout
      · cases hout
        refine ⟨u.conclude_changed, fun _ hdiffers => ?_⟩
        have hmarked : u.credit.changed = true := by
          by_contra hquiet
          obtain ⟨-, hsession, hcarried⟩ := hu.silent (Bool.eq_false_of_not_eq_true hquiet)
          simp [hsession, hcarried] at hdiffers
        have hreports := u.conclude_reports hmarked
        rw [← u.conclude_notice] at hreports
        exact hreports
      · cases hout
        refine ⟨(congrArg CreditUnit.changed hcredit).trans hs, fun _ hdiffers => ?_⟩
        simp [hcredit] at hdiffers
    · refine ⟨?_, fun hnone => ?_⟩
      · cases c with
        | powerOnReset => rw [← Host.Outcome.next.inj hstep]; rfl
        | resetPin => rw [← Host.Outcome.next.inj hstep]; rfl
        | restart q p =>
          rw [← Host.Outcome.next.inj hstep]
          change (State.softRestart _).credit.changed = false
          unfold State.softRestart
          rw [State.startEvaluation_credit]
          rfl
        | _ => exact absurd rfl hnew
      · obtain ⟨hpower, hpin, hrestart⟩ := hnone c rest hpending
        cases c with
        | powerOnReset => exact absurd rfl hpower
        | resetPin => exact absurd rfl hpin
        | restart q p => exact absurd rfl (hrestart q p)
        | _ => exact absurd rfl hnew

end Sys2Proof.Machine

/-! ## How a command's acts are followed one by one -/

namespace Sys2Proof.Machine

/-! ### Acts carried out to the end -/

/-- The acts, carried out in `n` steps with all that follows from them, lead from `s` to `t`, whatever is still to come behind
them. -/
def Runs (n : Nat) (acts : List Act) (s t : State) : Prop :=
  ∀ k rest, settle (n + k) (acts ++ rest) s = settle k rest t

theorem Runs.nil (s : State) : Runs 0 [] s s := fun k rest => by simp

/-- The first act, then what follows from it and the others. -/
theorem Runs.cons {n : Nat} {a : Act} {new acts : List Act} {s u t : State} (h : perform a s = (u, new))
    (hrest : Runs n (new ++ acts) u t) : Runs (n + 1) (a :: acts) s t := by
  intro k rest
  rw [Nat.add_right_comm, List.cons_append, settle_succ_cons, h]
  simpa [List.append_assoc] using hrest k rest

/-- An act from which nothing follows. -/
theorem Runs.done {n : Nat} {a : Act} {acts : List Act} {s u t : State} (h : perform a s = (u, []))
    (hrest : Runs n acts u t) : Runs (n + 1) (a :: acts) s t :=
  Runs.cons h hrest

theorem Runs.append {m n : Nat} {as bs : List Act} {s u t : State} (ha : Runs m as s u) (hb : Runs n bs u t) :
    Runs (m + n) (as ++ bs) s t := by
  intro k rest
  rw [Nat.add_assoc, List.append_assoc, ha, hb]

/-- An act whose consequences are carried out before the rest. -/
theorem Runs.follow {m n : Nat} {a : Act} {new acts : List Act} {s u v t : State} (h : perform a s = (u, new))
    (hnew : Runs m new u v) (hrest : Runs n acts v t) : Runs (m + n + 1) (a :: acts) s t :=
  Runs.cons h (hnew.append hrest)

/-- A command whose acts end within the number of acts a command may take. -/
theorem Runs.run_eq {n : Nat} {acts : List Act} {s t : State} (h : Runs n acts s t) (hn : n ≤ Config.actsMax) :
    run s acts = t.conclude := by
  obtain ⟨k, hk⟩ := Nat.exists_eq_add_of_le hn
  have := h k []
  rw [List.append_nil, settle_nil] at this
  rw [run, hk, this]

theorem Runs.runDoing_eq {n : Nat} {d : Doing} {t : State} (h : Runs n d.2 d.1 t) (hn : n ≤ Config.actsMax) :
    runDoing d = t.conclude := h.run_eq hn

/-! ### The notices between two states -/

theorem State.notice_congr {s u : State} (h : u.now = s.now) (k : NoticeKind) (x : Option Nat) (vs : List Nat) :
    u.notice k x vs = s.notice k x vs := by
  simp only [State.notice, State.stamp, h]

/-- These notices have met the Notice Queue between `s` and `t` (`Raised`), and the floor stands where it stood. -/
def Heard (s t : State) (ns : List Notice) : Prop := Raised s t ns ∧ t.link.floor = s.link.floor

theorem Heard.refl (s : State) : Heard s s [] := ⟨⟨rfl, rfl⟩, rfl⟩

/-- The Notice Queue, the dropped count and the floor are those of another state. -/
theorem Heard.congr {s u t : State} {ns : List Notice} (h : Heard s u ns) (hnotices : t.link.notices = u.link.notices)
    (hdropped : t.link.dropped = u.link.dropped) (hfloor : t.link.floor = u.link.floor) : Heard s t ns :=
  ⟨⟨hnotices.trans h.1.1, hdropped.trans h.1.2⟩, hfloor.trans h.2⟩

theorem foldl_push_floor (l : LinkUnit) (ns : List Notice) : (ns.foldl LinkUnit.push l).floor = l.floor := by
  induction ns generalizing l with
  | nil => rfl
  | cons n ns ih => rw [List.foldl_cons, ih, LinkUnit.push_floor]

/-- One more notice. -/
theorem Heard.raise {s u : State} {ns : List Notice} (h : Heard s u ns) (k : NoticeKind) (x : Option Nat) (vs : List Nat) :
    Heard s (u.raise k x vs) (ns ++ [u.notice k x vs]) := by
  obtain ⟨⟨hnotices, hdropped⟩, hfloor⟩ := h
  have hagree : u.link.notices = (ns.foldl LinkUnit.push s.link).notices ∧ u.link.dropped = (ns.foldl LinkUnit.push s.link).dropped
      ∧ u.link.floor = (ns.foldl LinkUnit.push s.link).floor := ⟨hnotices, hdropped, by rw [hfloor, foldl_push_floor]⟩
  obtain ⟨hn, hd, hf⟩ := hagree
  refine ⟨⟨?_, ?_⟩, ?_⟩
  · rw [List.foldl_append, List.foldl_cons, List.foldl_nil, LinkUnit.push_notices, ← hn, ← hd, ← hf]
    exact LinkUnit.push_notices _ _
  · rw [List.foldl_append, List.foldl_cons, List.foldl_nil, LinkUnit.push_dropped, ← hn, ← hd, ← hf]
    exact LinkUnit.push_dropped _ _
  · exact (LinkUnit.push_floor _ _).trans hfloor

theorem Heard.raise_at {s u : State} {ns : List Notice} (h : Heard s u ns) (hnow : u.now = s.now) (k : NoticeKind)
    (x : Option Nat) (vs : List Nat) : Heard s (u.raise k x vs) (ns ++ [s.notice k x vs]) :=
  State.notice_congr hnow k x vs ▸ h.raise k x vs

/-- The end of a command without an open change of credit raises nothing. -/
theorem Heard.conclude {s u : State} {ns : List Notice} (h : Heard s u ns) (hreported : u.credit.changed = false) :
    Heard s u.conclude ns := by
  have hlink := u.conclude_link_of_reported hreported
  exact h.congr (by rw [hlink]) (by rw [hlink]) (by rw [hlink])

/-- The end of a command raises one CREDIT_CHANGED for its changes of credit (R38). -/
theorem Heard.conclude_changed {s u : State} {ns : List Notice} (h : Heard s u ns) (hchanged : u.credit.changed = true) :
    Heard s u.conclude (ns ++ [u.notice .creditChanged none u.creditValues]) := by
  have hlink : u.conclude.link = (u.raise .creditChanged none u.creditValues).link := by
    rw [u.conclude_link, u.reportCredit_link_of_changed hchanged]
  exact (h.raise .creditChanged none u.creditValues).congr (by rw [hlink]) (by rw [hlink]) (by rw [hlink])

/-! ### The parts that stay -/

theorem SameExcept.trans {ps qs : List Part} {s t u : State} (h : SameExcept ps s t) (h' : SameExcept qs t u) :
    SameExcept (ps ++ qs) s u := by
  intro p hp
  rw [List.mem_append, not_or] at hp
  have ha := h p hp.1
  have hb := h' p hp.2
  cases p <;> simp_all only [Part.same, and_self]

theorem sameExcept_conclude (s : State) : SameExcept closing s s.conclude := by
  intro p hp
  cases p <;> simp [Part.same, closing] at hp ⊢

/-- The end of a command leaves what its holds, the report of credit and the bus do not touch. -/
theorem SameExcept.conclude {ps : List Part} {s u : State} (h : SameExcept ps s u) :
    SameExcept (ps ++ closing) s u.conclude :=
  h.trans (sameExcept_conclude u)

end Sys2Proof.Machine

/-! ## Coins: classification, acceptance, passage and tubes (01) -/

namespace Sys2Proof.Machine

/-! ### Classification and decision (R3 to R6) -/

theorem exec_coinSignature :
    ∀ a b c (s : State), exec (.coinSignature a b c) s = execCoinSignature a b c s := by
  intros; rfl

theorem CoinEntry.takes_iff (e : CoinEntry) (a b c : Nat) : e.takes a b c = true ↔ EntryTakes e a b c := by
  simp [CoinEntry.takes, EntryTakes, Window.holds, and_assoc]

/-- The classification finds the entry a coin belongs to (R3). -/
theorem State.classify_eq_some {s : State} {a b c i : Nat} (h : BelongsTo s a b c i) : s.classify a b c = some i := by
  obtain ⟨⟨e, hi, htakes⟩, hfirst⟩ := h
  obtain ⟨hlt, rfl⟩ := List.getElem?_eq_some_iff.1 hi
  rw [State.classify, List.findIdx?_eq_some_iff_getElem]
  refine ⟨hlt, (CoinEntry.takes_iff _ _ _ _).2 htakes, fun j hj => ?_⟩
  rw [CoinEntry.takes_iff]
  exact hfirst j hj _ (List.getElem?_eq_getElem _)

theorem State.belongsTo_of_classify {s : State} {a b c i : Nat} (h : s.classify a b c = some i) : BelongsTo s a b c i := by
  rw [State.classify, List.findIdx?_eq_some_iff_getElem] at h
  obtain ⟨hlt, htakes, hfirst⟩ := h
  refine ⟨⟨_, List.getElem?_eq_getElem hlt, (CoinEntry.takes_iff _ _ _ _).1 htakes⟩, fun j hj e he hcontains => ?_⟩
  obtain ⟨hj', rfl⟩ := List.getElem?_eq_some_iff.1 he
  exact hfirst j hj ((CoinEntry.takes_iff _ _ _ _).2 hcontains)

theorem State.classify_eq_none {s : State} {a b c : Nat} (h : ∀ i, ¬ BelongsTo s a b c i) : s.classify a b c = none := by
  cases hc : s.classify a b c with
  | none => rfl
  | some i => exact absurd (State.belongsTo_of_classify hc) (h i)

theorem State.prospective_eq (s : State) : s.prospective = creditBefore s := rfl

/-- With the path EMPTY, outside CONFIG and with a matching entry, the money checks decide (R5). -/
theorem State.judgeCoin_of_belongsTo {s : State} {a b c i : Nat} (hpath : s.coin.path = .empty)
    (hmode : s.tables.mode ≠ .config) (h : BelongsTo s a b c i) :
    s.judgeCoin a b c = match s.moneyCheck i with
      | some why => .reject why (some i)
      | none => .accept i := by
  rw [State.judgeCoin, hpath]
  simp only [hmode, if_false, State.classify_eq_some h] <;> rfl

/-- A state that a session may stand in for arriving cash is neither CLOSE_WAIT nor PAYOUT. -/
theorem SessionState.not_closing {x : SessionState} (h : x = .idle ∨ x = .opened) : ¬ (x = .closeWait ∨ x = .payout) := by
  obtain rfl | rfl := h <;> simp

/-- The model's decision is the rejection the checks of R5 give in their order. -/
theorem State.judgeCoin_of_rejects {s : State} {a b c : Nat} {why : Rejection} {subject : Option Nat}
    (h : Rejects s a b c why subject) : s.judgeCoin a b c = .reject why subject := by
  have hsales : s.tables.mode = .sales → s.tables.mode ≠ .config := fun h => by simp [h]
  cases h with
  | pathBusy p hpath => rw [State.judgeCoin, hpath]
  | mode hpath hmode => rw [State.judgeCoin, hpath]; exact if_pos hmode
  | noMatch hpath hmode hnone =>
    rw [State.judgeCoin, hpath]
    simp [hmode, State.classify_eq_none hnone]
  | funding i hpath hmode hbelongs hcard =>
    rw [State.judgeCoin_of_belongsTo hpath (hsales hmode) hbelongs]
    simp [State.moneyCheck, hmode, hcard]
  | closing i hpath hmode hbelongs hcard hstate =>
    rw [State.judgeCoin_of_belongsTo hpath (hsales hmode) hbelongs]
    simp [State.moneyCheck, hmode, hcard, hstate]
  | limit i hpath hmode hbelongs hcard hstate hlimit =>
    rw [State.judgeCoin_of_belongsTo hpath (hsales hmode) hbelongs]
    simp [State.moneyCheck, hmode, hcard, SessionState.not_closing hstate, State.prospective_eq, hlimit]
  | exact i hpath hmode hbelongs hcard hstate hlimit hassured hprice =>
    rw [State.judgeCoin_of_belongsTo hpath (hsales hmode) hbelongs]
    simp [State.moneyCheck, hmode, hcard, SessionState.not_closing hstate, State.prospective_eq, Nat.not_lt.2 hlimit,
      hassured, hprice]

/-- Settles O9: the decision is the rejection of the first check that fails, and the rejection is its notice. -/
theorem coinRejected : Obligations.CoinRejected := by
  intro s a b c why subject hrejects
  rw [exec_coinSignature, execCoinSignature, State.judgeCoin_of_rejects hrejects]
  rfl

theorem State.moneyCheck_of_passes {s : State} {i : Nat}
    (h : s.tables.mode = .service ∨ s.tables.mode = .sales ∧ MoneyPasses s i) : s.moneyCheck i = none := by
  obtain hmode | ⟨hmode, hcard, hstate, hlimit, hprice⟩ := h
  · simp [State.moneyCheck, hmode]
  · have hexact : ¬ ((!s.change.assured && decide (s.change.maxPrice < creditBefore s + (s.coinEntry i).value)) = true) := by
      obtain hassured | hprice := hprice
      · simp [hassured]
      · simp [Nat.not_lt.2 hprice]
    simp only [State.moneyCheck, hmode, hcard, SessionState.not_closing hstate, State.prospective_eq, Nat.not_lt.2 hlimit,
      ne_eq, not_true_eq_false, if_false]
    exact if_neg hexact

theorem State.judgeCoin_of_passes {s : State} {a b c i : Nat} (h : Passes s a b c i) : s.judgeCoin a b c = .accept i := by
  obtain ⟨hpath, hbelongs, hmoney⟩ := h
  have hmode : s.tables.mode ≠ .config := by
    obtain hmode | ⟨hmode, -⟩ := hmoney <;> simp [hmode]
  rw [State.judgeCoin_of_belongsTo hpath hmode hbelongs, State.moneyCheck_of_passes hmoney]

/-- The route chosen is a tube that takes the coin, or the cashbox where none does (R6). -/
theorem State.routed_chooseRoute (s : State) (i : Nat) : Routed s i (s.chooseRoute i) := by
  unfold State.chooseRoute
  split
  case h_1 hroute =>
    refine .inr ⟨fun n h => ?_, rfl⟩
    obtain ⟨h, -⟩ := h
    rw [hroute] at h
    cases h
  case h_2 n hroute =>
    dsimp only
    split
    case isTrue h => exact .inl ⟨n, ⟨hroute, h⟩, rfl⟩
    case isFalse h =>
      refine .inr ⟨fun m hm => ?_, rfl⟩
      obtain ⟨hm, htakes⟩ := hm
      rw [hroute, Route.tube.injEq] at hm
      exact h (hm ▸ htakes)

/-- Settles O10: a signature that passes is accepted, with the route that `State.routed_chooseRoute` describes. -/
theorem coinAccepted : Obligations.CoinAccepted := by
  intro s a b c i hpasses
  refine ⟨_, s.routed_chooseRoute i, ?_⟩
  rw [exec_coinSignature, execCoinSignature, State.judgeCoin_of_passes hpasses]
  rfl

/-! ### The gates (R7, R12) -/

/-- Settles O11, by the gate's and the path's two states. -/
theorem coinTimersEnd : Obligations.CoinTimersEnd := by
  refine ⟨fun s since hgate => ?_, fun s hgate => ?_, fun s c hpath => ?_, fun s hpath => ?_⟩
  · change execGateHoldEnd s = _
    rw [execGateHoldEnd, hgate]
    rfl
  · change execGateHoldEnd s = _
    rw [execGateHoldEnd, hgate]
  · refine ⟨_, ?_, ?_, rfl⟩
    · change execPathTimeout s = _
      rw [execPathTimeout, hpath]
      rfl
    · rw [State.selector, State.conclude_coin]
      rfl
  · change execPathTimeout s = _
    rw [execPathTimeout, hpath]

/-! ### Passage (R2, R9, R10, R21, R22) -/

theorem execPathPassage_of_pending {s : State} {c : PendingCoin} (h : s.coin.path = .pending c) :
    execPathPassage s = .next (s.confirmCoin c).conclude := by
  rw [execPathPassage, h]
  rfl

/-- A Tube record replaced, as a list operation. -/
theorem State.setTube_tubes_set (s : State) (n : Nat) (x : Tube) : (s.setTube n x).tubes = s.tubes.set (n - 1) x := by
  rw [State.setTube_tubes, editAt_const]

/-- What a confirmed coin handed to its tube can change. -/
theorem State.countCoin_touches (s : State) (c : PendingCoin) :
    s.countCoin c =
      { s with tubes := (s.countCoin c).tubes, change := (s.countCoin c).change, link := (s.countCoin c).link } := by
  unfold State.countCoin
  split
  · rfl
  · split
    · exact s.setTube_touches _ _
    · rfl

/-- The state in which a confirmed coin is credited: the tube and the entry counted, the path cleared (R9). -/
def State.counted (s : State) (c : PendingCoin) : State := ((s.countCoin c).countEntry c.entry).clearPath

theorem State.confirmCoin_eq (s : State) (c : PendingCoin) :
    s.confirmCoin c = if c.creditDue then (s.counted c).receiveCash .coin c.value else s.counted c := rfl

theorem State.counted_credit (s : State) (c : PendingCoin) : (s.counted c).credit = s.credit := by
  change (s.countCoin c).credit = s.credit
  rw [s.countCoin_touches c]

theorem State.counted_now (s : State) (c : PendingCoin) : (s.counted c).now = s.now := by
  change (s.countCoin c).now = s.now
  rw [s.countCoin_touches c]

theorem State.countCoin_change_keeps (s : State) (c : PendingCoin) :
    (s.countCoin c).change.maxPrice = s.change.maxPrice ∧ (s.countCoin c).change.seq = s.change.seq
      ∧ (s.countCoin c).change.job = s.change.job ∧ (s.countCoin c).change.deferred = s.change.deferred
      ∧ (s.countCoin c).change.pulses = s.change.pulses := by
  unfold State.countCoin State.coinIntoTube
  repeat' split
  all_goals simp

theorem State.countCoin_link_keeps (s : State) (c : PendingCoin) :
    (s.countCoin c).link.rx = s.link.rx ∧ (s.countCoin c).link.sent = s.link.sent
      ∧ (s.countCoin c).link.floor = s.link.floor ∧ (s.countCoin c).link.errors = s.link.errors
      ∧ (s.countCoin c).link.reported = s.link.reported := by
  unfold State.countCoin State.coinIntoTube
  repeat' split
  all_goals simp

/-- What the counting of a confirmed coin can change. -/
theorem State.counted_touches (s : State) (c : PendingCoin) :
    s.counted c =
      { s with coin := (s.counted c).coin, tubes := (s.counted c).tubes, change := (s.counted c).change,
               link := (s.counted c).link } :=
  congrArg (fun u : State => { u with coin := (s.counted c).coin }) (s.countCoin_touches c)

theorem State.sameExcept_counted (s : State) (c : PendingCoin) :
    SameExcept [.coin, .tubes, .assurance, .notices] s (s.counted c) := by
  have hchange := s.countCoin_change_keeps c
  have hlink := s.countCoin_link_keeps c
  intro p hp
  cases p
  all_goals try rw [s.counted_touches c]
  case coin | tubes | assurance | notices => simp at hp
  case maxPrice => exact hchange.1
  case payout => exact hchange.2
  case replies => exact hlink.2.1
  case receiver => exact hlink.1
  case linkCounts => exact hlink.2.2
  all_goals simp [Part.same]

theorem State.sameExcept_receiveCash (s : State) (k : Cash) (n : Nat) :
    SameExcept [.session, .carried, .unreported] s (s.receiveCash k n) := by
  intro p hp
  cases p <;> simp at hp <;> simp only [Part.same] <;> rw [s.receiveCash_touches k n] <;> simp

theorem State.sameExcept_confirmCoin (s : State) (c : PendingCoin) :
    SameExcept [.coin, .tubes, .assurance, .session, .carried, .unreported, .notices] s (s.confirmCoin c) := by
  rw [State.confirmCoin_eq]
  intro p hp
  simp only [List.mem_cons, List.not_mem_nil, or_false, not_or] at hp
  split
  · refine ((s.sameExcept_counted c).trans (State.sameExcept_receiveCash _ _ _)) p ?_
    simp [hp]
  · refine (s.sameExcept_counted c) p ?_
    simp [hp]

theorem SameExcept.mono {ps qs : List Part} {s t : State} (h : SameExcept ps s t) (hsub : ps ⊆ qs) : SameExcept qs s t :=
  fun p hp => h p fun hp' => hp (hsub hp')

theorem State.counted_coin (s : State) (c : PendingCoin) :
    (s.counted c).coin =
      { table := editAt (fun e => { e with accepted := min 65535 (e.accepted + 1) }) c.entry s.coin.table
        path := .empty, gate := .closed } := by
  have : (s.countCoin c).coin = s.coin := by rw [s.countCoin_touches c]
  simp only [State.counted, State.clearPath, State.countEntry, State.modCoin_coin, this]
  rfl

theorem State.receiveCash_coin (s : State) (k : Cash) (n : Nat) : (s.receiveCash k n).coin = s.coin := by
  rw [s.receiveCash_touches k n]

theorem State.receiveCash_tubes (s : State) (k : Cash) (n : Nat) : (s.receiveCash k n).tubes = s.tubes := by
  rw [s.receiveCash_touches k n]

theorem State.confirmCoin_coin (s : State) (c : PendingCoin) : (s.confirmCoin c).coin = (s.counted c).coin := by
  rw [State.confirmCoin_eq]
  split
  · exact State.receiveCash_coin _ _ _
  · rfl

theorem State.confirmCoin_tubes (s : State) (c : PendingCoin) : (s.confirmCoin c).tubes = (s.countCoin c).tubes := by
  rw [State.confirmCoin_eq]
  split
  · exact State.receiveCash_tubes _ _ _
  · rfl

/-- Settles O13: the coin is counted at its tube and its entry, and only a coin with credit due reaches the session. -/
theorem passageConfirms : Obligations.PassageConfirms := by
  intro s c hpath
  refine ⟨_, (exec_pathPassage s).trans (execPathPassage_of_pending hpath), ?_, ?_, ?_, ?_, ?_⟩
  · rw [State.conclude_coin, State.confirmCoin_coin, State.counted_coin]
  · intro n hroute hentry
    rw [State.conclude_tubes, State.confirmCoin_tubes]
    simp only [State.countCoin, hroute]
    rw [if_pos hentry]
    exact s.setTube_tubes_set n _
  · intro hroute
    rw [State.conclude_tubes, State.confirmCoin_tubes]
    obtain hroute | ⟨n, hroute, hentry⟩ := hroute
    · simp only [State.countCoin, hroute]
    · simp only [State.countCoin, hroute, hentry, if_false]
  · intro hdue
    have hcredit : (s.confirmCoin c).credit = s.credit := by
      rw [State.confirmCoin_eq, hdue]
      exact s.counted_credit c
    simp only [Part.same, State.conclude_session, State.conclude_carried, hcredit, and_self]
  · exact (s.sameExcept_confirmCoin c).conclude.mono (by decide)

/-- Cash that reaches a session that takes it: the part below the ceiling to the session, the excess to Carried Credit (R22). -/
theorem State.takeCash_of_takes {s : State} (h : s.credit.session.takesCash = true) (n : Nat) :
    (s.takeCash .coin n).credit.session = { s.credit.session with coinIn := s.credit.session.coinIn + s.cashRoom n }
      ∧ (s.takeCash .coin n).credit.carried =
        if s.cashRoom n = n then s.credit.carried else min 20000 (s.credit.carried + (n - s.cashRoom n)) := by
  have hle : s.cashRoom n ≤ n := min_le_left _ _
  unfold State.takeCash
  rw [if_pos h]
  dsimp only
  split
  · have hne : s.cashRoom n ≠ n := by omega
    rw [if_neg hne]
    exact ⟨rfl, rfl⟩
  · have heq : s.cashRoom n = n := by omega
    rw [if_pos heq]
    exact ⟨rfl, rfl⟩

/-- Cash that no session takes goes to Carried Credit (R22). -/
theorem State.takeCash_of_not_takes {s : State} (h : s.credit.session.takesCash = false) (k : Cash) (n : Nat) :
    (s.takeCash k n).credit.session = s.credit.session
      ∧ (s.takeCash k n).credit.carried = min 20000 (s.credit.carried + n) := by
  unfold State.takeCash
  rw [if_neg (by simp [h])]
  exact ⟨rfl, rfl⟩

/-- The opening of a CASH session for arriving cash (R21). -/
theorem State.openCash_takesCash (s : State) : s.openCash.credit.session.takesCash = true := rfl

/-- Settles O14: by the session's state the cash reaches a session that has just opened, one that takes cash, or none. -/
theorem passageCredits : Obligations.PassageCredits := by
  intro s c hpath hdue
  have hconfirm : s.confirmCoin c = (s.counted c).receiveCash .coin c.value := by rw [State.confirmCoin_eq, if_pos hdue]
  have hcredit := s.counted_credit c
  refine ⟨_, (exec_pathPassage s).trans (execPathPassage_of_pending hpath), ?_, ?_, ?_⟩
  all_goals rw [State.conclude_session, State.conclude_carried, hconfirm]
  · intro hidle
    rw [State.receiveCash, if_pos (by rw [hcredit]; exact hidle)]
    obtain ⟨hsession, hcarried⟩ := State.takeCash_of_takes (s.counted c).openCash_takesCash c.value
    have hroom : (s.counted c).openCash.cashRoom c.value =
        min c.value (max s.credit.policy.maxCredit s.credit.carried - s.credit.carried) := by
      rw [← hcredit]; rfl
    rw [hsession, hcarried, hroom]
    have hstamp : (s.counted c).stamp = s.stamp := by simp only [State.stamp, s.counted_now c]
    have hle : min c.value (max s.credit.policy.maxCredit s.credit.carried - s.credit.carried) ≤ c.value := min_le_left _ _
    constructor
    · simp only [State.openCash, State.modCash, State.modCredit_credit, hcredit, hstamp, Session.reset, Nat.zero_add]
    · have hzero : (s.counted c).openCash.credit.carried = 0 := rfl
      rw [hzero]
      split <;> omega
  · intro ⟨hfunding, hstate⟩
    have hidle : ¬ (s.counted c).credit.session.state = .idle := by
      rw [hcredit]
      obtain h | h := hstate <;> simp [h]
    have htakes : (s.counted c).credit.session.takesCash = true := by
      rw [hcredit]
      simp [Session.takesCash, hfunding, hstate]
    rw [State.receiveCash, if_neg hidle]
    obtain ⟨hsession, hcarried⟩ := State.takeCash_of_takes htakes c.value
    have hroom : (s.counted c).cashRoom c.value =
        min c.value (max s.credit.policy.maxCredit s.credit.session.carriedIn - s.credit.session.cashCredit) := by
      rw [← hcredit]; rfl
    rw [hsession, hcarried, hroom, hcredit]
    exact ⟨rfl, rfl⟩
  · intro ⟨hidle, hstate⟩
    have htakes : (s.counted c).credit.session.takesCash = false := by
      rw [hcredit]
      obtain h | h := hstate <;> simp [Session.takesCash, h]
    rw [State.receiveCash, if_neg (by rw [hcredit]; exact hidle)]
    obtain ⟨hsession, hcarried⟩ := State.takeCash_of_not_takes htakes .coin c.value
    rw [hsession, hcarried, hcredit]
    exact ⟨rfl, rfl⟩

/-! ### Low sensors and TUBE_SET (R15 to R17) -/

/-- A Tube record replaced, an evaluation triggered by a change of its count or state (R15). -/
theorem State.setTube_eq (s : State) (n : Nat) (x : Tube) :
    s.setTube n x =
      if (s.tube n).count = x.count ∧ (s.tube n).state = x.state then { s with tubes := s.tubes.set (n - 1) x }
      else State.triggerAssurance { s with tubes := s.tubes.set (n - 1) x } := by
  unfold State.setTube State.modTubes
  rw [editAt_const]

theorem execLowSensorChange_of_change {s : State} {n : Nat} {covered : Bool} (hlow : 1 ≤ n) (hhigh : n ≤ 5)
    (h : (s.tube n).covered ≠ covered) :
    execLowSensorChange n covered s = .next (s.takeLowSensor n covered).conclude := by
  have hno : ¬ (n = 0 ∨ 5 < n ∨ (s.tube n).covered = covered) := by
    rintro (h0 | h5 | hc)
    · omega
    · omega
    · exact h hc
  rw [execLowSensorChange, if_neg hno, run_nil]

/-- Settles O15: the correction of R16, or the reading stored alone. -/
theorem lowSensorCorrects : Obligations.LowSensorCorrects := by
  intro s n covered hlow hhigh hchange
  constructor
  · intro c habsent hcase
    have hcorrects : (s.tube n).correction covered = some c := by
      obtain ⟨rfl, hle, rfl⟩ | ⟨rfl, hlt, rfl⟩ := hcase
      · simp [Tube.correction, habsent, hle]
      · simp [Tube.correction, habsent, hlt]
    refine (execLowSensorChange_of_change hlow hhigh hchange).trans ?_
    simp only [State.takeLowSensor, hcorrects]
    rw [State.setTube_eq]
    rfl
  · intro hcase
    have hstands : (s.tube n).correction covered = none := by
      obtain h | ⟨rfl, h⟩ | ⟨rfl, h⟩ := hcase
      · simp [Tube.correction, h]
      · simp [Tube.correction, Nat.not_le.2 h]
      · simp [Tube.correction, Nat.not_lt.2 h]
    refine (execLowSensorChange_of_change hlow hhigh hchange).trans ?_
    simp only [State.takeLowSensor, hstands]
    rw [State.modTubes, editAt_eq_set_getD _ (Tube.reset false)]
    rfl

theorem execTubeSet_of_short {s : State} {q : Byte} {p : List Byte} (h : p.length < 2) :
    execTubeSet q p s = .next (s.frameTaken.refuse q .badArgument) :=
  if_pos h

/-- Settles O16: the refusals in their order, then the stored record with its reply. -/
theorem tubeSetTaken : Obligations.TubeSetTaken := by
  refine ⟨fun s q p hshort => execTubeSet_of_short hshort, fun s q b d rest => ?_⟩
  change execTubeSet q (b :: d :: rest) s = _
  have hlong : ¬ (b :: d :: rest).length < 2 := by simp
  have h0 : byteAt (b :: d :: rest) 0 = b.toNat := rfl
  have h1 : byteAt (b :: d :: rest) 1 = d.toNat := rfl
  have htube : s.frameTaken.tube b.toNat = s.tube b.toNat := rfl
  simp only [execTubeSet, if_neg hlong, h0, h1, State.tubeSetRefusal, htube, State.frameTaken_tables, State.paying,
    State.frameTaken_change]
  by_cases hmode : s.tables.mode = .sales
  · simp only [hmode, if_true]
  by_cases hrange : b.toNat = 0 ∨ 5 < b.toNat
  · have hrange' : ¬ (1 ≤ b.toNat ∧ b.toNat ≤ 5) := by omega
    simp only [hmode, hrange, hrange', if_true, if_false, not_false_eq_true]
  have hrange' : 1 ≤ b.toNat ∧ b.toNat ≤ 5 := by omega
  by_cases habsent : (s.tube b.toNat).state = .absent
  · simp only [hmode, hrange, hrange', habsent, if_true, if_false, not_true_eq_false, and_self]
  by_cases hpaying : s.change.seq = .idle
  · simp only [hmode, hrange, hrange', habsent, hpaying, ne_eq, if_false, not_true_eq_false, and_self, run_nil,
      State.setTube_eq, htube]
    rfl
  · simp only [hmode, hrange, hrange', habsent, hpaying, ne_eq, if_true, if_false, not_true_eq_false, not_false_eq_true,
      and_self, decide_true]

end Sys2Proof.Machine

/-! ## The Link Interface (09) -/

namespace Sys2Proof.Machine

/-! ### The Notice Queue (R154, R155, R157) -/

/-- What the queue loses when the newest notice of a level makes room. -/
theorem dropNewest_split {m : Nat} {q : List Notice} (h : ∃ x ∈ q, x.kind.level = m) :
    ∃ older x newer, q = older ++ x :: newer ∧ x.kind.level = m ∧ (∀ y ∈ newer, y.kind.level ≠ m)
      ∧ dropNewest m q = older ++ newer := by
  obtain ⟨x, hx, hlevel⟩ := h
  obtain ⟨y, front, back, hfront, hy, hq, herase⟩ :=
    List.exists_of_eraseP (p := fun n : Notice => n.kind.level == m) (List.mem_reverse.2 hx) (by simpa using hlevel)
  refine ⟨back.reverse, y, front.reverse, ?_, by simpa using hy, ?_, ?_⟩
  · rw [← List.reverse_reverse q, hq]
    simp
  · intro z hz
    simpa using hfront z (List.mem_reverse.1 hz)
  · rw [dropNewest, herase]
    simp

theorem lowestLevel_eq {m : Nat} {q : List Notice} (hmem : ∃ x ∈ q, x.kind.level = m) (hleast : ∀ x ∈ q, m ≤ x.kind.level) :
    lowestLevel q = m := by
  obtain ⟨x, hx, rfl⟩ := hmem
  obtain ⟨y, hy, hlevel⟩ := exists_lowestLevel (List.ne_nil_of_mem hx)
  exact le_antisymm (lowestLevel_le hx) (hlevel ▸ hleast y hy)

/-- Settles O52, along the branches of the push. -/
theorem noticesQueued : Obligations.NoticesQueued := by
  refine ⟨fun l n => ⟨fun hfloor => if_pos hfloor, fun hfloor hroom => ?_, fun m hfloor hfull hmem hleast => ?_⟩,
    fun s k subject values => rfl, fun s => ?_⟩
  · rw [LinkUnit.push, if_neg (Nat.not_lt.2 hfloor)]
    exact if_pos hroom
  · have hpush : l.push n =
        if lowestLevel l.notices < n.kind.level then
          { l with notices := dropNewest (lowestLevel l.notices) l.notices ++ [n], dropped := stopAt 255 l.dropped 1 }
        else { l with dropped := stopAt 255 l.dropped 1 } := by
      rw [LinkUnit.push, if_neg (Nat.not_lt.2 hfloor)]
      exact if_neg (Nat.not_lt.2 hfull)
    rw [hpush, lowestLevel_eq hmem hleast]
    refine ⟨fun hlow => if_neg (Nat.not_lt.2 hlow), fun hhigh => ?_⟩
    obtain ⟨older, x, newer, hq, hx, hnewer, hdrop⟩ := dropNewest_split hmem
    refine ⟨older, x, newer, hq, hx, hnewer, ?_⟩
    rw [if_pos hhigh, hdrop]
    rfl
  · cases hq : s.link.notices <;> simp [State.attn, hq]

/-! ### The receive assembler and frames that are no request (R147, R149, R150) -/

/-- Bytes behind a start byte that have not completed a frame. -/
def Begun (bytes : List Byte) : Prop :=
  bytes.length ≤ 3 ∨ ∃ node kind seq len rest, bytes = node :: kind :: seq :: len :: rest ∧ len.toNat ≤ 60
    ∧ rest.length < len.toNat + 2

theorem judgeBytes_of_begun {bytes : List Byte} (h : Begun bytes) : judgeBytes bytes = (.assembling bytes, none) := by
  obtain h | ⟨node, kind, seq, len, rest, rfl, hlen, hrest⟩ := h
  · match bytes, h with
    | [], _ | [_], _ | [_, _], _ | [_, _, _], _ => rfl
  · have hlen' : ¬ Config.payloadMax < len.toNat := Nat.not_lt.2 hlen
    rw [judgeBytes, if_neg hlen', if_neg hrest.ne]

/-- What has been heard before was incomplete too. -/
theorem Begun.of_append {bytes more : List Byte} (h : Begun (bytes ++ more)) : Begun bytes := by
  obtain h | ⟨node, kind, seq, len, rest, heq, hlen, hrest⟩ := h
  · exact .inl (by rw [List.length_append] at h; omega)
  · match bytes with
    | [] | [_] | [_, _] | [_, _, _] => exact .inl (by simp)
    | a :: b :: c :: d :: front =>
      simp only [List.cons_append, List.cons.injEq] at heq
      obtain ⟨rfl, rfl, rfl, rfl, rfl⟩ := heq
      rw [List.length_append] at hrest
      exact .inr ⟨_, _, _, _, _, rfl, hlen, by omega⟩

theorem feedAll_of_begun (bytes more : List Byte) (h : Begun (bytes ++ more)) :
    (Assembler.assembling bytes).feedAll more = (.assembling (bytes ++ more), []) := by
  induction more generalizing bytes with
  | nil => simp [Assembler.feedAll]
  | cons b more ih =>
    rw [List.append_cons] at h
    have hfeed : (Assembler.assembling bytes).feed b = (.assembling (bytes ++ [b]), none) := judgeBytes_of_begun h.of_append
    simp only [Assembler.feedAll, hfeed, ih _ h, Option.toList_none, List.append_assoc, List.cons_append, List.nil_append]

theorem feedAll_hunting {bytes : List Byte} (h : ∀ b ∈ bytes, b ≠ 0xC3) :
    Assembler.hunting.feedAll bytes = (.hunting, []) := by
  induction bytes with
  | nil => rfl
  | cons b bytes ih =>
    obtain ⟨hb, hbytes⟩ := List.forall_mem_cons.1 h
    have hfeed : Assembler.hunting.feed b = (.hunting, none) := if_neg hb
    simp only [Assembler.feedAll, hfeed, ih hbytes, Option.toList_none, List.append_nil]

/-- A receive error counts, and the eighth is reported (R149). -/
theorem State.errorCounted_linkError (s : State) : ErrorCounted s (.next s.frameTaken.linkError) := by
  have herrors : stopAt 255 s.link.errors 1 = 8 ↔ s.link.errors = 7 := by
    unfold stopAt
    omega
  refine ⟨fun h => ?_, fun height hreported => ⟨_, rfl, ?_⟩⟩
  · rw [← herrors] at h
    exact congrArg Host.Outcome.next (if_neg h)
  · have hcase : stopAt 255 s.link.errors 1 = 8 ∧ s.link.reported = false := ⟨herrors.2 height, hreported⟩
    refine congrArg Host.Outcome.next ((if_pos hcase).trans ?_)
    change State.modLink (State.raise _ _ _ [stopAt 255 s.link.errors 1]) _ = _
    rw [hcase.1]
    rfl

/-- Settles O53, by the sort of frame. -/
theorem framesDiscarded : Obligations.FramesDiscarded := by
  refine ⟨fun s bytes hrx => ⟨fun hbegun => ?_, fun hskip => ?_⟩, fun s node kind seq len => ⟨fun h => ?_, fun h => ?_⟩,
    fun s f check => ⟨fun h => ?_, ?_⟩, fun s node kind seq p => ⟨fun h => ?_, fun h => ?_⟩,
    fun s kind seq p => ⟨fun h => ?_, fun h => ?_⟩⟩
  · have hfeed : s.link.rx.feedAll (0xC3 :: bytes) = (.assembling bytes, []) := by
      rw [hrx, Assembler.feedAll]
      simpa [Assembler.feed, startByte] using feedAll_of_begun [] bytes hbegun
    change ErrorCounted s (execLinkByteGap _ s)
    rw [execLinkByteGap, hfeed]
    exact s.errorCounted_linkError
  · change execLinkByteGap bytes s = _
    rw [execLinkByteGap, hrx, feedAll_hunting hskip]
  · change ErrorCounted s (execOverLengthFrame node kind seq len s)
    have hover : Config.payloadMax < len.toNat := h
    rw [execOverLengthFrame, if_pos hover]
    exact s.errorCounted_linkError
  · exact if_neg (Nat.not_lt.2 h)
  · change ErrorCounted s (execCheckValueError _ _ s)
    rw [execCheckValueError, if_neg (Ne.symm h)]
    exact s.errorCounted_linkError
  · exact if_pos rfl
  · exact if_neg (Nat.not_lt.2 h)
  · exact if_pos h
  · exact if_neg (by rwa [List.contains_iff_mem])
  · exact if_pos (by rwa [List.contains_iff_mem])

/-! ### STATUS, SET_FLOOR, FETCH_NOTICES and the stamp (R153 to R156) -/

/-- A channel's state as STATUS sends it. -/
theorem u8_channelState_code (x : ChannelState) :
    u8 x.code = match x with
      | .disabled => 0
      | .probing => 1
      | .ready => 2
      | .await .ready => 2
      | .suspect => 3
      | .await .suspect => 3
      | .lost => 4 := by
  cases x with
  | await y => cases y <;> rfl
  | _ => rfl

theorem State.statusRecord_blocks (s : State) :
    s.statusRecord.drop 33 =
      [u8 (s.channel 0).freeBlocks, u8 (s.channel 1).freeBlocks, u8 (s.channel 2).freeBlocks, u8 (s.channel 3).freeBlocks,
        u8 s.link.notices.length, u8 s.link.errors, u8 s.link.dropped] := rfl

theorem State.statusRecord_states (s : State) :
    s.statusRecord.drop 29 =
      [u8 (s.channel 0).state.code, u8 (s.channel 1).state.code, u8 (s.channel 2).state.code, u8 (s.channel 3).state.code]
        ++ s.statusRecord.drop 33 := rfl

theorem execStatus_clear (s : State) (seq : Byte) {b : Byte} (rest : List Byte) (h0 : b ≠ 0) (h1 : b ≠ 1) :
    execStatus seq (b :: rest) s = .next (s.frameTaken.refuse seq .badArgument) := by
  have h0' : b.toNat ≠ 0 := fun h => h0 (BitVec.eq_of_toNat_eq h)
  have h1' : b.toNat ≠ 1 := fun h => h1 (BitVec.eq_of_toNat_eq h)
  have hb : byteAt (b :: rest) 0 = b.toNat := rfl
  unfold execStatus
  rw [hb]
  split
  case h_1 h => exact absurd h h0'
  case h_2 h => exact absurd h h1'
  case h_3 => rfl

theorem Notice.length_bytes (n : Notice) : n.bytes.length = 6 + 2 * n.values.length := by
  have hvalues : (n.values.flatMap u16).length = 2 * n.values.length := by
    simp [List.length_flatMap, u16, Nat.mul_comm]
  simp only [Notice.bytes, u24, List.length_append, List.length_cons, List.length_nil, hvalues]
  omega

/-- The bytes of the first `k` notices. -/
def noticesSize (q : List Notice) (k : Nat) : Nat := ((q.take k).map fun n => 6 + 2 * n.values.length).sum

theorem noticesSize_cons_succ (x : Notice) (q : List Notice) (k : Nat) :
    noticesSize (x :: q) (k + 1) = 6 + 2 * x.values.length + noticesSize q k := by
  simp [noticesSize]

/-- A fetch takes notices while number and room allow. -/
theorem fetchable_spec (n room : Nat) (q : List Notice) :
    fetchable n room q ≤ n ∧ fetchable n room q ≤ q.length ∧ noticesSize q (fetchable n room q) ≤ room
      ∧ (fetchable n room q = n ∨ fetchable n room q = q.length ∨ room < noticesSize q (fetchable n room q + 1)) := by
  induction q generalizing n room with
  | nil => cases n <;> simp [fetchable, noticesSize]
  | cons x q ih =>
    cases n with
    | zero => simp [fetchable, noticesSize]
    | succ n =>
      rw [fetchable, Notice.length_bytes]
      by_cases hfits : 6 + 2 * x.values.length ≤ room
      · obtain ⟨hn, hq, hsize, hstop⟩ := ih n (room - (6 + 2 * x.values.length))
        rw [if_pos hfits, Nat.add_comm 1, noticesSize_cons_succ, noticesSize_cons_succ, List.length_cons]
        omega
      · rw [if_neg hfits, noticesSize_cons_succ]
        refine ⟨Nat.zero_le _, Nat.zero_le _, ?_, .inr (.inr (by omega))⟩
        simp [noticesSize]

/-- Settles O55: the record's fields by computation, a fetch by `fetchable_spec`. -/
theorem linkRequestsAnswered : Obligations.LinkRequestsAnswered := by
  refine ⟨fun s seq => ⟨s.statusRecord, rfl, rfl, rfl, ?_, rfl, rfl, ?_, rfl, rfl, fun b rest => ⟨?_, ?_, ?_⟩⟩,
    fun s seq => ⟨rfl, rfl⟩, fun s seq b rest => rfl, fun s seq b rest => ?_, fun s => ?_⟩
  · have hcount : (fun v : Vend => decide (v.result = none)) = Vend.unfinished := by
      funext v
      cases h : v.result <;> simp [Vend.unfinished, h]
    have hassured : (if s.change.assured = true then (1 : Byte) else 0) = u8 (boolCode s.change.assured) := by
      cases s.change.assured <;> rfl
    rw [hcount, hassured]
    rfl
  · intro n hn
    have hcode := congrArg some (u8_channelState_code (s.channel n).state)
    rw [← List.getElem?_drop, ← List.getElem?_drop, s.statusRecord_states, s.statusRecord_blocks]
    interval_cases n <;> exact ⟨hcode, rfl⟩
  · rintro rfl
    rfl
  · rintro rfl
    rfl
  · exact execStatus_clear s seq rest
  · obtain ⟨hn, hq, hsize, hstop⟩ := fetchable_spec (max 1 (min 4 b.toNat)) 56 s.link.notices
    exact ⟨_, hn, hq, hsize, hstop, rfl⟩
  · have hlater : s.now < (s.now / 1677721600 + 1) * 1677721600 := by omega
    have hreach : max s.now ((s.now / 1677721600 + 1) * 1677721600) = (s.now / 1677721600 + 1) * 1677721600 :=
      max_eq_right hlater.le
    refine ⟨_, rfl, ?_⟩
    have hperiod : stampPeriod = 1677721600 := rfl
    rw [hperiod, hreach]
    refine ⟨hlater, by omega, ?_⟩
    change (s.now / 1677721600 + 1) * 1677721600 / 100 % 16777216 = 0
    omega

/-! ### The staging buffer and READ_TABLE (R161, R162, R165) -/

theorem chop_length (size n : Nat) (p : List Byte) : (chop size n p).length = n := by
  induction n generalizing p with
  | zero => rfl
  | succ n ih => rw [chop, List.length_cons, ih]

theorem chop_getElem? {size n j : Nat} (p : List Byte) (h : j < n) :
    (chop size n p)[j]? = some ((p.drop (j * size)).take size) := by
  induction n generalizing p j with
  | zero => omega
  | succ n ih =>
    cases j with
    | zero => simp [chop]
    | succ j =>
      rw [chop, List.getElem?_cons_succ, ih _ (by omega), List.drop_drop]
      congr 3
      rw [Nat.succ_mul, Nat.add_comm]

theorem overlay_length {α : Type} {offset : Nat} {new old : List α} (h : offset + new.length ≤ old.length) :
    (overlay offset new old).length = old.length := by
  simp only [overlay, List.length_append, List.length_take, List.length_drop]
  omega

theorem overlay_getElem?_new {α : Type} {offset j : Nat} {new old : List α} (h : offset + new.length ≤ old.length)
    (hj : j < new.length) : (overlay offset new old)[offset + j]? = new[j]? := by
  have htake : (old.take offset).length = offset := by rw [List.length_take]; omega
  rw [overlay, List.append_assoc, List.getElem?_append_right (by omega), htake, Nat.add_sub_cancel_left,
    List.getElem?_append_left hj]

theorem overlay_getElem?_old {α : Type} {offset j : Nat} {new old : List α} (h : offset + new.length ≤ old.length)
    (hj : j < offset ∨ offset + new.length ≤ j) : (overlay offset new old)[j]? = old[j]? := by
  have htake : (old.take offset).length = offset := by rw [List.length_take]; omega
  rw [overlay, List.append_assoc]
  obtain hj | hj := hj
  · rw [List.getElem?_append_left (by omega), List.getElem?_take_of_lt hj]
  · rw [List.getElem?_append_right (by omega), List.getElem?_append_right (by omega), List.getElem?_drop, htake]
    congr 1
    omega

/-- A table kind's code is the byte it was read from. -/
theorem TableKind.code_of_ofCode {n : Nat} {k : TableKind} (h : TableKind.ofCode n = some k) : k.code = n := by
  unfold TableKind.ofCode at h
  split at h <;> cases h <;> rfl

theorem TableKind.writtenSize_pos (k : TableKind) : 0 < k.writtenSize := by
  cases k <;> decide

theorem State.stageOpens_eq_ok {s : State} {code first : Nat} {k : TableKind} (hkind : TableKind.ofCode code = some k)
    (hindex : k.hasIndex first = true) (hstaging : s.tables.staging = .empty)
    (hmode : k.timing = .configOnly → s.tables.mode = .config) : s.stageOpens code first = .ok k := by
  simp only [State.stageOpens, hkind, hindex, hstaging]
  simpa using hmode

/-- Settles O56: each request by its checks in their order. -/
theorem tablesStaged : Obligations.TablesStaged := by
  refine ⟨fun s seq p => ⟨fun h => if_pos h, fun h => if_pos h, ?_, ⟨_, rfl⟩⟩, fun s seq code first rest => ?_,
    fun s seq offset bytes => ?_, fun s seq code first count rest => ?_⟩
  · rintro rfl
    rfl
  · intro i out
    have hout : out = match s.frameTaken.stageOpens code.toNat i with
        | .error why => .next (s.frameTaken.refuse seq why)
        | .ok k => .next ((s.frameTaken.setStaging (.opened (s.frameTaken.openBuffer k i))).accept seq
          [u8 k.code, u8 i, u8 (s.frameTaken.openBuffer k i).entries.length]) := by
      have hlong : ¬ (code :: first :: rest).length < 2 := by simp
      exact if_neg (t := .next (s.frameTaken.refuse seq .badArgument)) hlong
    rw [hout]
    refine ⟨fun h => by simp only [State.stageOpens, h], fun k h => ?_⟩
    refine ⟨fun hindex => by simp [State.stageOpens, h, hindex],
      fun hindex hstaging => by simp [State.stageOpens, h, hindex, hstaging],
      fun hindex hstaging htiming hmode => by simp [State.stageOpens, h, hindex, hstaging, htiming, hmode],
      fun hindex hstaging hmode => ?_⟩
    rw [State.stageOpens_eq_ok (s := s.frameTaken) h hindex hstaging hmode]
    dsimp only
    have hlength : (s.frameTaken.openBuffer k i).entries.length = min 16 (k.firstIndex + k.size - i) := by
      rw [State.openBuffer, List.length_map, List.length_range]
      rfl
    rw [TableKind.code_of_ofCode h, u8_toNat, hlength, u8_toNat first]
    rfl
  · intro out
    have hout : out = match s.tables.staging with
        | .empty => .next (s.frameTaken.refuse seq .notReady)
        | .pending _ => .next (s.frameTaken.refuse seq .busy)
        | .opened b =>
          if !b.takesWrite offset.toNat bytes then .next (s.frameTaken.refuse seq .badArgument)
          else
            let n := bytes.length / b.kind.writtenSize
            let b := b.write offset.toNat (chop b.kind.writtenSize n bytes)
            .next ((s.frameTaken.setStaging (.opened b)).accept seq [u8 offset.toNat, u8 n, u8 b.extent]) := by
      have hlong : ¬ (offset :: bytes).length < 1 := by simp
      exact if_neg (t := .next (s.frameTaken.refuse seq .badArgument)) hlong
    rw [hout]
    refine ⟨fun h => by rw [h], fun b h => by rw [h], fun b n h => ?_⟩
    rw [h]
    dsimp only
    have htakes : b.takesWrite offset.toNat bytes = true ↔ bytes.length % b.kind.writtenSize = 0 ∧ bytes ≠ []
        ∧ offset.toNat + bytes.length / b.kind.writtenSize ≤ b.entries.length := by
      simp [Buffer.takesWrite, and_assoc]
    refine ⟨fun hbad => ?_, fun hlen hn hroom => ?_⟩
    · have : ¬ b.takesWrite offset.toNat bytes = true := by
        rw [htakes]
        rintro ⟨hmod, hne, hle⟩
        obtain h | h | h := hbad
        · exact h hmod
        · exact hne h
        · omega
      simp [this]
    · have hsize := b.kind.writtenSize_pos
      have hdiv : bytes.length / b.kind.writtenSize = n := by rw [hlen, Nat.mul_div_cancel _ hsize]
      have hgood : b.takesWrite offset.toNat bytes = true := by
        rw [htakes, hdiv, hlen, Nat.mul_mod_left]
        refine ⟨rfl, ?_, hroom⟩
        rintro rfl
        rw [List.length_nil] at hlen
        obtain h | h := Nat.mul_eq_zero.1 hlen.symm <;> omega
      have hroom' : offset.toNat + (chop b.kind.writtenSize n bytes).length ≤ b.entries.length := by rwa [chop_length]
      refine ⟨overlay offset.toNat (chop b.kind.writtenSize n bytes) b.entries, overlay_length hroom', fun j hj => ?_,
        fun j hj => overlay_getElem?_old hroom' (by rwa [chop_length]), ?_⟩
      · rw [overlay_getElem?_new hroom' (by rwa [chop_length]), chop_getElem? bytes hj]
      · simp only [hgood, hdiv, Bool.not_true, Bool.false_eq_true, if_false, u8_toNat, Buffer.write, chop_length]
        rfl
  · intro i out
    have hout : out = match TableKind.ofCode code.toNat with
        | none => .next (s.frameTaken.refuse seq .badArgument)
        | some k =>
          if !k.hasIndex i ∨ count.toNat = 0 ∨ 16 < count.toNat then .next (s.frameTaken.refuse seq .badArgument)
          else .next (s.frameTaken.accept seq (s.frameTaken.readData k i count.toNat)) := by
      have hlong : ¬ (code :: first :: count :: rest).length < 3 := by simp
      exact if_neg (t := .next (s.frameTaken.refuse seq .badArgument)) hlong
    rw [hout]
    refine ⟨fun h => by rw [h], fun k h => ?_⟩
    have hcode : u8 k.code = code := by rw [TableKind.code_of_ofCode h, u8_toNat]
    rw [h]
    dsimp only
    refine ⟨fun hbad => if_pos (by simpa using hbad), fun hindex hone hmost => ?_⟩
    rw [if_neg (by simp only [hindex, Bool.not_true, Bool.false_eq_true, false_or]; omega), State.readData, hcode,
      u8_toNat first]
    rfl

end Sys2Proof.Machine

/-! ## Resets and restart (R158, R159, R168) -/

namespace Sys2Proof.Machine

/-! ### Power-on reset and the reset pin -/

theorem code_modeFor (doorOpen : Bool) : (modeFor doorOpen).code = if doorOpen = true then 2 else 0 := by
  cases doorOpen <;> rfl

theorem Beam.found_eq (b : Beam) : b.found = if b = .clear then .clear else .broken := by
  cases b <;> rfl

/-- Settles O59: the state after either reset, field by field. -/
theorem resetLeaves : Obligations.ResetLeaves := by
  intro s cause c hcause
  have hexec : exec c s = .next (s.resetBy cause) := by
    obtain ⟨rfl, rfl⟩ | ⟨rfl, rfl⟩ := hcause <;> rfl
  have hnotices : (s.resetBy cause).link.notices =
      [{ kind := .powerUp, stamp := 0, subject := none, values := [cause, if s.pins.doorOpen = true then 2 else 0] }] := by
    rw [← code_modeFor]
    rfl
  have hstamp : (s.resetBy cause).stamp = 0 := by
    have hnow : (s.resetBy cause).now = 0 := rfl
    rw [State.stamp, hnow, Nat.zero_div, Nat.zero_mod]
  have htables : (s.resetBy cause).tables =
      { staging := .empty, mode := if s.pins.doorOpen = true then .service else .config, remembered := .config
        loadCommitted := false, curveCommitted := false } := rfl
  have hselections : ∀ x ∈ (s.resetBy cause).sales.selections, x.price = 0 ∧ x.health = .ambient ∧ x.addOn = 0
      ∧ x.state = .available ∧ x.missStreak = 0 ∧ x.vendCount = 0 := by
    intro x hx
    rw [List.eq_of_mem_replicate hx]
    exact ⟨rfl, rfl, rfl, rfl, rfl, rfl⟩
  have hgroups : ∀ g, (s.resetBy cause).group g =
      { state := .idle, highRun := 0, lastCurrent := 0, noMotorChecked := false, held := none, test := none } := by
    intro g
    cases g <;> rfl
  have hsensors : ∀ x ∈ [(s.resetBy cause).plant.cab, (s.resetBy cause).plant.coil, (s.resetBy cause).plant.cond],
      x = { state := .valid, temp := none, badRun := 0, lastFault := none } := by
    intro x hx
    simp only [List.mem_cons, List.not_mem_nil, or_false] at hx
    obtain rfl | rfl | rfl := hx <;> rfl
  have hcurve : ∀ i, i < 3 → ((s.resetBy cause).plant.curve.drop (8 * i)).take 8 = builtInCurve := by
    intro i hi
    interval_cases i <;> rfl
  have hchannels : ∀ x ∈ (s.resetBy cause).bridge.channels, x = Channel.reset := fun x hx => List.eq_of_mem_replicate hx
  have hevap : (s.resetBy cause).evapFan = !s.pins.doorOpen := Bool.and_true _
  exact ⟨_, hexec, hnotices, rfl, rfl, rfl, rfl, rfl, hstamp, htables, rfl, rfl, rfl, rfl, rfl, rfl, rfl, rfl, rfl, rfl, rfl, rfl,
    rfl, rfl, rfl, rfl, rfl, rfl, rfl, rfl, rfl, rfl, rfl, rfl, rfl, rfl, rfl, rfl, rfl, hselections, rfl, rfl, rfl, hgroups,
    Beam.found_eq _, hsensors, rfl, hcurve, rfl, rfl, rfl, rfl, rfl, rfl, rfl, rfl, rfl, rfl, hevap, rfl, rfl, rfl, rfl, rfl, rfl,
    rfl, fun x hx => by rw [hchannels x hx]; exact ⟨rfl, rfl, rfl, rfl, rfl, rfl⟩, rfl, rfl, ⟨_, rfl⟩, rfl, rfl⟩

/-! ### RESTART -/

/-- What the host receives when the queued frames of a channel fail (R133): a reply each, or nothing but notices. -/
def failedReplies (c : Channel) (why : Reason) (fs : List HostFrame) : List Frame :=
  if c.cfg.early = true then [] else fs.map fun f => { node := f.hostNode, kind := 0x80, seq := f.seq, payload := [1, u8 why.code] }

/-- Only the Machine Link's replies and notices differ, by these replies. -/
def OnlyReplies (s t : State) (rs : List Frame) : Prop :=
  t = { s with link := t.link } ∧ t.link.sent = s.link.sent ++ rs ∧ t.link.rx = s.link.rx ∧ t.link.floor = s.link.floor
    ∧ t.link.errors = s.link.errors ∧ t.link.reported = s.link.reported

theorem OnlyReplies.refl (s : State) : OnlyReplies s s [] := ⟨rfl, (List.append_nil _).symm, rfl, rfl, rfl, rfl⟩

theorem OnlyReplies.trans {s t u : State} {rs qs : List Frame} (h : OnlyReplies s t rs) (h' : OnlyReplies t u qs) :
    OnlyReplies s u (rs ++ qs) := by
  obtain ⟨ht, hsent, hrx, hfloor, herrors, hreported⟩ := h
  obtain ⟨hu, hsent', hrx', hfloor', herrors', hreported'⟩ := h'
  refine ⟨?_, by rw [hsent', hsent, List.append_assoc], hrx'.trans hrx, hfloor'.trans hfloor, herrors'.trans herrors,
    hreported'.trans hreported⟩
  rw [ht] at hu
  exact hu

theorem OnlyReplies.raise (s : State) (k : NoticeKind) (x : Option Nat) (vs : List Nat) : OnlyReplies s (s.raise k x vs) [] :=
  ⟨rfl, by simp, by simp, by simp, by simp, by simp⟩

theorem OnlyReplies.transmit (s : State) (f : Frame) : OnlyReplies s (s.transmit f) [f] := ⟨rfl, rfl, rfl, rfl, rfl, rfl⟩

theorem OnlyReplies.channel {s t : State} {rs : List Frame} (h : OnlyReplies s t rs) (n : Nat) : t.channel n = s.channel n := by
  rw [h.1]
  rfl

theorem OnlyReplies.failHost (s : State) (n : Nat) (f : HostFrame) (why : Reason) :
    OnlyReplies s (s.failHost n f why) (failedReplies (s.channel n) why [f]) := by
  unfold State.failHost failedReplies
  split
  · exact .raise _ _ _ _
  · exact .transmit _ _

theorem OnlyReplies.failAll (s : State) (n : Nat) (why : Reason) (fs : List HostFrame) :
    OnlyReplies s (s.failAll n why fs) (failedReplies (s.channel n) why fs) := by
  induction fs generalizing s with
  | nil =>
    rw [failedReplies, List.map_nil, ite_self]
    exact .refl s
  | cons f fs ih =>
    have h := OnlyReplies.failHost s n f why
    have hrest := ih (s.failHost n f why)
    rw [h.channel] at hrest
    have hsplit : failedReplies (s.channel n) why [f] ++ failedReplies (s.channel n) why fs
        = failedReplies (s.channel n) why (f :: fs) := by
      unfold failedReplies
      split <;> rfl
    exact hsplit ▸ h.trans hrest

theorem OnlyReplies.failQueues (s : State) (ns : List Nat) :
    OnlyReplies s (s.failQueues ns) (ns.flatMap fun n => failedReplies (s.channel n) .channelLost (s.channel n).queue) := by
  induction ns generalizing s with
  | nil => exact .refl s
  | cons n ns ih =>
    have h := OnlyReplies.failAll s n .channelLost (s.channel n).queue
    have hrest := ih (s.failAll n .channelLost (s.channel n).queue)
    simp only [h.channel] at hrest
    exact h.trans hrest

theorem OnlyReplies.foldl_raise {α : Type} (k : α → NoticeKind) (x : α → Option Nat) (vs : α → List Nat) (as : List α) (s : State) :
    OnlyReplies s (as.foldl (fun s a => s.raise (k a) (x a) (vs a)) s) [] := by
  induction as generalizing s with
  | nil => exact .refl s
  | cons a as ih => exact (OnlyReplies.raise s _ _ _).trans (ih _)

theorem OnlyReplies.restartVends (s : State) : OnlyReplies s s.restartVends [] :=
  OnlyReplies.foldl_raise _ _ _ _ s

/-- The notice of a restart stands alone in the emptied queue (R158). -/
theorem State.announceRestart_link {s : State} (h : s.link.floor ≤ 7) :
    s.announceRestart.link =
      { s.link with
        notices := [s.notice .restarted none [s.tables.mode.code, s.credit.carried, s.credit.settlements.length]] } := by
  change LinkUnit.push { s.link with notices := [] } _ = _
  obtain ⟨-, hpush, -⟩ := noticesQueued.1 { s.link with notices := [] }
    (s.notice .restarted none [s.tables.mode.code, s.credit.carried, s.credit.settlements.length])
  exact hpush h (Nat.succ_pos 23)

/-- Without a limit of 0 an evaluation is only begun (R46). -/
theorem State.startEvaluation_of_limit {s : State} (h : s.credit.policy.assuranceLimit ≠ 0) :
    s.startEvaluation = s.modChange fun c => { c with evaluating := some s.evalInput } := if_neg h

theorem slotSettlement_eq (x : Option Command) :
    slotSettlement x = (match x with
      | some (.settle r) => some r
      | _ => none).toList := by
  rcases x with _ | y
  · rfl
  · cases y <;> rfl

theorem BridgeUnit.slotSettlements_eq (b : BridgeUnit) :
    b.slotSettlements = b.channels.filterMap fun c => match c.slot with
      | some (.settle r) => some r
      | _ => none := by
  rw [BridgeUnit.slotSettlements, List.filterMap_eq_flatMap_toList]
  congr 1
  funext c
  exact slotSettlement_eq c.slot

theorem Channel.restart_eq (c : Channel) (now : Nat) :
    { c.reprobe now with slot := none, queue := [] } =
      if c.state = .disabled then { c with slot := none, queue := [] }
      else { c with state := .probing, misses := 0, lastEvent := none, lastProbe := now, slot := none, queue := [] } := by
  unfold Channel.reprobe
  split
  case h_1 h => simp [h]
  all_goals rename_i h; simp [h]

/-- Settles O60: the answer and the failing frames first (`OnlyReplies`), then the blocks, field by field. -/
theorem restartLeaves : Obligations.RestartLeaves := by
  intro s seq p hfloor hlimit z mode inSlots closing failed
  obtain ⟨u, hu⟩ : ∃ u, u = ((s.frameTaken.accept seq []).restartVends).failQueues (List.range 4) := ⟨_, rfl⟩
  obtain ⟨htouches, hsent, hrx, hufloor, herrors, hreported⟩ :
      OnlyReplies (s.frameTaken.accept seq []) u failed := by
    have hvends := OnlyReplies.restartVends (s.frameTaken.accept seq [])
    have hqueues := OnlyReplies.failQueues (s.frameTaken.accept seq []).restartVends (List.range 4)
    simp only [hvends.channel] at hqueues
    rw [← hu] at hqueues
    exact hvends.trans hqueues
  have hexec : exec (.restart seq p) s = .next u.restartBlocks.announceRestart.startEvaluation := by
    rw [hu]
    rfl
  have hfields : u = { s with link := u.link } := htouches
  have hlimit' : u.restartBlocks.announceRestart.credit.policy.assuranceLimit ≠ 0 := by
    change u.credit.policy.assuranceLimit ≠ 0
    rw [hfields]
    exact hlimit
  rw [State.startEvaluation_of_limit hlimit'] at hexec
  have hlink : u.restartBlocks.announceRestart.link = _ :=
    State.announceRestart_link (s := u.restartBlocks) (hufloor.trans_le hfloor)
  generalize u.link = l at *
  subst hfields
  have hnotices := congrArg LinkUnit.notices hlink
  have hreplies := congrArg LinkUnit.sent hlink
  have hslots := s.bridge.slotSettlements_eq
  have hclosing : (match z.card with
      | some k => [z.settlement k]
      | none => []) = closing := by
    dsimp only [closing, z]
    cases s.credit.session.card <;> rfl
  have hchannels : s.bridge.channels.map (fun c => { c.reprobe s.now with slot := none, queue := [] }) = _ :=
    List.map_congr_left fun c _ => c.restart_eq s.now
  refine ⟨_, hexec, ?_, ?_, ?_, ?_, ?_, rfl, rfl, rfl, ?_, rfl, rfl, rfl, rfl, rfl, rfl, rfl, rfl, rfl, rfl, rfl, ?_, rfl, rfl, rfl,
    rfl, rfl, hchannels, rfl, ?_⟩
  · refine hreplies.trans (hsent.trans ?_)
    change (s.link.sent ++ [replyFrame 0 seq 0 0 []]) ++ failed = _
    rw [List.append_assoc]
    rfl
  · refine hnotices.trans ?_
    change [State.notice _ _ _ [(modeFor s.pins.doorOpen).code, _, _]] = _
    rw [code_modeFor]
    rfl
  · exact (congrArg LinkUnit.floor hlink).trans hufloor
  · exact (congrArg LinkUnit.errors hlink).trans herrors
  · exact (congrArg LinkUnit.reported hlink).trans hreported
  · exact congrArg₂ (fun inSlots closing => s.credit.settlements ++ inSlots ++ closing) hslots hclosing
  · intro g
    cases g <;> rfl
  · intro part hpart
    cases part
    case now | draws | pins | tubes | policy | notes | maxPrice | selections | pending => rfl
    case linkCounts =>
      exact ⟨(congrArg LinkUnit.floor hlink).trans hufloor, (congrArg LinkUnit.errors hlink).trans herrors,
        (congrArg LinkUnit.reported hlink).trans hreported⟩
    all_goals simp at hpart

end Sys2Proof.Machine

/-! ## Exact payments and assurance (03, sections 3.1 and 3.2) -/

namespace Sys2Proof.Machine

/-! ### The exact search (R42, R43) -/

/-- Numbers of coins, those of the lines that were not reached being 0. -/
def padded (order : List SearchLine) (ks : List Nat) : List Nat := ks ++ List.replicate (order.length - ks.length) 0

theorem padded_cons (t : SearchLine) (order : List SearchLine) (k : Nat) (ks : List Nat) :
    padded (t :: order) (k :: ks) = k :: padded order ks := by
  simp [padded]

theorem affordable_cons {t : SearchLine} {order : List SearchLine} {k : Nat} {ks : List Nat} :
    Affordable (t :: order) (k :: ks) ↔ k ≤ t.usable ∧ Affordable order ks := by
  constructor
  · rintro ⟨hlen, huse⟩
    exact ⟨huse 0 t k rfl rfl, Nat.succ.inj hlen, fun i l j hl hj => huse (i + 1) l j hl hj⟩
  · rintro ⟨hk, hlen, huse⟩
    refine ⟨congrArg Nat.succ hlen, fun i l j hl hj => ?_⟩
    cases i with
    | zero =>
      cases hl
      cases hj
      exact hk
    | succ i => exact huse i l j hl hj

theorem affordable_padded_nil (order : List SearchLine) : Affordable order (padded order []) := by
  refine ⟨by simp [padded], fun i l j _ hj => ?_⟩
  simp only [padded, List.nil_append] at hj
  obtain ⟨_, rfl⟩ := List.getElem?_eq_some_iff.1 hj
  rw [List.getElem_replicate]
  exact Nat.zero_le _

/-- One choice of coins is another, or has fewer coins of the first tube in which they differ. -/
def FewerFirst (js ks : List Nat) : Prop := js = ks ∨ ∃ i, js.take i = ks.take i ∧ js.getD i 0 < ks.getD i 0

theorem FewerFirst.cons {js ks : List Nat} (k : Nat) (h : FewerFirst js ks) : FewerFirst (k :: js) (k :: ks) := by
  obtain rfl | ⟨i, htake, hless⟩ := h
  · exact .inl rfl
  · exact .inr ⟨i + 1, by simp [htake], by simpa using hless⟩

/-- Tubes with positive values pay nothing only with no coins. -/
theorem eq_padded_nil_of_worth_eq_zero {order : List SearchLine} (hpos : ∀ l ∈ order, 0 < l.value) {js : List Nat}
    (hjs : Affordable order js) (h : worth order js = 0) : js = padded order [] := by
  induction order generalizing js with
  | nil => exact List.eq_nil_of_length_eq_zero hjs.1
  | cons t order ih =>
    cases js with
    | nil => exact absurd hjs.1 (by simp)
    | cons j js =>
      obtain ⟨ht, hrest⟩ := List.forall_mem_cons.1 hpos
      obtain ⟨-, hjs⟩ := affordable_cons.1 hjs
      rw [worth] at h
      have hj : j = 0 := by
        obtain h | h := Nat.mul_eq_zero.1 (Nat.eq_zero_of_add_eq_zero_right h) <;> omega
      rw [hj, ih hrest hjs (Nat.eq_zero_of_add_eq_zero_left h)]
      simp [padded, List.replicate_succ]

/-- A trial that finds a plan: the coins chosen pay all, or the next tubes pay the rest. -/
theorem trial_eq_found {next : Nat → Nat → Found} {value r k left : Nat} {ks : List Nat}
    (h : trial next value r k left = .found ks) :
    (r - k * value = 0 ∧ ks = [k]) ∨ ∃ js, r - k * value ≠ 0 ∧ next (r - k * value) left = .found js ∧ ks = k :: js := by
  unfold trial at h
  split at h
  case isTrue hzero =>
    cases h
    exact .inl ⟨hzero, rfl⟩
  case isFalse hpos =>
    cases hnext : next (r - k * value) left <;> rw [hnext] at h <;> cases h
    exact .inr ⟨_, hpos, rfl, rfl⟩

/-- A trial that fails: coins are left to pay, and the next tubes fail. -/
theorem trial_eq_failed {next : Nat → Nat → Found} {value r k left left' : Nat}
    (h : trial next value r k left = .failed left') :
    r - k * value ≠ 0 ∧ ∃ l, next (r - k * value) left = .failed l := by
  unfold trial at h
  split at h
  case isTrue => cases h
  case isFalse hpos =>
    cases hnext : next (r - k * value) left <;> rw [hnext] at h <;> cases h
    exact ⟨hpos, _, rfl⟩

/-- The trial with `k` coins fails, with some number of steps left before it. -/
def TrialFails (next : Nat → Nat → Found) (value r k : Nat) : Prop := ∃ left left', trial next value r k left = .failed left'

/-- Trials that find a plan find it in the first trial that does not fail, from the greatest number of coins down. -/
theorem trials_eq_found {next : Nat → Nat → Found} {value r k left : Nat} {ks : List Nat}
    (h : trials next value r k left = .found ks) :
    ∃ j left', j ≤ k ∧ trial next value r j left' = .found ks ∧ ∀ i, j < i → i ≤ k → TrialFails next value r i := by
  induction k generalizing left with
  | zero =>
    cases left with
    | zero => cases h
    | succ left => exact ⟨0, left, le_rfl, h, fun i h0 hi => absurd hi (Nat.not_le.2 h0)⟩
  | succ k ih =>
    cases left with
    | zero => cases h
    | succ left =>
      rw [trials] at h
      cases htrial : trial next value r (k + 1) left with
      | found js =>
        rw [htrial] at h
        exact ⟨k + 1, left, le_rfl, htrial.trans h, fun i hlow hhigh => absurd hhigh (Nat.not_le.2 hlow)⟩
      | failed left' =>
        rw [htrial] at h
        obtain ⟨j, l, hj, hfound, hfails⟩ := ih h
        refine ⟨j, l, hj.trans (Nat.le_succ k), hfound, fun i hlow hhigh => ?_⟩
        obtain rfl | hle := Nat.eq_or_lt_of_le hhigh
        · exact ⟨left, left', htrial⟩
        · exact hfails i hlow (Nat.le_of_lt_succ hle)
      | gaveUp =>
        rw [htrial] at h
        cases h

/-- Trials that fail have all failed. -/
theorem trials_eq_failed {next : Nat → Nat → Found} {value r k left l : Nat} (h : trials next value r k left = .failed l) :
    ∀ i, i ≤ k → TrialFails next value r i := by
  induction k generalizing left with
  | zero =>
    cases left with
    | zero => cases h
    | succ left => exact fun i hi => ⟨left, l, Nat.le_zero.1 hi ▸ h⟩
  | succ k ih =>
    cases left with
    | zero => cases h
    | succ left =>
      rw [trials] at h
      cases htrial : trial next value r (k + 1) left with
      | found js =>
        rw [htrial] at h
        cases h
      | failed left' =>
        rw [htrial] at h
        intro i hi
        obtain rfl | hle := Nat.eq_or_lt_of_le hi
        · exact ⟨left, left', htrial⟩
        · exact ih h i (Nat.le_of_lt_succ hle)
      | gaveUp =>
        rw [htrial] at h
        cases h

/-- A search that finds a plan pays the amount within what the tubes can give. -/
theorem searchFrom_sound {order : List SearchLine} {r left : Nat} {ks : List Nat} (h : searchFrom order r left = .found ks) :
    worth order ks = r ∧ ks.length ≤ order.length ∧ Affordable order (padded order ks) := by
  induction order generalizing r left ks with
  | nil => cases h
  | cons t order ih =>
    obtain ⟨k, l, hk, htrial, -⟩ := trials_eq_found h
    have huse : k ≤ t.usable := hk.trans (min_le_left _ _)
    have hfits : k * t.value ≤ r := (Nat.mul_le_mul_right _ (hk.trans (min_le_right _ _))).trans (Nat.div_mul_le_self _ _)
    obtain ⟨hzero, rfl⟩ | ⟨js, -, hnext, rfl⟩ := trial_eq_found htrial
    · refine ⟨?_, by simp, ?_⟩
      · have hnil : worth order [] = 0 := by cases order <;> rfl
        rw [worth, hnil]
        omega
      · rw [padded_cons]
        exact affordable_cons.2 ⟨huse, affordable_padded_nil order⟩
    · obtain ⟨hworth, hlen, hafford⟩ := ih hnext
      refine ⟨by rw [worth, hworth]; omega, Nat.succ_le_succ hlen, ?_⟩
      rw [padded_cons]
      exact affordable_cons.2 ⟨huse, hafford⟩

/-- An exact payment takes no more coins of the first tube than its trials begin with, unless its coins are worth nothing. -/
theorem coins_le_of_worth {t : SearchLine} {order : List SearchLine} {j r : Nat} {js : List Nat} (hpos : 0 < t.value)
    (huse : j ≤ t.usable) (h : worth (t :: order) (j :: js) = r) : j ≤ min t.usable (r / t.value) := by
  refine le_min huse ((Nat.le_div_iff_mul_le hpos).2 ?_)
  rw [worth] at h
  omega

/-- A search that fails shows that the tubes cannot pay the amount. -/
theorem searchFrom_complete {order : List SearchLine} {r left l : Nat} (hr : r ≠ 0)
    (h : searchFrom order r left = .failed l) {js : List Nat} (hjs : Affordable order js) : worth order js ≠ r := by
  induction order generalizing r left l js with
  | nil => exact fun hworth => hr hworth.symm
  | cons t order ih =>
    have hfails := trials_eq_failed h
    cases js with
    | nil => exact absurd hjs.1 (by simp)
    | cons j js =>
      obtain ⟨huse, hjs⟩ := affordable_cons.1 hjs
      intro hworth
      obtain hzero | hpos := Nat.eq_zero_or_pos t.value
      · obtain ⟨_, _, htrial⟩ := hfails 0 (Nat.zero_le _)
        obtain ⟨hne, _, hnext⟩ := trial_eq_failed htrial
        refine ih hne hnext hjs ?_
        rw [worth, hzero] at hworth
        omega
      · obtain ⟨_, _, htrial⟩ := hfails j (coins_le_of_worth hpos huse hworth)
        obtain ⟨hne, _, hnext⟩ := trial_eq_failed htrial
        refine ih hne hnext hjs ?_
        rw [worth] at hworth
        omega

/-- No exact payment takes more coins than the one found of the first tube in which the two differ. -/
theorem searchFrom_greatest {order : List SearchLine} (hvalues : ∀ l ∈ order, 0 < l.value) {r left : Nat} {ks : List Nat}
    (h : searchFrom order r left = .found ks) {js : List Nat} (hjs : Affordable order js) (hworth : worth order js = r) :
    FewerFirst js (padded order ks) := by
  induction order generalizing r left ks js with
  | nil => cases h
  | cons t order ih =>
    obtain ⟨ht, hrest⟩ := List.forall_mem_cons.1 hvalues
    obtain ⟨k, l, hk, htrial, hfails⟩ := trials_eq_found h
    cases js with
    | nil => exact absurd hjs.1 (by simp)
    | cons j js =>
      obtain ⟨huse, hjs⟩ := affordable_cons.1 hjs
      have hj := coins_le_of_worth ht huse hworth
      rw [worth] at hworth
      have hle : j ≤ k := by
        by_contra hgt
        obtain ⟨_, _, hfail⟩ := hfails j (Nat.not_le.1 hgt) hj
        obtain ⟨hne, _, hnext⟩ := trial_eq_failed hfail
        exact searchFrom_complete hne hnext hjs (by omega)
      obtain rfl | hlt := Nat.eq_or_lt_of_le hle
      · obtain ⟨hzero, rfl⟩ | ⟨is, -, hnext, rfl⟩ := trial_eq_found htrial
        · rw [padded_cons, eq_padded_nil_of_worth_eq_zero hrest hjs (by omega)]
          exact .inl rfl
        · rw [padded_cons]
          exact (ih hrest hnext hjs (by omega)).cons j
      · have hfirst : ∃ is, ks = k :: is := by
          obtain ⟨-, rfl⟩ | ⟨is, -, -, rfl⟩ := trial_eq_found htrial
          · exact ⟨_, rfl⟩
          · exact ⟨_, rfl⟩
        obtain ⟨is, rfl⟩ := hfirst
        rw [padded_cons]
        exact .inr ⟨0, rfl, hlt⟩

/-- Settles O22: with the amount 0 the empty plan, otherwise the search over the tubes. -/
theorem searchFindsGreatest : Obligations.SearchFindsGreatest := by
  constructor
  · intro order amount ks h
    unfold exactSearch at h
    split at h
    case isTrue hzero =>
      cases h
      have hnil : worth order [] = 0 := by cases order <;> rfl
      refine ⟨hnil.trans hzero.symm, Nat.zero_le _, affordable_padded_nil order, fun hvalues js hjs hworth => .inl ?_⟩
      exact eq_padded_nil_of_worth_eq_zero hvalues hjs (hworth.trans hzero)
    case isFalse =>
      obtain ⟨hworth, hlen, hafford⟩ := searchFrom_sound h
      exact ⟨hworth, hlen, hafford, fun hvalues js hjs hpays => searchFrom_greatest hvalues h hjs hpays⟩
  · intro order amount left h ks hks
    unfold exactSearch at h
    split at h
    case isTrue => cases h
    case isFalse hne => exact searchFrom_complete hne h hks

end Sys2Proof.Machine

/-! ## The end of an assurance evaluation (03, section 3.2) -/

namespace Sys2Proof.Machine

theorem foldl_push_congr {l l' : LinkUnit} (hn : l.notices = l'.notices) (hd : l.dropped = l'.dropped) (hf : l.floor = l'.floor)
    (ns : List Notice) :
    (ns.foldl LinkUnit.push l).notices = (ns.foldl LinkUnit.push l').notices
      ∧ (ns.foldl LinkUnit.push l).dropped = (ns.foldl LinkUnit.push l').dropped := by
  induction ns generalizing l l' with
  | nil => exact ⟨hn, hd⟩
  | cons n ns ih =>
    refine ih ?_ ?_ (by rw [LinkUnit.push_floor, LinkUnit.push_floor, hf])
    · rw [LinkUnit.push_notices, LinkUnit.push_notices, hn, hd, hf]
    · rw [LinkUnit.push_dropped, LinkUnit.push_dropped, hn, hd, hf]

theorem Heard.trans {s t u : State} {ns ms : List Notice} (h : Heard s t ns) (h' : Heard t u ms) : Heard s u (ns ++ ms) := by
  obtain ⟨⟨hn, hd⟩, hf⟩ := h
  obtain ⟨⟨hn', hd'⟩, hf'⟩ := h'
  obtain ⟨hnotices, hdropped⟩ := foldl_push_congr hn hd (hf.trans (foldl_push_floor s.link ns).symm) ms
  refine ⟨⟨?_, ?_⟩, hf'.trans hf⟩
  · rw [List.foldl_append, hn', hnotices]
  · rw [List.foldl_append, hd', hdropped]

/-- The first multiple of the Base Unit, from the `m`-th on, that is not exactly payable. -/
theorem firstShort_eq_some {order : List SearchLine} {u n m x : Nat} (h : firstShort order u n m = some x) :
    ∃ i, m ≤ i ∧ i < m + n ∧ payable order (i * u) = false ∧ x = i * u
      ∧ ∀ k, m ≤ k → k < i → payable order (k * u) = true := by
  induction n generalizing m with
  | zero => cases h
  | succ n ih =>
    rw [firstShort] at h
    split at h
    case isTrue hpays =>
      obtain ⟨i, hlow, hhigh, hfails, hx, hearlier⟩ := ih h
      refine ⟨i, by omega, by omega, hfails, hx, fun k hk hi => ?_⟩
      obtain rfl | hlt := Nat.eq_or_lt_of_le hk
      · exact hpays
      · exact hearlier k hlt hi
    case isFalse hfails =>
      cases h
      exact ⟨m, le_rfl, by omega, by simpa using hfails, rfl, fun k hk hi => absurd hi (Nat.not_lt.2 hk)⟩

theorem firstShort_eq_none {order : List SearchLine} {u n m : Nat} (h : firstShort order u n m = none) :
    ∀ i, m ≤ i → i < m + n → payable order (i * u) = true := by
  induction n generalizing m with
  | zero => exact fun i hlow hhigh => absurd hhigh (by omega)
  | succ n ih =>
    rw [firstShort] at h
    split at h
    case isFalse => cases h
    case isTrue hpays =>
      intro i hlow hhigh
      obtain rfl | hlt := Nat.eq_or_lt_of_le hlow
      · exact hpays
      · exact ih h i hlt (by omega)

/-- With a limit of 0 there is no multiple to pay. -/
theorem EvalInput.shortAmount_eq (e : EvalInput) : e.shortAmount = firstShort e.order e.baseUnit (e.limit / e.baseUnit) 1 := by
  unfold EvalInput.shortAmount
  split
  case isTrue h => rw [h, Nat.zero_div, firstShort]
  case isFalse => rfl

/-- The notice of a result that differs from the one stored (R48). -/
def State.exactNotices (s : State) (found : Option Nat) : List Notice :=
  if found.isNone = s.change.assured then [] else [s.notice .exactChange none [boolCode found.isNone, found.getD 0]]

theorem Heard.storeAssurance (s : State) (found : Option Nat) :
    Heard s (s.storeAssurance found) (s.exactNotices found) := by
  unfold State.storeAssurance State.exactNotices
  split
  case isTrue h =>
    rw [if_pos h.symm]
    exact (Heard.refl s).congr rfl rfl rfl
  case isFalse h =>
    rw [if_neg fun heq => h heq.symm]
    exact ((Heard.refl s).congr rfl rfl rfl).raise_at rfl _ _ _

theorem State.storeAssurance_result (s : State) (found : Option Nat) :
    (s.storeAssurance found).change.assured = found.isNone ∧ (s.storeAssurance found).change.short = found.getD 0
      ∧ (s.storeAssurance found).change.evaluating = s.change.evaluating
      ∧ (s.storeAssurance found).change.rerun = s.change.rerun := by
  unfold State.storeAssurance
  split <;> exact ⟨rfl, rfl, rfl, rfl⟩

theorem State.sameExcept_storeAssurance (s : State) (found : Option Nat) :
    SameExcept [.assurance, .notices] s (s.storeAssurance found) := by
  intro p hp
  cases p
  case assurance | notices => simp at hp
  all_goals simp [Part.same]

/-- A change of the assurance fields alone. -/
theorem sameExcept_modChange_assurance (s : State) (f : ChangeUnit → ChangeUnit)
    (hprice : (f s.change).maxPrice = s.change.maxPrice) (hseq : (f s.change).seq = s.change.seq)
    (hjob : (f s.change).job = s.change.job) (hdeferred : (f s.change).deferred = s.change.deferred)
    (hpulses : (f s.change).pulses = s.change.pulses) : SameExcept [.assurance] s (s.modChange f) := by
  intro p hp
  cases p
  case assurance => simp at hp
  case maxPrice => exact hprice
  case payout => exact ⟨hseq, hjob, hdeferred, hpulses⟩
  all_goals simp [Part.same]

/-- A result stored, and the evaluation over. -/
def State.evaluated (s : State) (found : Option Nat) : State :=
  (s.storeAssurance found).modChange fun c => { c with evaluating := none }

theorem State.sameExcept_evaluated (s : State) (found : Option Nat) :
    SameExcept [.assurance, .notices] s (s.evaluated found) :=
  ((s.sameExcept_storeAssurance found).trans (sameExcept_modChange_assurance _ _ rfl rfl rfl rfl rfl)).mono (by decide)

theorem Heard.evaluated (s : State) (found : Option Nat) : Heard s (s.evaluated found) (s.exactNotices found) :=
  (Heard.storeAssurance s found).congr rfl rfl rfl

theorem State.completeEvaluation_eq (s : State) (e : EvalInput) :
    s.completeEvaluation e =
      if s.change.rerun = true then ((s.evaluated e.shortAmount).modChange fun c => { c with rerun := false }).startEvaluation
      else s.evaluated e.shortAmount := by
  obtain ⟨-, -, -, hrerun⟩ := s.storeAssurance_result e.shortAmount
  rw [← hrerun]
  rfl

theorem State.tube_congr {s t : State} (h : t.tubes = s.tubes) : t.tube = s.tube := by
  funext n
  rw [State.tube, State.tube, h]

theorem State.tubeValue_congr {s t : State} (h : t.coin = s.coin) : t.tubeValue = s.tubeValue := by
  funext x
  simp only [State.tubeValue, State.coinEntry, h]

theorem State.searchOrder_congr {s t : State} (htubes : t.tubes = s.tubes) (hcoin : t.coin = s.coin) :
    t.searchOrder = s.searchOrder := by
  rw [State.searchOrder, State.searchOrder, State.tube_congr htubes, State.tubeValue_congr hcoin]

/-- An evaluation takes the tubes, the coin values and the policy as they stand (R46). -/
theorem State.evalInput_congr {s t : State} (htubes : t.tubes = s.tubes) (hcoin : t.coin = s.coin)
    (hpolicy : t.credit.policy = s.credit.policy) : t.evalInput = s.evalInput := by
  rw [State.evalInput, State.evalInput, State.searchOrder_congr htubes hcoin, hpolicy]

/-- What the end of the running evaluation leaves, before the end of its command. -/
structure Evaluated (s u : State) (found : Option Nat) : Prop where
  rerun : u.change.rerun = false
  same : SameExcept [.assurance, .notices] s u
  stored : s.change.rerun = false ∨ s.credit.policy.assuranceLimit ≠ 0 →
    u.change.assured = found.isNone ∧ u.change.short = found.getD 0 ∧ Heard s u (s.exactNotices found)
  finished : s.change.rerun = false → u.change.evaluating = none
  anew : s.change.rerun = true → s.credit.policy.assuranceLimit ≠ 0 → u.change.evaluating = some s.evalInput
  atOnce : s.change.rerun = true → s.credit.policy.assuranceLimit = 0 →
    u.change.assured = true ∧ u.change.short = 0 ∧ u.change.evaluating = none
      ∧ Heard s u (s.exactNotices found ++ if found.isNone = true then [] else [s.notice .exactChange none [boolCode true, 0]])

theorem State.evaluated_completeEvaluation (s : State) (e : EvalInput) :
    Evaluated s (s.completeEvaluation e) e.shortAmount := by
  rw [State.completeEvaluation_eq]
  generalize e.shortAmount = found
  obtain ⟨hassured, hshort, -, hrerun⟩ := s.storeAssurance_result found
  obtain ⟨v, hv⟩ : ∃ v, v = (s.evaluated found).modChange fun c => { c with rerun := false } := ⟨_, rfl⟩
  have hsame : SameExcept [.assurance, .notices] s v := by
    rw [hv]
    exact ((s.sameExcept_evaluated found).trans (sameExcept_modChange_assurance _ _ rfl rfl rfl rfl rfl)).mono (by decide)
  have hheard : Heard s v (s.exactNotices found) := by
    rw [hv]
    exact (Heard.evaluated s found).congr rfl rfl rfl
  have hpolicy : v.credit.policy = s.credit.policy := hsame .policy (by decide)
  by_cases hmark : s.change.rerun = true
  · rw [if_pos hmark, ← hv]
    have hnot : ¬ s.change.rerun = false := by simp [hmark]
    by_cases hlimit : s.credit.policy.assuranceLimit = 0
    · have hinput : v.evalInput.limit = 0 := by
        change v.credit.policy.assuranceLimit = 0
        rw [hpolicy, hlimit]
      obtain ⟨w, hw⟩ : ∃ w, w = v.modChange fun c => { c with evaluating := none } := ⟨_, rfl⟩
      have hstart : v.startEvaluation = w.storeAssurance none := by
        rw [hw]
        exact if_pos hinput
      obtain ⟨hassured', hshort', hevaluating', hrerun'⟩ := w.storeAssurance_result none
      have hwheard : Heard s w (s.exactNotices found) := by
        rw [hw]
        exact hheard.congr rfl rfl rfl
      have hwsame : SameExcept [.assurance, .notices] s w := by
        rw [hw]
        exact (hsame.trans (sameExcept_modChange_assurance _ _ rfl rfl rfl rfl rfl)).mono (by decide)
      have hnotices : w.exactNotices none =
          if found.isNone = true then [] else [s.notice .exactChange none [boolCode true, 0]] := by
        have hstored : w.change.assured = found.isNone := by
          rw [hw, hv]
          exact hassured
        have hnotice := State.notice_congr (hwsame .now (by decide)) .exactChange none [boolCode true, 0]
        unfold State.exactNotices
        rw [hstored, ← hnotice]
        cases found.isNone <;> rfl
      rw [hstart]
      exact {
        rerun := hrerun'.trans (by rw [hw, hv]; rfl)
        same := (hwsame.trans (w.sameExcept_storeAssurance none)).mono (by decide)
        stored := fun h => absurd hlimit (h.resolve_left hnot)
        finished := fun h => absurd h hnot
        anew := fun _ h => absurd hlimit h
        atOnce := fun _ _ => ⟨hassured', hshort', hevaluating'.trans (by rw [hw]; rfl),
          hnotices ▸ hwheard.trans (Heard.storeAssurance w none)⟩ }
    · have hinput : v.evalInput = s.evalInput :=
        State.evalInput_congr (hsame .tubes (by decide)) (hsame .coin (by decide)) hpolicy
      rw [State.startEvaluation_of_limit (by rw [hpolicy]; exact hlimit), hinput]
      exact {
        rerun := by rw [hv]; rfl
        same := (hsame.trans (sameExcept_modChange_assurance _ _ rfl rfl rfl rfl rfl)).mono (by decide)
        stored := fun _ => ⟨by rw [hv]; exact hassured, by rw [hv]; exact hshort, hheard.congr rfl rfl rfl⟩
        finished := fun h => absurd h hnot
        anew := fun _ _ => rfl
        atOnce := fun _ h => absurd h hlimit }
  · rw [if_neg hmark]
    have hfalse : s.change.rerun = false := by simpa using hmark
    exact {
      rerun := hrerun.trans hfalse
      same := s.sameExcept_evaluated found
      stored := fun _ => ⟨hassured, hshort, Heard.evaluated s found⟩
      finished := fun _ => rfl
      anew := fun h => absurd h hmark
      atOnce := fun h => absurd h hmark }

/-- Settles O21: what the evaluation finds, and then the end of the command. -/
theorem assuranceCompletes : Obligations.AssuranceCompletes := by
  refine ⟨fun s hnone => ?_, ?_⟩
  · change execAssuranceEvaluationComplete s = _
    rw [execAssuranceEvaluationComplete, hnone]
  · intro s e hrunning fails notice
    have hexec : exec .assuranceEvaluationComplete s = .next (s.completeEvaluation e).conclude := by
      change execAssuranceEvaluationComplete s = _
      rw [execAssuranceEvaluationComplete, hrunning]
      rfl
    obtain ⟨hrerun, hsame, hstored, hfinished, hanew, hatOnce⟩ := s.evaluated_completeEvaluation e
    have hconclude : ∀ ns, Reported s → Heard s (s.completeEvaluation e) ns → Raised s (s.completeEvaluation e).conclude ns :=
      fun ns hreported hheard => (hheard.conclude ((hsame .unreported (by decide)).trans hreported)).1
    refine ⟨e.shortAmount.isNone, e.shortAmount.getD 0, _, hexec, ?_, ?_, ?_, ?_, hsame.conclude.mono (by decide), fun h => ?_,
      fun h => ?_, fun h hlimit => ?_, fun h hlimit => ?_⟩
    · rw [EvalInput.shortAmount_eq]
      cases hshort : firstShort e.order e.baseUnit (e.limit / e.baseUnit) 1 with
      | none =>
        refine ⟨fun _ m ⟨hlow, hhigh, hfails⟩ => ?_, fun _ => rfl⟩
        rw [firstShort_eq_none hshort m hlow (by omega)] at hfails
        cases hfails
      | some x =>
        obtain ⟨i, hlow, hhigh, hfails, -, -⟩ := firstShort_eq_some hshort
        exact ⟨fun h => absurd h Bool.false_ne_true, fun h => absurd ⟨hlow, by omega, hfails⟩ (h i)⟩
    · intro h
      rw [Option.isNone_iff_eq_none.1 h]
      rfl
    · intro h
      rw [EvalInput.shortAmount_eq] at h ⊢
      cases hshort : firstShort e.order e.baseUnit (e.limit / e.baseUnit) 1 with
      | none =>
        rw [hshort] at h
        cases h
      | some x =>
        obtain ⟨i, hlow, hhigh, hfails, hx, hearlier⟩ := firstShort_eq_some hshort
        refine ⟨i, ⟨hlow, by omega, hfails⟩, hx, fun k hk ⟨hklow, _, hkfails⟩ => ?_⟩
        rw [hearlier k hklow hk] at hkfails
        cases hkfails
    · rw [State.conclude_change]
      exact hrerun
    · obtain ⟨hassured, hshort, hheard⟩ := hstored h
      rw [State.conclude_change]
      exact ⟨hassured, hshort, fun hreported => hconclude _ hreported hheard⟩
    · rw [State.conclude_change]
      exact hfinished h
    · rw [State.conclude_change]
      exact hanew h hlimit
    · obtain ⟨hassured, hshort, hevaluating, hheard⟩ := hatOnce h hlimit
      rw [State.conclude_change]
      exact ⟨hassured, hshort, hevaluating, fun hreported => hconclude _ hreported hheard⟩

end Sys2Proof.Machine

/-! ## Acts that lead to a state, the parts an operation touches, and claims -/

namespace Sys2Proof.Machine

/-! ### Acts that lead to a state -/

/-- The acts lead from `s` to `t` in at most `n` steps. -/
def Leads (n : Nat) (acts : List Act) (s t : State) : Prop := ∃ k, k ≤ n ∧ Runs k acts s t

theorem Leads.nil (s : State) : Leads 0 [] s s := ⟨0, le_rfl, .nil s⟩

theorem Leads.mono {m n : Nat} {acts : List Act} {s t : State} (h : Leads m acts s t) (hmn : m ≤ n) : Leads n acts s t := by
  obtain ⟨k, hk, hruns⟩ := h
  exact ⟨k, hk.trans hmn, hruns⟩

theorem Leads.append {m n : Nat} {as bs : List Act} {s u t : State} (ha : Leads m as s u) (hb : Leads n bs u t) :
    Leads (m + n) (as ++ bs) s t := by
  obtain ⟨j, hj, ha⟩ := ha
  obtain ⟨k, hk, hb⟩ := hb
  exact ⟨j + k, Nat.add_le_add hj hk, ha.append hb⟩

/-- The first act of a list, then the others. -/
theorem Leads.andThen {m n : Nat} {a : Act} {as : List Act} {s u t : State} (ha : Leads m [a] s u) (has : Leads n as u t) :
    Leads (m + n) (a :: as) s t := ha.append has

/-- An act, from which others follow. -/
theorem Leads.act {n : Nat} {a : Act} {new : List Act} {s u t : State} (h : perform a s = (u, new)) (hnew : Leads n new u t) :
    Leads (n + 1) [a] s t := by
  obtain ⟨k, hk, hnew⟩ := hnew
  exact ⟨k + 0 + 1, Nat.succ_le_succ hk, Runs.follow h hnew (.nil t)⟩

/-- An act from which nothing follows. -/
theorem Leads.done {a : Act} {s t : State} (h : perform a s = (t, [])) : Leads 1 [a] s t := Leads.act h (.nil t)

theorem Leads.run_eq {n : Nat} {acts : List Act} {s t : State} (h : Leads n acts s t) (hn : n ≤ 4096) :
    run s acts = t.conclude := by
  obtain ⟨k, hk, hruns⟩ := h
  exact hruns.run_eq (hk.trans hn)

theorem Leads.runDoing_eq {n : Nat} {d : Doing} {t : State} (h : Leads n d.2 d.1 t) (hn : n ≤ 4096) :
    runDoing d = t.conclude := h.run_eq hn

/-! ### The parts an operation leaves -/

section
variable (s : State)

theorem SameExcept.refl : SameExcept [] s s := fun p _ => by cases p <;> simp [Part.same]

theorem sameExcept_reach (t : Nat) : SameExcept [.now] s (s.reach t) := by
  intro p hp
  cases p
  case now => simp at hp
  all_goals simp [Part.same]

theorem sameExcept_raise (k : NoticeKind) (x : Option Nat) (vs : List Nat) : SameExcept [.notices] s (s.raise k x vs) := by
  intro p hp
  cases p
  case notices => simp at hp
  all_goals simp [Part.same]

theorem sameExcept_accept (q : Byte) (d : List Byte) : SameExcept [.replies] s (s.accept q d) := by
  intro p hp
  cases p
  case replies => simp at hp
  all_goals simp [Part.same]

theorem sameExcept_frameTaken : SameExcept [.receiver] s s.frameTaken := by
  intro p hp
  cases p
  case receiver => simp at hp
  all_goals simp [Part.same]

theorem sameExcept_modSession (f : Session → Session) : SameExcept [.session, .unreported] s (s.modSession f) := by
  intro p hp
  cases p
  case session | unreported => simp at hp
  all_goals simp [Part.same, State.modSession, State.modCash]

theorem sameExcept_carry (n : Nat) : SameExcept [.carried, .unreported] s (s.carry n) := by
  intro p hp
  cases p
  case carried | unreported => simp at hp
  all_goals simp [Part.same, State.carry, State.modCash]

theorem sameExcept_openCash : SameExcept [.session, .carried, .unreported] s s.openCash := by
  intro p hp
  cases p
  case session | carried | unreported => simp at hp
  all_goals simp [Part.same, State.openCash, State.modCash]

theorem sameExcept_appendSettlement (r : Settlement) : SameExcept [.settlements] s (s.appendSettlement r) := by
  intro p hp
  cases p
  case settlements => simp at hp
  all_goals simp [Part.same, State.appendSettlement]

theorem sameExcept_setJob (q : SeqState) (j : Option Job) : SameExcept [.payout] s (s.setJob q j) := by
  intro p hp
  cases p
  case payout => simp at hp
  all_goals simp [Part.same, State.setJob]

theorem sameExcept_pulse (n : Nat) (w : SeqState) : SameExcept [.payout] s (s.pulse n w) := by
  intro p hp
  cases p
  case payout => simp at hp
  all_goals simp [Part.same, State.pulse]

theorem sameExcept_repriceNow : SameExcept [.maxPrice] s s.repriceNow := by
  intro p hp
  cases p
  case maxPrice => simp at hp
  all_goals simp [Part.same, State.repriceNow]

theorem sameExcept_modSelection (n : Nat) (f : Selection → Selection) : SameExcept [.selections] s (s.modSelection n f) := by
  intro p hp
  cases p
  case selections => simp at hp
  all_goals simp [Part.same, State.modSelection]

theorem sameExcept_modSales {f : SalesUnit → SalesUnit} (h : (f s.sales).selections = s.sales.selections) :
    SameExcept [.vends] s (s.modSales f) := by
  intro p hp
  cases p
  case vends => simp at hp
  case selections => exact h
  all_goals simp [Part.same]

theorem sameExcept_modGroup (g : Group) (f : GroupRec → GroupRec) : SameExcept [.drive] s (s.modGroup g f) := by
  intro p hp
  cases p
  case drive => simp at hp
  all_goals cases g <;> simp [Part.same, State.modGroup]

theorem sameExcept_modPlant (f : PlantUnit → PlantUnit) : SameExcept [.plant] s (s.modPlant f) := by
  intro p hp
  cases p
  case plant => simp at hp
  all_goals simp [Part.same]

theorem sameExcept_modLoad (f : LoadUnit → LoadUnit) : SameExcept [.load] s (s.modLoad f) := by
  intro p hp
  cases p
  case load => simp at hp
  all_goals simp [Part.same]

theorem sameExcept_modBridge (f : BridgeUnit → BridgeUnit) : SameExcept [.bridge] s (s.modBridge f) := by
  intro p hp
  cases p
  case bridge => simp at hp
  all_goals simp [Part.same]

theorem sameExcept_fillSlot (n : Nat) (x : Command) : SameExcept [.bridge] s (s.fillSlot n x) := sameExcept_modBridge s _

theorem sameExcept_modTables (f : TablesUnit → TablesUnit) : SameExcept [.tables] s (s.modTables f) := by
  intro p hp
  cases p
  case tables => simp at hp
  all_goals simp [Part.same]

theorem sameExcept_lookForWork : SameExcept [.draws, .bridge] s s.lookForWork := by
  intro p hp
  rw [s.lookForWork_touches]
  cases p
  case draws | bridge => simp at hp
  all_goals simp [Part.same]

end

/-! ### Claims (R121, R122, R126) -/

/-- A claim granted as soon as it is placed. -/
def State.withGrant (s : State) (k : LoadKind) (o : Claimant) : State :=
  { s with load := { s.load with granted := s.load.granted ++ [grantNow s k o] } }

theorem State.decideHead_nil {s : State} (h : s.load.queue = []) : s.decideHead = (s, []) := by
  rw [State.decideHead, h]

/-- A grant decision with no claim waiting decides nothing. -/
theorem Leads.decide_nil {s : State} (h : s.load.queue = []) : Leads 1 [.decide] s s := .done (State.decideHead_nil h)

theorem LoadUnit.holds_eq_false {l : LoadUnit} {k : LoadKind} (hqueue : l.queue = []) (hgranted : ∀ g ∈ l.granted, g.kind ≠ k) :
    l.holds k = false := by
  rw [LoadUnit.holds, hqueue]
  simpa using hgranted

/-- A claim that fits is granted at once when nothing waits and none of its kind is granted. -/
theorem Leads.place {n : Nat} {s t : State} {k : LoadKind} {o : Claimant} (hwaits : NothingWaits s)
    (hnone : ∀ g ∈ s.load.granted, g.kind ≠ k) (hfits : s.load.drawn + s.load.table.units k ≤ s.load.table.budget)
    (hgrant : Leads n [.granted k o] (s.withGrant k o) t) (ht : t.load.queue = []) : Leads (n + 3) [.place k o] s t := by
  obtain ⟨hqueue, hheld⟩ := hwaits
  obtain ⟨u, hu⟩ : ∃ u, u = s.modLoad fun l => l.enter s.now k o := ⟨_, rfl⟩
  have hplace : perform (.place k o) s = (u, [.decide]) := by
    change s.placeClaim k o = _
    rw [State.placeClaim, if_neg (by simp [LoadUnit.holds_eq_false hqueue hnone]), hu]
  have hhead : u.load.queue =
      [{ kind := k, owner := o, units := s.load.table.units k, priority := k.priority, arrival := s.now }] := by
    rw [hu]
    change enqueue _ s.load.queue = _
    rw [hqueue]
    rfl
  have hdecide : perform .decide u = (s.withGrant k o, [.granted k o, .decide]) := by
    have hfits' : u.load.drawn + s.load.table.units k ≤ u.load.table.budget := by
      rw [hu]
      exact hfits
    change u.decideHead = _
    rw [State.decideHead, hhead]
    dsimp only
    rw [if_pos hfits', hu]
    simp only [State.withGrant, State.modLoad, LoadUnit.grant, LoadUnit.enter, hqueue]
    rfl
  exact .act hplace (.act hdecide (hgrant.andThen (.decide_nil ht)))

/-- The load without the granted claim of a kind and an owner. -/
def LoadUnit.released (l : LoadUnit) (k : LoadKind) (o : Claimant) : LoadUnit :=
  { l with granted := l.granted.filter fun g => !(g.kind = k && g.owner = o) }

theorem LoadUnit.letIn_of_held_nil {l : LoadUnit} (h : l.held = []) (now : Nat) (k : LoadKind) : l.letIn now k = l := by
  rw [LoadUnit.letIn, h]
  rfl

/-- A release with no claim waiting, before its decision. -/
theorem State.releaseClaim_quiet {s : State} (hwaits : NothingWaits s) (k : LoadKind) (o : Claimant) :
    ∃ acts, s.releaseClaim k o = ({ s with load := s.load.released k o }, acts) ∧ (acts = [] ∨ acts = [.decide]) := by
  obtain ⟨hqueue, hheld⟩ := hwaits
  by_cases hgranted : s.load.granted.any (fun g => g.kind = k && g.owner = o) = true
  · refine ⟨[.decide], ?_, .inr rfl⟩
    rw [State.releaseClaim, if_pos hgranted]
    have hletIn : (s.load.released k o).letIn s.now k = s.load.released k o := LoadUnit.letIn_of_held_nil (by exact hheld) s.now k
    exact congrArg (fun l => ({ s with load := l }, [Act.decide])) hletIn
  · have hsame : s.load.released k o = s.load := by
      have hall : ∀ g ∈ s.load.granted, (!(decide (g.kind = k) && decide (g.owner = o))) = true := by
        intro g hg
        by_contra hno
        exact hgranted (List.any_eq_true.2 ⟨g, hg, by simpa using hno⟩)
      rw [LoadUnit.released, List.filter_eq_self.2 hall]
    refine ⟨[], ?_, .inl rfl⟩
    rw [State.releaseClaim, if_neg hgranted, State.withdrawClaim, hqueue, hsame]
    simp only [List.any_nil, Bool.false_eq_true, if_false, State.modLoad, hheld, List.filter_nil]
    rw [← hheld]

/-- A release with no claim waiting. -/
theorem Leads.release {s : State} (hwaits : NothingWaits s) (k : LoadKind) (o : Claimant) :
    Leads 2 [.release k o] s { s with load := s.load.released k o } := by
  obtain ⟨acts, hrelease, rfl | rfl⟩ := State.releaseClaim_quiet hwaits k o
  · exact (Leads.done (a := .release k o) hrelease).mono (Nat.le_succ 1)
  · exact .act (a := .release k o) hrelease (.decide_nil hwaits.1)

/-- The only claim that waits, withdrawn. -/
theorem Leads.withdraw {s : State} {c : Claim} (hheld : s.load.held = []) (hqueue : s.load.queue = [c]) :
    Leads 2 [.withdraw c.kind c.owner] s { s with load := { s.load with queue := [] } } := by
  have hwithdraw : perform (.withdraw c.kind c.owner) s = ({ s with load := { s.load with queue := [] } }, [.decide]) := by
    change s.withdrawClaim c.kind c.owner = _
    rw [State.withdrawClaim, hqueue, if_pos (by simp)]
    simp only [State.modLoad]
    rw [LoadUnit.letIn_of_held_nil (by exact hheld)]
    simp [hqueue]
  exact .act hwithdraw (.decide_nil rfl)

end Sys2Proof.Machine

/-! ## Channels, and plans that can be paid from -/

namespace Sys2Proof.Machine

/-! ### A change of one channel -/

theorem State.channel_modChannel (s : State) (c n : Nat) (f : Channel → Channel) :
    (s.modChannel c f).channel n = if n = c ∧ n < s.bridge.channels.length then f (s.channel n) else s.channel n := by
  have hedit := editAt_getElem? f c n s.bridge.channels
  unfold State.channel State.modChannel
  simp only [State.modBridge_bridge, List.getD_eq_getElem?_getD, hedit]
  by_cases hn : n = c
  · by_cases hlt : n < s.bridge.channels.length
    · rw [if_pos hn, if_pos ⟨hn, hlt⟩, List.getElem?_eq_getElem hlt]
      rfl
    · rw [if_pos hn, if_neg fun h => hlt h.2, List.getElem?_eq_none (Nat.not_lt.1 hlt)]
      rfl
  · rw [if_neg hn, if_neg fun h => hn h.1]

theorem State.channel_modChannel_self {s : State} {n : Nat} (h : n < s.bridge.channels.length) (f : Channel → Channel) :
    (s.modChannel n f).channel n = f (s.channel n) := by
  rw [s.channel_modChannel, if_pos ⟨rfl, h⟩]

theorem State.channel_modChannel_of_ne {s : State} {c n : Nat} (h : n ≠ c) (f : Channel → Channel) :
    (s.modChannel c f).channel n = s.channel n := by
  rw [s.channel_modChannel, if_neg fun h' => h h'.1]

/-- A change of a channel that leaves a property leaves it of every channel. -/
theorem State.channel_modChannel_of {s : State} {c n : Nat} {f : Channel → Channel} {P : Channel → Prop}
    (hf : n = c → P (s.channel n) → P (f (s.channel n))) (h : P (s.channel n)) : P ((s.modChannel c f).channel n) := by
  rw [s.channel_modChannel]
  split
  case isTrue hn => exact hf hn.1 h
  case isFalse => exact h

theorem State.channel_of_bridge {s t : State} (h : t.bridge = s.bridge) (n : Nat) : t.channel n = s.channel n := by
  rw [State.channel, State.channel, h]

/-- The scheduler's look leaves the slots. -/
theorem State.lookForWork_slot (s : State) (n : Nat) : (s.lookForWork.channel n).slot = (s.channel n).slot := by
  unfold State.lookForWork
  split
  case h_1 =>
    split
    case h_1 m j _ =>
      exact State.channel_modChannel_of (s := s) (P := fun c => c.slot = (s.channel n).slot) (fun _ h => h) rfl
    case h_2 => rfl
  all_goals rfl

/-- A command that stands in a slot stays there at a hold's turn: the hold waits for an empty slot (R29). -/
theorem State.pumpNotes_slot {s : State} {n : Nat} {x : Command} (h : (s.channel n).slot = some x) :
    (s.pumpNotes.1.channel n).slot = some x := by
  have hfill : ∀ (m : Nat) (y : Command), ¬ (s.channel m).slot.isSome = true → ((s.fillSlot m y).channel n).slot = some x := by
    intro m y hempty
    refine State.channel_modChannel_of (P := fun c => c.slot = some x) (fun hn _ => ?_) h
    exact absurd (by rw [← hn, h]; rfl) hempty
  unfold State.pumpNotes
  split
  case h_1 => exact h
  case h_2 =>
    split
    case isTrue => exact h
    case isFalse hempty =>
      split
      case h_1 => exact hfill _ _ hempty
      case h_2 =>
        split
        case isTrue => exact hfill _ _ hempty
        case isFalse => exact h

theorem State.pumpCards_slot {s : State} {n : Nat} {x : Command} (h : (s.channel n).slot = some x) :
    (s.pumpCards.1.channel n).slot = some x := by
  unfold State.pumpCards
  split
  case isFalse => exact h
  case isTrue =>
    split
    case h_1 => exact h
    case h_2 =>
      split
      case isTrue => exact h
      case isFalse hempty =>
        refine State.channel_modChannel_of (s := s) (P := fun c => c.slot = some x) (fun hn _ => ?_) h
        exact absurd (by rw [← hn, h]; rfl) hempty

/-- The end of a command leaves a command in its slot. -/
theorem State.conclude_slot {s : State} {n : Nat} {x : Command} (h : (s.channel n).slot = some x) :
    (s.conclude.channel n).slot = some x := by
  have hmask : s.reportCredit.evaluateMask.bridge = s.bridge := by
    rw [State.evaluateMask_touches, State.reportCredit_touches]
  have hbefore : (s.reportCredit.evaluateMask.channel n).slot = some x := by
    rw [State.channel_of_bridge hmask, h]
  have hpumped := State.pumpCards_slot (State.pumpNotes_slot hbefore)
  unfold State.conclude
  dsimp only
  split
  · rw [State.lookForWork_slot]
    exact hpumped
  · exact hpumped

/-! ### A plan just made is not stale (R41, R42, R44, R52) -/

theorem mem_rankLine {l x : SearchLine} {xs : List SearchLine} (h : l ∈ rankLine x xs) : l = x ∨ l ∈ xs := by
  induction xs with
  | nil => simpa [rankLine] using h
  | cons y ys ih =>
    unfold rankLine at h
    split at h
    case isTrue => simpa using h
    case isFalse =>
      obtain rfl | h := List.mem_cons.1 h
      · exact .inr (List.mem_cons_self ..)
      · obtain rfl | h := ih h
        · exact .inl rfl
        · exact .inr (List.mem_cons_of_mem _ h)

theorem mem_foldl_rankLine {l : SearchLine} {xs order : List SearchLine}
    (h : l ∈ xs.foldl (fun order l => rankLine l order) order) : l ∈ order ∨ l ∈ xs := by
  induction xs generalizing order with
  | nil => exact .inl h
  | cons x xs ih =>
    obtain h | h := ih h
    · obtain rfl | h := mem_rankLine h
      · exact .inr (List.mem_cons_self ..)
      · exact .inl h
    · exact .inr (List.mem_cons_of_mem _ h)

/-- A line of the search order is a tube with usable coins, its value and their number. -/
theorem State.mem_searchOrder {s : State} {l : SearchLine} (h : l ∈ s.searchOrder) :
    l.value = s.tubeValue (s.tube l.tube) ∧ l.usable = (s.tube l.tube).usable ∧ 0 < l.usable := by
  obtain h | h := mem_foldl_rankLine h
  · cases h
  · obtain ⟨i, -, hi⟩ := List.mem_filterMap.1 h
    dsimp only at hi
    split at hi
    case isTrue husable =>
      cases hi
      exact ⟨rfl, rfl, husable⟩
    case isFalse => cases hi

theorem affordable_greedyCounts (order : List SearchLine) (r : Nat) : Affordable order (greedyCounts order r) := by
  induction order generalizing r with
  | nil => exact ⟨rfl, fun i l k h => by simp at h⟩
  | cons t order ih => exact affordable_cons.2 ⟨min_le_left _ _, ih _⟩

/-- The lines of a plan take their coins from the tubes of the order. -/
theorem mem_planOf {order : List SearchLine} {ks : List Nat} {l : PlanLine} (hks : Affordable order (padded order ks))
    (h : l ∈ planOf order ks) : ∃ t ∈ order, l.tube = t.tube ∧ l.value = t.value ∧ l.coins ≤ t.usable := by
  induction order generalizing ks with
  | nil => cases ks <;> cases h
  | cons t order ih =>
    cases ks with
    | nil => cases h
    | cons k ks =>
      rw [padded_cons] at hks
      obtain ⟨hk, hks⟩ := affordable_cons.1 hks
      have hrest : l ∈ planOf order ks → ∃ t' ∈ t :: order, l.tube = t'.tube ∧ l.value = t'.value ∧ l.coins ≤ t'.usable := by
        intro h
        obtain ⟨t', ht', hl⟩ := ih hks h
        exact ⟨t', List.mem_cons_of_mem _ ht', hl⟩
      rw [planOf] at h
      split at h
      case isTrue => exact hrest h
      case isFalse =>
        obtain rfl | h := List.mem_cons.1 h
        · exact ⟨t, List.mem_cons_self .., rfl, rfl, hk⟩
        · exact hrest h

theorem mem_planFor {order : List SearchLine} {amount : Nat} {l : PlanLine} (h : l ∈ planFor order amount) :
    ∃ t ∈ order, l.tube = t.tube ∧ l.value = t.value ∧ l.coins ≤ t.usable := by
  unfold planFor at h
  split at h
  case h_1 ks hfound =>
    obtain ⟨hfinds, -⟩ := searchFindsGreatest
    obtain ⟨-, -, hafford, -⟩ := hfinds order amount ks hfound
    exact mem_planOf hafford h
  case h_2 =>
    refine mem_planOf ?_ h
    have hlen := (affordable_greedyCounts order amount).1
    rw [padded, hlen, Nat.sub_self, List.replicate_zero, List.append_nil]
    exact affordable_greedyCounts order amount

/-- A line of a plan made from the tubes as they stand is not stale. -/
theorem State.stale_of_planFor {s : State} {amount : Nat} {l : PlanLine} (h : l ∈ planFor s.searchOrder amount) :
    s.stale l = false := by
  obtain ⟨t, ht, htube, hvalue, hcoins⟩ := mem_planFor h
  obtain ⟨hworth, husable, hsome⟩ := State.mem_searchOrder ht
  rw [← htube] at hworth husable
  have hstate : (s.tube l.tube).state ≠ .jammed ∧ (s.tube l.tube).state ≠ .absent := by
    constructor
    all_goals
      intro hstate
      simp only [Tube.usable, hstate] at husable
      omega
  simp [State.stale, hstate, hvalue, hworth, ← husable, hcoins]

/-- The plan in hand is paid from while it is not stale. -/
theorem State.freshPlan_planFor (s : State) (amount remaining : Nat) :
    s.freshPlan remaining (planFor s.searchOrder amount) = planFor s.searchOrder amount := by
  cases hplan : planFor s.searchOrder amount with
  | nil => rfl
  | cons l ls =>
    have hfresh : s.stale l = false := State.stale_of_planFor (hplan ▸ List.mem_cons_self ..)
    simp [State.freshPlan, hfresh]

theorem State.freshPlan_congr {s t : State} (htubes : t.tubes = s.tubes) (hcoin : t.coin = s.coin) (remaining : Nat)
    (plan : List PlanLine) : t.freshPlan remaining plan = s.freshPlan remaining plan := by
  have hstale : t.stale = s.stale := by
    funext l
    rw [State.stale, State.stale, State.tube_congr htubes, State.tubeValue_congr hcoin]
  cases plan with
  | nil => rfl
  | cons l ls =>
    rw [State.freshPlan, State.freshPlan, hstale, State.searchOrder_congr htubes hcoin]

end Sys2Proof.Machine

/-! ## The payout run and the closes of a session (02, sections 2.7 to 2.9; 03, section 3.4) -/

namespace Sys2Proof.Machine

/-! ### A payout run begins, or ends (R51, R52, R56) -/

/-- A PAYOUT claim is granted as soon as it is placed (R121, R122). -/
structure GrantsPayout (s : State) : Prop where
  waits : NothingWaits s
  none : ∀ g ∈ s.load.granted, g.kind ≠ .payout
  fits : s.load.drawn + s.load.table.payout ≤ s.load.table.budget

/-- A payout run that has begun: its claim granted, and the solenoid of its first tube pulsed. -/
def State.runStarted (s : State) (amount : Nat) (plan : List PlanLine) (tube : Nat) : State :=
  { s with
    change :=
      { s.change with
        seq := .firstWait tube s.now
        job := some (.payout amount amount plan)
        pulses := editAt (· + 1) (tube - 1) s.change.pulses }
    load := { s.load with granted := s.load.granted ++ [grantNow s .payout .change] } }

/-- The next coin of a payout run whose plan is not stale. -/
theorem Leads.nextCoin {s : State} {due remaining : Nat} {l : PlanLine} {ls plan : List PlanLine}
    (hjob : s.change.job = some (.payout due remaining plan)) (hplan : s.freshPlan remaining plan = l :: ls) :
    Leads 1 [.nextCoin] s
      ((s.setJob s.change.seq (some (.payout due remaining (l :: ls)))).pulse l.tube (.firstWait l.tube s.now)) := by
  refine .done ?_
  change s.payNext = _
  rw [State.payNext, hjob]
  simp only [hplan]

theorem Leads.startRun {s : State} {amount : Nat} {l : PlanLine} {ls : List PlanLine} (hgrants : GrantsPayout s)
    (hplan : planFor s.searchOrder amount = l :: ls) :
    Leads 6 [.startRun amount] s (s.runStarted amount (l :: ls) l.tube) := by
  obtain ⟨u, hu⟩ : ∃ u, u = s.setJob .claimWait (some (.payout amount amount (l :: ls))) := ⟨_, rfl⟩
  have hbegin : perform (.startRun amount) s = (u, [.place .payout .change]) := by
    change s.beginRun amount = _
    rw [State.beginRun, hplan, hu]
    rfl
  have hfresh : (u.withGrant .payout .change).freshPlan amount (l :: ls) = l :: ls := by
    rw [State.freshPlan_congr (s := s) (by rw [hu]; rfl) (by rw [hu]; rfl), ← hplan, State.freshPlan_planFor]
  have hcoin := Leads.nextCoin (s := u.withGrant .payout .change) (due := amount) (by rw [hu]; rfl) hfresh
  have hgranted : Leads 2 [.granted .payout .change] (u.withGrant .payout .change) _ :=
    .act (new := [.nextCoin]) (by rfl) hcoin
  have hplaced := Leads.place (s := u) (by rw [hu]; exact hgrants.waits) (by rw [hu]; exact hgrants.none)
    (by rw [hu]; exact hgrants.fits) hgranted (by rw [hu]; exact hgrants.waits.1)
  have htarget : (((u.withGrant .payout .change).setJob (u.withGrant .payout .change).change.seq
      (some (.payout amount amount (l :: ls)))).pulse l.tube (.firstWait l.tube (u.withGrant .payout .change).now))
      = s.runStarted amount (l :: ls) l.tube := by
    rw [hu]
    rfl
  exact htarget ▸ .act hbegin hplaced

/-- A cash close over, with its remainder (R35). -/
def State.cashClosed (s : State) (remainder : Nat) : State := (s.endCash remainder).1

theorem Leads.applyPending {s : State} (h : NothingPending s) : Leads 1 [.applyPending] s s := by
  refine .done ?_
  change s.applyPendingLoad = _
  unfold State.applyPendingLoad
  split
  case h_1 b hb => exact absurd hb (h b)
  case h_2 => rfl
  case h_3 => rfl

theorem State.cashClosed_tables (s : State) (r : Nat) : (s.cashClosed r).tables = s.tables := by
  unfold State.cashClosed State.endCash
  split <;> rfl

theorem Leads.closeCash {s : State} (h : NothingPending s) (r : Nat) : Leads 2 [.closeCash r] s (s.cashClosed r) :=
  .act (new := [.applyPending]) (by rfl) (.applyPending fun b => by rw [s.cashClosed_tables]; exact h b)

/-- A payout run over, its claim released before (R56). -/
def State.runOver (s : State) (due remaining : Nat) : State :=
  ((if remaining = 0 then s else s.raise .changeShort none [remaining, due]).setJob .idle none).cashClosed remaining

theorem Leads.runEnded {s : State} {due remaining : Nat} {plan : List PlanLine} (hpending : NothingPending s)
    (hjob : s.change.job = some (.payout due remaining plan)) : Leads 3 [.runEnded] s (s.runOver due remaining) := by
  have hclose : perform .runEnded s =
      ((if remaining = 0 then s else s.raise .changeShort none [remaining, due]).setJob .idle none, [.closeCash remaining]) := by
    change s.closeRun = _
    rw [State.closeRun, hjob]
  exact .act hclose (.closeCash (by split <;> exact hpending) remaining)

theorem Leads.endRun {s : State} {due remaining : Nat} {plan : List PlanLine} (hwaits : NothingWaits s)
    (hpending : NothingPending s) (hjob : s.change.job = some (.payout due remaining plan)) :
    Leads 5 endRun s (State.runOver { s with load := s.load.released .payout .change } due remaining) :=
  (Leads.release hwaits .payout .change).andThen (.runEnded hpending hjob)

theorem LoadUnit.released_of_none {l : LoadUnit} {k : LoadKind} (h : ∀ g ∈ l.granted, g.kind ≠ k) (o : Claimant) :
    l.released k o = l := by
  rw [LoadUnit.released, List.filter_eq_self.2 fun g hg => by simp [h g hg]]

/-- A run whose plan holds no coin ends at once (R51). -/
theorem Leads.startRun_nil {s : State} {amount : Nat} (hwaits : NothingWaits s) (hpending : NothingPending s)
    (hnone : ∀ g ∈ s.load.granted, g.kind ≠ .payout) (hplan : planFor s.searchOrder amount = []) :
    Leads 6 [.startRun amount] s ((s.setJob .claimWait (some (.payout amount amount []))).runOver amount amount) := by
  obtain ⟨u, hu⟩ : ∃ u, u = s.setJob .claimWait (some (.payout amount amount [])) := ⟨_, rfl⟩
  have hbegin : perform (.startRun amount) s = (u, Sys2Proof.Machine.endRun) := by
    change s.beginRun amount = _
    rw [State.beginRun, hplan, hu]
    rfl
  have hload : u.load.released .payout .change = u.load := LoadUnit.released_of_none (by rw [hu]; exact hnone) .change
  have hend := Leads.endRun (s := u) (by rw [hu]; exact hwaits) (by rw [hu]; exact hpending) (by rw [hu]; rfl)
  rw [hload] at hend
  rw [← hu]
  exact .act hbegin hend

/-! ### A close completes (R35, R36, R51) -/

/-- The session in PAYOUT, the change due handed over. -/
def State.inPayout (s : State) : State := s.modSession fun x => { x with state := .payout }

theorem State.finishClose_cash {s : State} (hcard : s.credit.session.card = none) (hdue : s.credit.session.cashCredit ≠ 0) :
    s.finishClose = (s.inPayout, [.handOver s.credit.session.cashCredit]) := by
  rw [State.finishClose, hcard]
  exact if_neg hdue

theorem Leads.completeClose_nothing {s : State} (hcard : s.credit.session.card = none)
    (hdue : s.credit.session.cashCredit = 0) (hpending : NothingPending s) :
    Leads 3 [.completeClose] s (s.cashClosed 0) := by
  have hfinish : perform .completeClose s = (s, [.closeCash 0]) := by
    change s.finishClose = _
    rw [State.finishClose, hcard]
    exact if_pos hdue
  exact .act hfinish (.closeCash hpending 0)

theorem Leads.handOver_idle {n : Nat} {s t : State} {amount : Nat} (hseq : s.change.seq = .idle)
    (h : Leads n [.startRun amount] s t) : Leads (n + 1) [.handOver amount] s t := by
  refine .act ?_ h
  change s.takeHandOver amount = _
  rw [State.takeHandOver, hseq]

theorem Leads.completeClose_pays {s : State} {l : PlanLine} {ls : List PlanLine} (hcard : s.credit.session.card = none)
    (hdue : s.credit.session.cashCredit ≠ 0) (hseq : s.change.seq = .idle) (hgrants : GrantsPayout s)
    (hplan : planFor s.searchOrder s.credit.session.cashCredit = l :: ls) :
    Leads 8 [.completeClose] s (s.inPayout.runStarted s.credit.session.cashCredit (l :: ls) l.tube) :=
  .act (State.finishClose_cash hcard hdue)
    (.handOver_idle hseq (.startRun ⟨hgrants.waits, hgrants.none, hgrants.fits⟩ hplan))

theorem Leads.completeClose_short {s : State} (hcard : s.credit.session.card = none)
    (hdue : s.credit.session.cashCredit ≠ 0) (hseq : s.change.seq = .idle) (hwaits : NothingWaits s)
    (hnone : ∀ g ∈ s.load.granted, g.kind ≠ .payout) (hpending : NothingPending s)
    (hplan : planFor s.searchOrder s.credit.session.cashCredit = []) :
    Leads 8 [.completeClose] s
      ((s.inPayout.setJob .claimWait
        (some (.payout s.credit.session.cashCredit s.credit.session.cashCredit []))).runOver s.credit.session.cashCredit
          s.credit.session.cashCredit) :=
  .act (State.finishClose_cash hcard hdue) (.handOver_idle hseq (.startRun_nil hwaits hpending hnone hplan))

/-- While the sequencer is at work the change due is deferred (R51). -/
theorem Leads.completeClose_defers {s : State} (hcard : s.credit.session.card = none)
    (hdue : s.credit.session.cashCredit ≠ 0) (hseq : s.change.seq ≠ .idle) :
    Leads 2 [.completeClose] s
      (s.inPayout.modChange fun c => { c with deferred := some s.credit.session.cashCredit }) := by
  refine .act (State.finishClose_cash hcard hdue) (.done ?_)
  change s.inPayout.takeHandOver s.credit.session.cashCredit = _
  unfold State.takeHandOver
  split
  case h_1 h => exact absurd h hseq
  all_goals rfl

/-- A card session settled into its channel's slot, with the scheduler's look, or onto the list (R36). -/
def State.cardClosed (s : State) (c : Card) : State :=
  if s.settlesAtOnce c.channel then (s.settleCard s.credit.session c).1.lookForWork
  else (s.settleCard s.credit.session c).1

theorem Leads.completeClose_card {s : State} {c : Card} (hcard : s.credit.session.card = some c)
    (hpending : NothingPending s) : Leads 3 [.completeClose] s (s.cardClosed c) := by
  have hfinish : perform .completeClose s =
      ((s.settleCard s.credit.session c).1,
        .applyPending :: if s.settlesAtOnce c.channel then [.look] else []) := by
    change s.finishClose = _
    rw [State.finishClose, hcard]
    rfl
  have hkeeps : NothingPending (s.settleCard s.credit.session c).1 := by
    intro b
    rw [s.settleCard_touches s.credit.session c]
    exact hpending b
  refine (Leads.act hfinish ((Leads.applyPending hkeeps).andThen ?_)).mono (le_refl (1 + 1 + 1))
  unfold State.cardClosed
  split
  · exact .done rfl
  · exact (Leads.nil _).mono (Nat.zero_le 1)

/-! ### A close request without vends (R31) -/

theorem State.endTogether_nil (s : State) (d : Bool) : s.endTogether [] d = (s, []) := by
  have hvends : s.sales.vends.map (fun v => v.endedBy []) = s.sales.vends := List.map_id _
  unfold State.endTogether
  simp only [State.dropVendClaims, State.modSales, hvends]
  rfl

theorem Leads.closeRest {n : Nat} {s t : State} (hopen : s.credit.session.state = .opened) (hvends : s.sales.vends = [])
    (h : Leads n [.completeClose] s t) : Leads (n + 1) [.closeRest] s t := by
  refine .act ?_ h
  change s.goOnClosing = _
  rw [State.goOnClosing, if_pos hopen, hvends]
  rfl

theorem Leads.closeRequest {n : Nat} {s t : State} (hopen : s.credit.session.state = .opened) (hvends : s.sales.vends = [])
    (h : Leads n [.completeClose] s t) : Leads (n + 3) [.closeRequest] s t := by
  have hrequest : perform .closeRequest s = (s, [.endVends [] false, .closeRest]) := by
    change s.requestClose = _
    rw [State.requestClose, hopen]
    simp only [State.ending, hvends]
    rfl
  exact (Leads.act hrequest ((Leads.done (a := .endVends [] false) (s.endTogether_nil false)).andThen (.closeRest hopen hvends h))).mono (by omega)

end Sys2Proof.Machine

/-! ## What a close leaves (O18 to O20) -/

namespace Sys2Proof.Machine

/-! ### The end of a cash close -/

theorem State.cashClosed_credit (s : State) (r : Nat) :
    (s.cashClosed r).credit =
      { s.credit with
        session := .reset, carried := if r = 0 then s.credit.carried else min 20000 (s.credit.carried + r), changed := true } := by
  unfold State.cashClosed State.endCash
  split <;> rfl

theorem State.creditValues_of_reset {s : State} (h : s.credit.session = .reset) :
    s.creditValues = [0, 0, 0, 0, s.credit.carried] := by
  simp only [State.creditValues, h]
  rfl

/-- SESSION_CLOSED of a cash session with its remainder (R38). -/
def State.sessionClosed (s : State) (r : Nat) : Notice :=
  s.notice .sessionClosed none
    [s.credit.session.carriedIn, s.credit.session.coinIn, s.credit.session.noteIn, s.credit.session.charged,
      s.credit.session.changePaid, r]

theorem Heard.cashClosed (s : State) (r : Nat) : Heard s (s.cashClosed r) [s.sessionClosed r] := by
  unfold State.cashClosed State.endCash
  split
  · exact ((Heard.refl s).raise _ _ _).congr rfl rfl rfl
  · exact (((Heard.refl s).congr (t := s.carry r) rfl rfl rfl).raise _ _ _).congr rfl rfl rfl

theorem State.sameExcept_cashClosed (s : State) (r : Nat) :
    SameExcept [.session, .carried, .unreported, .notices] s (s.cashClosed r) := by
  unfold State.cashClosed State.endCash
  split
  · exact ((sameExcept_raise s _ _ _).trans (sameExcept_modSession _ _)).mono (by decide)
  · exact (((sameExcept_carry s r).trans (sameExcept_raise _ _ _ _)).trans (sameExcept_modSession _ _)).mono (by decide)

theorem State.sameExcept_cashClosed_zero (s : State) : SameExcept [.session, .unreported, .notices] s (s.cashClosed 0) :=
  ((sameExcept_raise s _ _ _).trans (sameExcept_modSession _ _)).mono (by decide)

/-- The notices of a command that ends with the session's record cleared, its CREDIT_CHANGED last. -/
theorem Heard.conclude_reset {s u : State} {ns : List Notice} (h : Heard s u ns) (hnow : u.now = s.now)
    (hchanged : u.credit.changed = true) (hreset : u.credit.session = .reset) :
    Heard s u.conclude (ns ++ [s.notice .creditChanged none [0, 0, 0, 0, u.credit.carried]]) := by
  have hconclude := h.conclude_changed hchanged
  rwa [State.creditValues_of_reset hreset, State.notice_congr hnow] at hconclude

/-! ### The commands that request a close (R32, R33) -/

theorem exec_endSession_of_leads {n : Nat} {s t : State} {q : Byte} (p : List Byte) (hopen : s.credit.session.state = .opened)
    (h : Leads n [.closeRequest] s.frameTaken t) (hn : n ≤ 4095) :
    exec (.endSession q p) s = .next (t.accept q [u8 t.credit.session.state.code]).conclude := by
  have hrun := (h.andThen (.done (a := .replySession q) (t := t.accept q [u8 t.credit.session.state.code]) rfl)).run_eq
    (Nat.succ_le_succ hn)
  change execEndSession q p s = _
  rw [← hrun]
  unfold execEndSession
  dsimp only
  rw [State.frameTaken_credit, hopen]

theorem exec_coinReturn_of_leads {n : Nat} {s t : State} (hmode : s.tables.mode ≠ .config)
    (hopen : s.credit.session.state = .opened) (hcash : s.credit.session.funding = .cash) (h : Leads n [.closeRequest] s t)
    (hn : n ≤ 4096) : exec .coinReturn s = .next t.conclude := by
  change execCoinReturn s = _
  rw [execCoinReturn, if_neg hmode, hopen, hcash, ← h.run_eq hn]
  rfl

/-- A request whose frame has been taken, and its answer behind what it has brought about. -/
theorem answered_keeps {s u : State} {ps : List Part} {ns : List Notice} (hsame : SameExcept ps s.frameTaken u)
    (hheard : Heard s.frameTaken u ns) (hreplies : .replies ∉ ps) (q : Byte) (d : List Byte) :
    SameExcept ([.receiver] ++ ps ++ [.replies]) s (u.accept q d) ∧ Heard s (u.accept q d) ns
      ∧ (u.accept q d).link.sent = s.link.sent ++ [replyFrame 0 q 0 0 d] := by
  refine ⟨((sameExcept_frameTaken s).trans hsame).trans (sameExcept_accept u q d), ?_, ?_⟩
  · have htaken : Heard s s.frameTaken [] := (Heard.refl s).congr rfl rfl rfl
    exact (htaken.trans hheard).congr rfl rfl rfl
  · change u.link.sent ++ _ = _
    rw [hsame .replies hreplies]
    rfl

/-- A payout run over leaves sequencer and job empty. -/
theorem State.runOver_change (s : State) (due r : Nat) :
    (s.runOver due r).change = { s.change with seq := .idle, job := none } := by
  unfold State.runOver State.cashClosed State.endCash
  split <;> rfl

/-- CHANGE_SHORT of a run that ends with a remainder, and SESSION_CLOSED (R56, R38). -/
def State.runNotices (s : State) (due r : Nat) : List Notice :=
  (if r = 0 then [] else [s.notice .changeShort none [r, due]]) ++ [s.sessionClosed r]

theorem Heard.runOver (s : State) (due r : Nat) : Heard s (s.runOver due r) (s.runNotices due r) := by
  unfold State.runOver State.runNotices
  split
  · exact ((Heard.refl s).congr (t := s.setJob .idle none) rfl rfl rfl).trans (Heard.cashClosed _ r)
  · refine Heard.trans (t := (s.raise .changeShort none [r, due]).setJob .idle none) ?_ (Heard.cashClosed _ r)
    exact ((Heard.refl s).raise _ _ _).congr rfl rfl rfl

theorem State.runOver_credit (s : State) (due r : Nat) :
    (s.runOver due r).credit =
      { s.credit with
        session := .reset, carried := if r = 0 then s.credit.carried else min 20000 (s.credit.carried + r), changed := true } := by
  unfold State.runOver
  rw [State.cashClosed_credit]
  split <;> rfl

theorem State.sameExcept_runOver (s : State) (due r : Nat) :
    SameExcept [.session, .carried, .unreported, .notices, .payout] s (s.runOver due r) := by
  unfold State.runOver
  split
  · exact ((sameExcept_setJob s _ _).trans (State.sameExcept_cashClosed _ _)).mono (by decide)
  · exact (((sameExcept_raise s _ _ _).trans (sameExcept_setJob _ _ _)).trans (State.sameExcept_cashClosed _ _)).mono (by decide)

/-- A part that a step leaves is one less. -/
theorem SameExcept.erase {ps : List Part} {s t : State} (h : SameExcept ps s t) {p : Part} (hp : p.same s t) :
    SameExcept (ps.filter (· ≠ p)) s t := by
  intro q hq
  by_cases heq : q = p
  · exact heq ▸ hp
  · exact h q fun hmem => hq (List.mem_filter.2 ⟨hmem, by simpa using heq⟩)

/-- Settles O18: the close that owes nothing, and the run whose plan holds no coin. -/
theorem cashCloseUnpaid : Obligations.CashCloseUnpaid := by
  constructor
  · intro s q p hopen hcard hdue hvends hpending x raised
    have hleads : ∀ v : State, v.credit = s.credit → v.sales = s.sales → v.tables = s.tables →
        Leads 6 [.closeRequest] v (v.cashClosed 0) := by
      intro v hcredit hsales htables
      refine .closeRequest (by rw [hcredit, hopen]) (by rw [hsales, hvends]) (.completeClose_nothing ?_ ?_ ?_)
      · rw [hcredit, hcard]
      · rw [hcredit, hdue]
      · intro b
        rw [htables]
        exact hpending b
    constructor
    · have hcredit := s.frameTaken.cashClosed_credit 0
      obtain ⟨hsame, hheard, hsent⟩ :=
        answered_keeps s.frameTaken.sameExcept_cashClosed_zero (Heard.cashClosed s.frameTaken 0) (by decide) q [0]
      refine ⟨_, (exec_endSession_of_leads p hopen (hleads _ rfl rfl rfl) (by decide)).trans ?_, ?_, ?_, ?_,
        hsame.conclude.mono (by decide)⟩
      · rw [hcredit]
        rfl
      · rw [State.conclude_session, State.accept_credit, hcredit]
      · have hend := hheard.conclude_reset (hsame .now (by decide)) (by rw [State.accept_credit, hcredit])
          (by rw [State.accept_credit, hcredit])
        rw [show ((s.frameTaken.cashClosed 0).accept q [0]).credit.carried = s.credit.carried from
          hsame .carried (by decide)] at hend
        exact hend.1
      · rw [State.conclude_sent, hsent]
    · intro hmode hcash
      have hcredit := s.cashClosed_credit 0
      have hsame := s.sameExcept_cashClosed_zero
      refine ⟨_, exec_coinReturn_of_leads hmode hopen hcash (hleads s rfl rfl rfl) (by decide), ?_, ?_,
        hsame.conclude.mono (by decide)⟩
      · rw [State.conclude_session, hcredit]
      · have hend := (Heard.cashClosed s 0).conclude_reset (hsame .now (by decide)) (by rw [hcredit]) (by rw [hcredit])
        rw [show (s.cashClosed 0).credit.carried = s.credit.carried from hsame .carried (by decide)] at hend
        exact hend.1
  · intro s q p hopen hcard hdue hvends hseq hjob hwaits hnone hpending hplan x due
    obtain ⟨v, hv⟩ : ∃ v, v = s.frameTaken.inPayout.setJob .claimWait (some (.payout due due [])) := ⟨_, rfl⟩
    have hleads : Leads 11 [.closeRequest] s.frameTaken (v.runOver due due) := by
      rw [hv]
      exact .closeRequest hopen hvends (.completeClose_short hcard hdue hseq hwaits hnone hpending hplan)
    have hcredit := v.runOver_credit due due
    rw [if_neg hdue] at hcredit
    have hbefore : SameExcept [.session, .unreported, .payout] s.frameTaken v := by
      rw [hv]
      exact (sameExcept_modSession _ _).trans (sameExcept_setJob _ _ _)
    have hsameRun : SameExcept [.session, .carried, .unreported, .notices] s.frameTaken (v.runOver due due) := by
      have hpayout : Part.payout.same s.frameTaken (v.runOver due due) := by
        simp only [Part.same, State.runOver_change, hv]
        exact ⟨hseq.symm, hjob.symm, rfl, rfl⟩
      exact ((hbefore.trans (v.sameExcept_runOver due due)).erase hpayout).mono (by decide)
    have hheardRun : Heard s.frameTaken (v.runOver due due)
        [s.notice .changeShort none [due, due],
          s.notice .sessionClosed none [x.carriedIn, x.coinIn, x.noteIn, x.charged, x.changePaid, due]] := by
      have hnotices : v.runNotices due due = [s.notice .changeShort none [due, due],
          s.notice .sessionClosed none [x.carriedIn, x.coinIn, x.noteIn, x.charged, x.changePaid, due]] := by
        rw [State.runNotices, if_neg hdue, hv]
        rfl
      have hheard : Heard s.frameTaken v [] := by
        rw [hv]
        exact (Heard.refl _).congr rfl rfl rfl
      exact hnotices ▸ hheard.trans (Heard.runOver v due due)
    obtain ⟨hsame, hheard, hsent⟩ := answered_keeps hsameRun hheardRun (by decide) q [0]
    have hcarried : v.credit.carried = s.credit.carried := hbefore .carried (by decide)
    refine ⟨_, (exec_endSession_of_leads p hopen hleads (by decide)).trans ?_, ?_, ?_, ?_, ?_,
      hsame.conclude.mono (by decide)⟩
    · rw [hcredit]
      rfl
    · rw [State.conclude_session, State.accept_credit, hcredit]
    · rw [State.conclude_carried, State.accept_credit, hcredit, hcarried]
    · have hend := hheard.conclude_reset (hsame .now (by decide)) (by rw [State.accept_credit, hcredit])
        (by rw [State.accept_credit, hcredit])
      rw [State.conclude_carried]
      exact hend.1
    · rw [State.conclude_sent, hsent]

end Sys2Proof.Machine

/-! ### A close that pays (O19) -/

namespace Sys2Proof.Machine

theorem State.sameExcept_runStarted (s : State) (amount : Nat) (plan : List PlanLine) (tube : Nat) :
    SameExcept [.payout, .load] s (s.runStarted amount plan tube) := by
  intro p hp
  cases p
  case payout | load => simp at hp
  all_goals simp [Part.same, State.runStarted]

/-- A change of the coin sequencer's fields alone. -/
theorem sameExcept_modChange_payout (s : State) {f : ChangeUnit → ChangeUnit}
    (hassurance : (f s.change).assured = s.change.assured ∧ (f s.change).short = s.change.short
      ∧ (f s.change).evaluating = s.change.evaluating ∧ (f s.change).rerun = s.change.rerun)
    (hprice : (f s.change).maxPrice = s.change.maxPrice) : SameExcept [.payout] s (s.modChange f) := by
  intro p hp
  cases p
  case payout => simp at hp
  case assurance => exact hassurance
  case maxPrice => exact hprice
  all_goals simp [Part.same]

/-- A session in PAYOUT whose run has begun. -/
theorem sameExcept_inPayout_runStarted (s : State) (amount : Nat) (plan : List PlanLine) (tube : Nat) :
    SameExcept [.session, .unreported, .payout, .load] s (s.inPayout.runStarted amount plan tube) :=
  (sameExcept_modSession s _).trans (State.sameExcept_runStarted _ _ _ _)

/-- Settles O19: the run that begins, the change due that is deferred, and the session that opens for it. -/
theorem cashClosePays : Obligations.CashClosePays := by
  refine ⟨fun s q p l ls hopen hcard hdue hvends hseq hwaits hnone hfits hplan => ?_,
    fun s q p tube coins hopen hcard hdue hvends hjob hseq => ?_,
    fun s l ls hidle hmode hcarried hvends hseq hwaits hnone hfits hplan => ?_⟩
  · obtain ⟨t, ht⟩ : ∃ t, t = s.frameTaken.inPayout.runStarted s.credit.session.cashCredit (l :: ls) l.tube := ⟨_, rfl⟩
    have hleads : Leads 11 [.closeRequest] s.frameTaken t := by
      rw [ht]
      exact .closeRequest hopen hvends (.completeClose_pays hcard hdue hseq ⟨hwaits, hnone, hfits⟩ hplan)
    have hpaying : SameExcept [.session, .unreported, .payout, .load] s.frameTaken t := ht ▸ sameExcept_inPayout_runStarted _ _ _ _
    have hquiet : Heard s.frameTaken t [] := by
      rw [ht]
      exact (Heard.refl _).congr rfl rfl rfl
    obtain ⟨hsame, -, hsent⟩ := answered_keeps hpaying hquiet (by decide) q [3]
    refine ⟨_, (exec_endSession_of_leads p hopen hleads (by decide)).trans (by rw [ht]; rfl), ?_, ?_, ?_, ?_,
      hsame.conclude.mono (by decide)⟩
    · rw [State.conclude_session, ht]
      rfl
    · rw [State.conclude_change, ht]
      rfl
    · rw [State.conclude_load, ht]
      rfl
    · rw [State.conclude_sent, hsent]
  · obtain ⟨t, ht⟩ : ∃ t, t = s.frameTaken.inPayout.modChange fun c => { c with deferred := some s.credit.session.cashCredit } :=
      ⟨_, rfl⟩
    have hbusy : s.change.seq ≠ .idle := by
      obtain h | ⟨n, since, h | h⟩ := hseq <;> rw [h] <;> exact fun h => by cases h
    have hleads : Leads 5 [.closeRequest] s.frameTaken t := by
      rw [ht]
      exact .closeRequest hopen hvends (.completeClose_defers hcard hdue hbusy)
    have hdefers : SameExcept [.session, .unreported, .payout] s.frameTaken t := by
      rw [ht]
      exact (sameExcept_modSession s.frameTaken fun x => { x with state := .payout }).trans
        (sameExcept_modChange_payout _ ⟨rfl, rfl, rfl, rfl⟩ rfl)
    have hquiet : Heard s.frameTaken t [] := by
      rw [ht]
      exact (Heard.refl _).congr rfl rfl rfl
    obtain ⟨hsame, -, hsent⟩ := answered_keeps hdefers hquiet (by decide) q [3]
    refine ⟨_, (exec_endSession_of_leads p hopen hleads (by decide)).trans (by rw [ht]; rfl), ?_, ?_, ?_,
      hsame.conclude.mono (by decide)⟩
    · rw [State.conclude_session, ht]
      rfl
    · rw [State.conclude_change, ht]
      rfl
    · rw [State.conclude_sent, hsent]
  · have hcash : s.openCash.credit.session.cashCredit = s.credit.carried := by
      change s.credit.carried + 0 + 0 - 0 - 0 = _
      omega
    have hplan' : planFor s.openCash.searchOrder s.openCash.credit.session.cashCredit = l :: ls := by
      rw [hcash]
      exact hplan
    have hleads : Leads 11 [.closeRequest] s.openCash _ :=
      .closeRequest rfl hvends
        (.completeClose_pays rfl (by rw [hcash]; exact hcarried) hseq ⟨hwaits, hnone, hfits⟩ hplan')
    rw [hcash] at hleads
    have hsame : SameExcept _ s (s.openCash.inPayout.runStarted s.credit.carried (l :: ls) l.tube) :=
      (sameExcept_openCash s).trans (sameExcept_inPayout_runStarted _ _ _ _)
    refine ⟨(s.openCash.inPayout.runStarted s.credit.carried (l :: ls) l.tube).conclude, ?_, ?_, ?_, ?_, ?_,
      hsame.conclude.mono (by decide)⟩
    · change execCoinReturn s = _
      rw [execCoinReturn, if_neg hmode, hidle]
      dsimp only
      rw [if_neg hcarried, hleads.run_eq (by decide)]
    · rw [State.conclude_session]
      rfl
    · rw [State.conclude_carried]
      rfl
    · rw [State.conclude_change]
      rfl
    · rw [State.conclude_load]
      rfl

/-! ### A card close (O20) -/

/-- A settlement enters its channel's slot at once (R36). -/
def SettlesAtOnce (s : State) (n : Nat) : Prop :=
  (s.channel n).isReady = true ∧ (s.channel n).slot = none ∧ s.credit.deny = false ∧ ∀ y ∈ s.credit.settlements, y.channel ≠ n

theorem State.settlesAtOnce_iff (s : State) (n : Nat) : s.settlesAtOnce n = true ↔ SettlesAtOnce s n := by
  simp [State.settlesAtOnce, SettlesAtOnce, and_assoc]

/-- The settlement record of the session (R36). -/
def State.settled (s : State) (c : Card) : Settlement := s.credit.session.settlement c

/-- SESSION_CLOSED of a card session with its disposition (R38). -/
def State.cardNotice (s : State) (c : Card) (d : Nat) : Notice :=
  s.notice .sessionClosed (some c.channel) [c.limit, s.credit.session.cardUsed, s.credit.session.delivered, d]

/-- What a card close leaves, before the end of its command. -/
structure CardClosed (s t : State) (c : Card) : Prop where
  session : t.credit.session = .reset
  changed : t.credit.changed = true
  atOnce : SettlesAtOnce s c.channel →
    (t.channel c.channel).slot = some (.settle (s.settled c)) ∧ t.credit.settlements = s.credit.settlements
      ∧ Heard s t [s.cardNotice c 0]
  listed : ¬ SettlesAtOnce s c.channel →
    t.credit.settlements = s.credit.settlements ++ [s.settled c] ∧ Heard s t [s.cardNotice c 1]
  same : SameExcept [.session, .settlements, .unreported, .draws, .bridge, .notices] s t

theorem State.lookForWork_credit (s : State) : s.lookForWork.credit = s.credit := by rw [s.lookForWork_touches]

theorem State.lookForWork_link (s : State) : s.lookForWork.link = s.link := by rw [s.lookForWork_touches]

theorem State.settleCard_eq (s : State) (c : Card) :
    (s.settleCard s.credit.session c).1 =
      if s.settlesAtOnce c.channel = true then
        ((s.fillSlot c.channel (.settle (s.settled c))).raise .sessionClosed (some c.channel)
          [c.limit, s.credit.session.cardUsed, s.credit.session.delivered, 0]).sessionToIdle
      else
        ((s.appendSettlement (s.settled c)).raise .sessionClosed (some c.channel)
          [c.limit, s.credit.session.cardUsed, s.credit.session.delivered, 1]).sessionToIdle := by
  unfold State.settleCard
  split <;> rename_i h <;> simp only [h] <;> rfl

theorem State.cardClosed_spec {s : State} {c : Card} (hchannel : c.channel < s.bridge.channels.length) :
    CardClosed s (s.cardClosed c) c := by
  unfold State.cardClosed
  rw [State.settleCard_eq]
  by_cases hnow : s.settlesAtOnce c.channel = true
  · have hfree := (s.settlesAtOnce_iff c.channel).1 hnow
    rw [if_pos hnow, if_pos hnow]
    exact {
      session := by rw [State.lookForWork_credit]; rfl
      changed := by rw [State.lookForWork_credit]; rfl
      atOnce := fun _ => by
        refine ⟨?_, by rw [State.lookForWork_credit]; rfl, ?_⟩
        · rw [State.lookForWork_slot]
          change ((s.fillSlot c.channel (.settle (s.settled c))).channel c.channel).slot = _
          rw [State.fillSlot, State.channel_modChannel_self hchannel]
        · have hheard := (((Heard.refl s).congr (t := s.fillSlot c.channel (.settle (s.settled c))) rfl rfl rfl).raise
            .sessionClosed (some c.channel) [c.limit, s.credit.session.cardUsed, s.credit.session.delivered, 0])
          exact hheard.congr (by rw [State.lookForWork_link]; rfl) (by rw [State.lookForWork_link]; rfl)
            (by rw [State.lookForWork_link]; rfl)
      listed := fun h => absurd hfree h
      same := ((((sameExcept_fillSlot s _ _).trans (sameExcept_raise _ _ _ _)).trans (sameExcept_modSession _ _)).trans
        (sameExcept_lookForWork _)).mono (by decide) }
  · have hfull : ¬ SettlesAtOnce s c.channel := fun h => hnow ((s.settlesAtOnce_iff c.channel).2 h)
    rw [if_neg hnow, if_neg hnow]
    exact {
      session := rfl
      changed := rfl
      atOnce := fun h => absurd h hfull
      listed := fun _ => ⟨rfl,
        (((Heard.refl s).congr (t := s.appendSettlement (s.settled c)) rfl rfl rfl).raise .sessionClosed (some c.channel)
          [c.limit, s.credit.session.cardUsed, s.credit.session.delivered, 1]).congr rfl rfl rfl⟩
      same := (((sameExcept_appendSettlement s _).trans (sameExcept_raise _ _ _ _)).trans (sameExcept_modSession _ _)).mono
        (by decide) }

/-- Settles O20, by whether the settlement enters the slot at once. -/
theorem cardCloseSettles : Obligations.CardCloseSettles := by
  intro s q p c hopen hcard hvends hpending hchannel x r free
  have hlt : c.channel < s.frameTaken.bridge.channels.length := by
    simpa using hchannel
  obtain ⟨t, ht⟩ : ∃ t, t = s.frameTaken.cardClosed c := ⟨_, rfl⟩
  obtain ⟨hsession, hchanged, hatOnce, hlisted, hsame⟩ := ht ▸ State.cardClosed_spec hlt
  have hleads : Leads 6 [.closeRequest] s.frameTaken t := by
    rw [ht]
    exact .closeRequest hopen hvends (.completeClose_card hcard hpending)
  have hanswer : exec (.endSession q p) s = .next (t.accept q [0]).conclude := by
    rw [exec_endSession_of_leads p hopen hleads (by decide), hsession]
    rfl
  have hkeeps : ∀ ns, Heard s.frameTaken t ns →
      SameExcept [.receiver, .session, .settlements, .unreported, .draws, .bridge, .notices, .replies] s (t.accept q [0])
        ∧ Raised s (t.accept q [0]).conclude (ns ++ [s.notice .creditChanged none [0, 0, 0, 0, s.credit.carried]])
        ∧ (t.accept q [0]).link.sent = s.link.sent ++ [replyFrame 0 q 0 0 [0]] := by
    intro ns hns
    obtain ⟨hsame, hheard, hsent⟩ := answered_keeps hsame hns (by decide) q [0]
    have hend := hheard.conclude_reset (hsame .now (by decide)) hchanged hsession
    rw [show (t.accept q [0]).credit.carried = s.credit.carried from hsame .carried (by decide)] at hend
    exact ⟨hsame.mono (by decide), hend.1, hsent⟩
  have hfreeIff : free ↔ SettlesAtOnce s.frameTaken c.channel := Iff.rfl
  by_cases hfree : free
  · obtain ⟨hslot, hsettlements, hheard⟩ := hatOnce hfree
    obtain ⟨hparts, hraised, hsent⟩ := hkeeps _ hheard
    refine ⟨_, hanswer, ?_, fun _ => ⟨?_, ?_⟩, fun h => absurd hfree h, ?_, ?_, hparts.conclude.mono (by decide)⟩
    · rw [State.conclude_session]
      exact hsession
    · exact State.conclude_slot hslot
    · rw [State.conclude_settlements]
      exact hsettlements
    · rintro d (⟨-, rfl⟩ | ⟨h, -⟩)
      · exact hraised
      · exact absurd hfree h
    · rw [State.conclude_sent, hsent]
  · obtain ⟨hsettlements, hheard⟩ := hlisted hfree
    obtain ⟨hparts, hraised, hsent⟩ := hkeeps _ hheard
    refine ⟨_, hanswer, ?_, fun h => absurd h hfree, fun _ => ?_, ?_, ?_, hparts.conclude.mono (by decide)⟩
    · rw [State.conclude_session]
      exact hsession
    · rw [State.conclude_settlements]
      exact hsettlements
    · rintro d (⟨h, -⟩ | ⟨-, rfl⟩)
      · exact absurd h hfree
      · exact hraised
    · rw [State.conclude_sent, hsent]

end Sys2Proof.Machine

/-! ## The payout exit: coins confirmed, waits that expire, dispenses (03, sections 3.4 and 3.5) -/

namespace Sys2Proof.Machine

/-! ### A Tube record replaced -/

theorem State.sameExcept_setTube (s : State) (n : Nat) (x : Tube) :
    SameExcept [.tubes, .assurance, .notices] s (s.setTube n x) := by
  intro p hp
  cases p
  case tubes | assurance | notices => simp at hp
  all_goals simp [Part.same]

theorem State.tube_setTube_self {s : State} {n : Nat} (hlow : 1 ≤ n) (hhigh : n ≤ s.tubes.length) (x : Tube) :
    (s.setTube n x).tube n = x := by
  have hlt : n - 1 < s.tubes.length := by omega
  rw [State.tube, State.setTube_tubes_set, List.getD_eq_getElem?_getD, List.getElem?_set_self hlt]
  rfl

/-- A tube made JAMMED (R54); one that is so already starts no evaluation (log 15). -/
theorem State.jamTube_eq (s : State) (n : Nat) :
    s.jamTube n =
      let u : State :=
        { s with
          tubes := s.tubes.set (n - 1) { s.tube n with state := .jammed, jamCount := min 255 ((s.tube n).jamCount + 1) } }
      if (s.tube n).state = .jammed then u else u.triggerAssurance := by
  rw [State.jamTube]
  dsimp only
  rw [State.setTube_eq]
  simp only [true_and]
  rfl

theorem State.coinOutOfTube_eq (s : State) (n : Nat) :
    s.coinOutOfTube n = s.setTube n ({ s.tube n with count := (s.tube n).count - 1 }.derive false) := rfl

/-! ### The end of a dispense (R51, R59) -/

theorem Leads.endDispense_idle {s : State} (hdeferred : s.change.deferred = none) (hwaits : NothingWaits s) :
    Leads 3 endDispense s (State.setJob { s with load := s.load.released .payout .change } .idle none) := by
  refine (Leads.release hwaits .payout .change).andThen (.done ?_)
  change State.closeDispense _ = _
  simp only [State.closeDispense, hdeferred]

/-- The dispense over, its claim released and the change due no longer deferred. -/
def State.dispenseOver (s : State) : State :=
  (State.setJob { s with load := s.load.released .payout .change } .deferred none).modChange fun c => { c with deferred := none }

theorem LoadUnit.drawn_eq_grantedUnits (l : LoadUnit) : l.drawn = 10 + grantedUnits l.granted := rfl

theorem Leads.endDispense_deferred {s : State} {amount : Nat} {l : PlanLine} {ls : List PlanLine}
    (hdeferred : s.change.deferred = some amount) (hwaits : NothingWaits s)
    (hnone : ∀ g ∈ (s.load.released .payout .change).granted, g.kind ≠ .payout)
    (hfits : 10 + grantedUnits (s.load.released .payout .change).granted + s.load.table.payout ≤ s.load.table.budget)
    (hplan : planFor s.searchOrder amount = l :: ls) :
    Leads 9 endDispense s (s.dispenseOver.runStarted amount (l :: ls) l.tube) := by
  have hclose : perform .dispenseEnded { s with load := s.load.released .payout .change } = (s.dispenseOver, [.startRun amount]) := by
    change State.closeDispense _ = _
    simp only [State.closeDispense, hdeferred]
    rfl
  exact (Leads.release hwaits .payout .change).andThen (.act hclose (.startRun ⟨hwaits, hnone, hfits⟩ hplan))

/-! ### The end of a payout run (R56) -/

/-- A payout run that ends short, from the state in which its claim is still granted. -/
theorem runEndsShort_of {v w : State} {due r paid : Nat} {before : List Notice} (hr : r ≠ 0) (hnow : w.now = v.now)
    (hload : w.load = v.load)
    (hsession : w.credit.session = { v.credit.session with changePaid := v.credit.session.changePaid + paid })
    (hcarried : w.credit.carried = v.credit.carried) (hheard : Heard v w before) :
    RunEndsShort v (State.runOver { w with load := w.load.released .payout .change } due r).conclude due r paid before := by
  obtain ⟨u, hu⟩ : ∃ u : State, u = { w with load := w.load.released .payout .change } := ⟨_, rfl⟩
  rw [← hu]
  have hcredit := u.runOver_credit due r
  rw [if_neg hr] at hcredit
  have hsame := u.sameExcept_runOver due r
  have hunow : u.now = v.now := by rw [hu]; exact hnow
  have husession : u.credit.session = w.credit.session := by rw [hu]
  have hucarried : u.credit.carried = v.credit.carried := by rw [hu]; exact hcarried
  refine ⟨?_, ?_, ?_, ?_, ?_, ?_⟩
  · rw [State.conclude_session, hcredit]
  · rw [State.conclude_carried, hcredit, hucarried]
  · rw [State.conclude_change, State.runOver_change]
  · rw [State.conclude_change, State.runOver_change]
  · rw [State.conclude_load, show (u.runOver due r).load = u.load from hsame .load (by decide), hu, hload]
    rfl
  · have hover : Heard v (u.runOver due r) (before ++ u.runNotices due r) := by
      refine Heard.trans ?_ (Heard.runOver u due r)
      rw [hu]
      exact hheard.congr rfl rfl rfl
    have hend := (hover.conclude_reset ((hsame .now (by decide)).trans hunow) (by rw [hcredit]) (by rw [hcredit])).1
    have hnotices : u.runNotices due r =
        [v.notice .changeShort none [r, due],
          v.notice .sessionClosed none
            [v.credit.session.carriedIn, v.credit.session.coinIn, v.credit.session.noteIn, v.credit.session.charged,
              v.credit.session.changePaid + paid, r]] := by
      rw [State.runNotices, if_neg hr, State.sessionClosed, husession, hsession, State.notice_congr hunow,
        State.notice_congr hunow]
      rfl
    rw [hnotices, List.append_assoc] at hend
    rw [State.conclude_carried]
    exact hend

/-- The parts a payout run's end touches. -/
theorem sameExcept_runOver_released (w : State) (due r : Nat) :
    SameExcept [.load, .session, .carried, .unreported, .notices, .payout] w
      (State.runOver { w with load := w.load.released .payout .change } due r) :=
  (sameExcept_modLoad w fun l => l.released .payout .change).trans (State.sameExcept_runOver _ _ _)

/-! ### An Exit Wait's expiry (R54, R59) -/

theorem execExitWaitExpiry_second {s : State} {tube since : Nat} (hseq : s.change.seq = .secondWait tube since) :
    execExitWaitExpiry s = .next (runDoing ((s.reach (since + 400)).tubeFails tube)) := by
  rw [execExitWaitExpiry, hseq]
  rfl

/-- The failure of a tube in a payout run. -/
theorem State.tubeFails_payout {s : State} {due remaining : Nat} {plan : List PlanLine}
    (hjob : s.change.job = some (.payout due remaining plan)) (tube : Nat) :
    s.tubeFails tube =
      let w := (s.jamTube tube).raise .tubeJam (some tube) [((s.jamTube tube).tube tube).jamCount, remaining]
      (w.setJob .claimWait (some (.payout due remaining (planFor w.searchOrder remaining))),
        if (planFor w.searchOrder remaining).isEmpty then endRun else [.nextCoin]) := by
  rw [State.tubeFails, hjob]

theorem State.tubeFails_dispense {s : State} {n coins : Nat} (hjob : s.change.job = some (.dispense n coins)) (tube : Nat) :
    s.tubeFails tube =
      (((s.jamTube tube).raise .tubeJam (some tube) [((s.jamTube tube).tube tube).jamCount, 0]).setJob .claimWait
        (some (.dispense n coins)), endDispense) := by
  rw [State.tubeFails, hjob]

theorem State.jamTube_setTube (s : State) (n : Nat) :
    s.jamTube n = s.setTube n { s.tube n with state := .jammed, jamCount := min 255 ((s.tube n).jamCount + 1) } := rfl

/-- The state in which a tube has failed to deliver to two pulses, its wait over (R54; log 2). -/
def State.jammedAt (s : State) (tube since : Nat) : State := (s.reach (since + 400)).jamTube tube

theorem State.jammedAt_eq (s : State) (tube since : Nat) :
    s.jammedAt tube since =
      let x := s.tube tube
      let u : State :=
        { s with
          now := max s.now (since + 400)
          tubes := s.tubes.set (tube - 1) { x with state := .jammed, jamCount := min 255 (x.jamCount + 1) } }
      if x.state = .jammed then u else u.triggerAssurance := State.jamTube_eq _ _

theorem State.jammedAt_tubes (s : State) (tube since : Nat) :
    (s.jammedAt tube since).tubes =
      s.tubes.set (tube - 1) { s.tube tube with state := .jammed, jamCount := min 255 ((s.tube tube).jamCount + 1) } := by
  rw [State.jammedAt, State.jamTube_setTube, State.setTube_tubes_set]
  rfl

theorem State.jammedAt_tube {s : State} {tube : Nat} (hlow : 1 ≤ tube) (hhigh : tube ≤ s.tubes.length) (since : Nat) :
    ((s.jammedAt tube since).tube tube).jamCount = min 255 ((s.tube tube).jamCount + 1) := by
  rw [State.jammedAt, State.jamTube_setTube, State.tube_setTube_self (s := s.reach (since + 400)) hlow hhigh]
  rfl

theorem State.jammedAt_now (s : State) (tube since : Nat) : (s.jammedAt tube since).now = max s.now (since + 400) := by
  rw [State.jammedAt, State.jamTube_setTube, State.setTube_now]
  rfl

theorem State.sameExcept_jammedAt (s : State) (tube since : Nat) :
    SameExcept [.now, .tubes, .assurance, .notices] s (s.jammedAt tube since) :=
  (sameExcept_reach s _).trans (State.sameExcept_setTube _ _ _)

/-- TUBE_JAM raised, with what the job still owes. -/
def State.jamRaised (s : State) (tube since owed : Nat) : State :=
  (s.jammedAt tube since).raise .tubeJam (some tube) [min 255 ((s.tube tube).jamCount + 1), owed]

theorem State.sameExcept_jamRaised (s : State) (tube since owed : Nat) :
    SameExcept [.now, .tubes, .assurance, .notices] s (s.jamRaised tube since owed) :=
  ((s.sameExcept_jammedAt tube since).trans (sameExcept_raise _ _ _ _)).mono (by decide)

theorem State.jamRaised_now (s : State) (tube since owed : Nat) :
    (s.jamRaised tube since owed).now = max s.now (since + 400) := s.jammedAt_now tube since

theorem State.jamRaised_tubes (s : State) (tube since owed : Nat) :
    (s.jamRaised tube since owed).tubes = (s.jammedAt tube since).tubes := rfl

theorem Heard.jamRaised (s : State) (tube since owed : Nat) :
    Heard (s.jammedAt tube since) (s.jamRaised tube since owed)
      [(s.jammedAt tube since).notice .tubeJam (some tube) [min 255 ((s.tube tube).jamCount + 1), owed]] :=
  (Heard.refl _).raise _ _ _

/-- The search order of the tubes as the jam leaves them. -/
theorem State.jamRaised_searchOrder {s u : State} (tube since owed : Nat) (htubes : u.tubes = (s.jammedAt tube since).tubes)
    (hcoin : u.coin = s.coin) : (s.jamRaised tube since owed).searchOrder = u.searchOrder :=
  State.searchOrder_congr (by rw [htubes]; rfl) (by rw [hcoin]; exact s.sameExcept_jamRaised tube since owed .coin (by decide))

theorem exec_exitWaitExpiry_payout {s : State} {tube since due remaining : Nat} {old : List PlanLine}
    (hseq : s.change.seq = .secondWait tube since) (hjob : s.change.job = some (.payout due remaining old)) (hlow : 1 ≤ tube)
    (hhigh : tube ≤ s.tubes.length) :
    exec .exitWaitExpiry s =
      let w := s.jamRaised tube since remaining
      .next (run (w.setJob .claimWait (some (.payout due remaining (planFor w.searchOrder remaining))))
        (if (planFor w.searchOrder remaining).isEmpty then endRun else [.nextCoin])) := by
  have htube := State.jammedAt_tube hlow hhigh since
  change execExitWaitExpiry s = _
  rw [execExitWaitExpiry_second hseq, State.tubeFails_payout (s := s.reach (since + 400)) hjob]
  simp only [State.jamRaised]
  rw [← htube]
  rfl

theorem exec_exitWaitExpiry_dispense {s : State} {tube since n coins : Nat} (hseq : s.change.seq = .secondWait tube since)
    (hjob : s.change.job = some (.dispense n coins)) (hlow : 1 ≤ tube) (hhigh : tube ≤ s.tubes.length) :
    exec .exitWaitExpiry s =
      .next (run ((s.jamRaised tube since 0).setJob .claimWait (some (.dispense n coins))) endDispense) := by
  have htube := State.jammedAt_tube hlow hhigh since
  change execExitWaitExpiry s = _
  rw [execExitWaitExpiry_second hseq, State.tubeFails_dispense (s := s.reach (since + 400)) hjob]
  simp only [State.jamRaised]
  rw [← htube]
  rfl

/-- The end of a command with every change of credit reported raises nothing. -/
theorem Heard.conclude_reported {s v w : State} {ps : List Part} {ns : List Notice} (h : Heard v w ns) (hs : Reported s)
    (hsame : SameExcept ps s w) (hps : .unreported ∉ ps) : Raised v w.conclude ns :=
  (h.conclude ((hsame .unreported hps).trans hs)).1

/-- Settles O24, by the wait and the job. -/
theorem exitWaitExpires : Obligations.ExitWaitExpires := by
  refine ⟨?_, ?_, ?_, ?_, ?_, ?_⟩
  · intro s tube since hseq hfree now
    change execExitWaitExpiry s = _
    rw [execExitWaitExpiry, hseq]
    have hnot : ¬ (s.reach (since + Config.exitWait)).dispenseBlocked = true := by
      unfold State.dispenseBlocked
      split
      case h_1 n coins hjob =>
        obtain ⟨habsent, hjammed⟩ := hfree n coins hjob
        have htube : (s.reach (since + Config.exitWait)).tube n = s.tube n := rfl
        simp [htube, habsent, hjammed]
      all_goals exact Bool.false_ne_true
    dsimp only
    rw [if_neg hnot]
    rfl
  · intro s tube since n coins hseq hjob hblocked hdeferred hwaits
    change execExitWaitExpiry s = _
    rw [execExitWaitExpiry, hseq]
    have hyes : (s.reach (since + Config.exitWait)).dispenseBlocked = true := by
      have hjob' : (s.reach (since + Config.exitWait)).change.job = some (.dispense n coins) := hjob
      have htube : (s.reach (since + Config.exitWait)).tube n = s.tube n := rfl
      rw [State.dispenseBlocked, hjob']
      simpa [htube] using hblocked
    dsimp only
    rw [if_pos hyes]
    have hend := Leads.endDispense_idle (s := (s.reach (since + Config.exitWait)).setJob .claimWait s.change.job) hdeferred hwaits
    exact congrArg Host.Outcome.next (hend.run_eq (by decide))
  · intro s tube since due remaining old hseq hjob hlow hhigh x y now u v jam
    have hv : s.jammedAt tube since = v := s.jammedAt_eq tube since
    have hu : u.tubes = (s.jammedAt tube since).tubes := (s.jammedAt_tubes tube since).symm
    obtain ⟨w, hw⟩ : ∃ w, w = s.jamRaised tube since remaining := ⟨_, rfl⟩
    have hsame : SameExcept [.now, .tubes, .assurance, .notices] s w := hw ▸ s.sameExcept_jamRaised tube since remaining
    have hheard : Heard v w [jam] := by
      rw [hw, ← hv]
      exact hv ▸ Heard.jamRaised s tube since remaining
    have hexec := exec_exitWaitExpiry_payout hseq hjob hlow hhigh
    dsimp only at hexec
    rw [State.jamRaised_searchOrder tube since remaining hu rfl, ← hw] at hexec
    have hnow : w.now = now := hw ▸ s.jamRaised_now tube since remaining
    have htubes : w.tubes = u.tubes := by rw [hw, State.jamRaised_tubes, hu]
    constructor
    · intro l ls hplan
      rw [hplan] at hexec
      obtain ⟨z, hz⟩ : ∃ z, z = w.setJob .claimWait (some (.payout due remaining (l :: ls))) := ⟨_, rfl⟩
      have hfresh : z.freshPlan remaining (l :: ls) = l :: ls := by
        rw [State.freshPlan_congr (s := u) (by rw [hz]; exact htubes)
          (by rw [hz]; exact hsame .coin (by decide)), ← hplan, State.freshPlan_planFor]
      have hleads := Leads.nextCoin (s := z) (due := due) (by rw [hz]; rfl) hfresh
      rw [← hz] at hexec
      have hpaid : SameExcept [.payout] w ((z.setJob z.change.seq (some (.payout due remaining (l :: ls)))).pulse l.tube
          (.firstWait l.tube z.now)) := by
        rw [hz]
        exact (((sameExcept_setJob w _ _).trans (sameExcept_setJob _ _ _)).trans (sameExcept_pulse _ _ _)).mono (by decide)
      have hall := hsame.trans hpaid
      refine ⟨_, hexec.trans (congrArg Host.Outcome.next (hleads.run_eq (by decide))), ?_, ?_, ?_, ?_, fun hs => ?_,
        hall.conclude.mono (by decide)⟩
      · rw [State.conclude_tubes, ← htubes]
        exact hpaid .tubes (by decide)
      · rw [State.conclude_change, ← hnow, hz]
        rfl
      · rw [State.conclude_change]
        rfl
      · rw [State.conclude_change, hz]
        obtain ⟨-, -, -, hpulses⟩ := hsame .payout (by decide)
        exact congrArg (editAt (· + 1) (l.tube - 1)) hpulses
      · have hquiet : Heard v _ [jam] := hheard.congr (t := (z.setJob z.change.seq (some (.payout due remaining (l :: ls)))).pulse
          l.tube (.firstWait l.tube z.now)) (by rw [hz]; rfl) (by rw [hz]; rfl) (by rw [hz]; rfl)
        exact hquiet.conclude_reported hs hall (by decide)
    · intro hplan hremaining hwaits hpending
      rw [hplan] at hexec
      obtain ⟨z, hz⟩ : ∃ z, z = w.setJob .claimWait (some (.payout due remaining [])) := ⟨_, rfl⟩
      rw [← hz] at hexec
      have hsamez : SameExcept [.now, .tubes, .assurance, .notices, .payout] s z := by
        rw [hz]
        exact hsame.trans (sameExcept_setJob _ _ _)
      have hload : z.load = s.load := hsamez .load (by decide)
      have hleads := Leads.endRun (s := z) (due := due) (remaining := remaining) (plan := [])
        (by rw [NothingWaits, hload]; exact hwaits)
        (by rw [NothingPending, show z.tables = s.tables from hsamez .tables (by decide)]; exact hpending) (by rw [hz]; rfl)
      have hvsame : SameExcept [.now, .tubes, .assurance, .notices] s v := hv ▸ s.sameExcept_jammedAt tube since
      have hall := hsamez.trans (sameExcept_runOver_released z due remaining)
      refine ⟨_, hexec.trans (congrArg Host.Outcome.next (hleads.run_eq (by decide))), ?_, ?_, hall.conclude.mono (by decide)⟩
      · rw [State.conclude_tubes, ← htubes]
        exact (sameExcept_runOver_released z due remaining .tubes (by decide)).trans (by rw [hz]; rfl)
      · refine runEndsShort_of hremaining ?_ (hload.trans (hvsame .load (by decide)).symm) ?_ ?_ ?_
        · rw [hz]
          exact hnow.trans (hv ▸ s.jammedAt_now tube since).symm
        · have hsession : z.credit.session = v.credit.session :=
            (hsamez .session (by decide)).trans (hvsame .session (by decide)).symm
          exact hsession
        · exact (hsamez .carried (by decide)).trans (hvsame .carried (by decide)).symm
        · rw [hz]
          exact hheard.congr rfl rfl rfl
  · intro s tube since n coins hseq hjob hdeferred hwaits hlow hhigh x y u v
    have hv : s.jammedAt tube since = v := s.jammedAt_eq tube since
    obtain ⟨z, hz⟩ : ∃ z, z = (s.jamRaised tube since 0).setJob .claimWait (some (.dispense n coins)) := ⟨_, rfl⟩
    have hsame : SameExcept [.now, .tubes, .assurance, .notices, .payout] s z :=
      hz ▸ (s.sameExcept_jamRaised tube since 0).trans (sameExcept_setJob _ _ _)
    have hload : z.load = s.load := hsame .load (by decide)
    have hdeferred' : z.change.deferred = none := by
      rw [hz]
      exact (s.sameExcept_jamRaised tube since 0 .payout (by decide)).2.2.1.trans hdeferred
    have hleads := Leads.endDispense_idle hdeferred' (by rw [NothingWaits, hload]; exact hwaits)
    have hover := (sameExcept_modLoad z fun l => l.released .payout .change).trans (sameExcept_setJob _ .idle none)
    have hall := hsame.trans hover
    have hheard : Heard v (State.setJob { z with load := z.load.released .payout .change } .idle none)
        [v.notice .tubeJam (some tube) [y.jamCount, 0]] := by
      rw [← hv, hz]
      exact (Heard.jamRaised s tube since 0).congr rfl rfl rfl
    have hexec := exec_exitWaitExpiry_dispense hseq hjob hlow hhigh
    rw [← hz, hleads.run_eq (by decide)] at hexec
    refine ⟨_, hexec, ?_, rfl.trans (by rw [State.conclude_change]; rfl), by rw [State.conclude_change]; rfl, ?_,
      fun hs => hheard.conclude_reported hs hall (by decide), hall.conclude.mono (by decide)⟩
    · rw [State.conclude_tubes, hz]
      exact s.jammedAt_tubes tube since
    · rw [State.conclude_load]
      exact congrArg (fun l : LoadUnit => l.released .payout .change) hload
  · intro s tube since n coins amount l ls hseq hjob hdeferred hwaits hlow hhigh x y u v left hplan hnone hfits
    have hv : s.jammedAt tube since = v := s.jammedAt_eq tube since
    obtain ⟨z, hz⟩ : ∃ z, z = (s.jamRaised tube since 0).setJob .claimWait (some (.dispense n coins)) := ⟨_, rfl⟩
    have hsame : SameExcept [.now, .tubes, .assurance, .notices, .payout] s z :=
      hz ▸ (s.sameExcept_jamRaised tube since 0).trans (sameExcept_setJob _ _ _)
    have hload : z.load = s.load := hsame .load (by decide)
    obtain ⟨-, -, hkeeps, hpulses⟩ := s.sameExcept_jamRaised tube since 0 .payout (by decide)
    have hdeferred' : z.change.deferred = some amount := by
      rw [hz]
      exact hkeeps.trans hdeferred
    have htubes : z.tubes = u.tubes := by
      rw [hz]
      exact s.jammedAt_tubes tube since
    have hplan' : planFor z.searchOrder amount = l :: ls := by
      rw [State.searchOrder_congr (s := u) htubes (hsame .coin (by decide))]
      exact hplan
    have hleads := Leads.endDispense_deferred hdeferred' (by rw [NothingWaits, hload]; exact hwaits)
      (by rw [hload]; exact hnone) (by rw [hload]; exact hfits) hplan'
    have hnow : z.now = u.now := by
      rw [hz]
      exact s.jamRaised_now tube since 0
    have hover : SameExcept [.load, .payout] z (z.dispenseOver.runStarted amount (l :: ls) l.tube) :=
      ((((sameExcept_modLoad z fun l => l.released .payout .change).trans (sameExcept_setJob _ .deferred none)).trans
        (sameExcept_modChange_payout _ ⟨rfl, rfl, rfl, rfl⟩ rfl)).trans (State.sameExcept_runStarted _ _ _ _)).mono (by decide)
    have hall := hsame.trans hover
    have hheard : Heard v (z.dispenseOver.runStarted amount (l :: ls) l.tube)
        [v.notice .tubeJam (some tube) [y.jamCount, 0]] := by
      rw [← hv, hz]
      exact (Heard.jamRaised s tube since 0).congr rfl rfl rfl
    have hexec := exec_exitWaitExpiry_dispense hseq hjob hlow hhigh
    rw [← hz, hleads.run_eq (by decide)] at hexec
    refine ⟨_, hexec, ?_, ?_, by rw [State.conclude_change]; rfl, by rw [State.conclude_change]; rfl, ?_, ?_,
      fun hs => hheard.conclude_reported hs hall (by decide), hall.conclude.mono (by decide)⟩
    · rw [State.conclude_tubes]
      exact htubes
    · rw [State.conclude_change, ← hnow]
      rfl
    · rw [State.conclude_change, hz]
      exact congrArg (editAt (· + 1) (l.tube - 1)) hpulses
    · rw [State.conclude_load]
      have hgrant : grantNow z.dispenseOver .payout .change = grantNow u .payout .change := by
        simp only [grantNow]
        rw [← hnow]
        change ({ kind := _, owner := _, units := z.load.table.units _, since := _, arrival := _ } : Grant) = _
        rw [hload]
        rfl
      change ({ z.load.released .payout .change with
        granted := (z.load.released .payout .change).granted ++ [grantNow z.dispenseOver .payout .change] } : LoadUnit) = _
      rw [hgrant, hload]
      rfl
  · intro s hseq
    change execExitWaitExpiry s = _
    obtain h | h | h := hseq <;> rw [execExitWaitExpiry, h]

end Sys2Proof.Machine

/-! ### Coins confirmed at the payout exit (O25 to O27) -/

namespace Sys2Proof.Machine

/-- The state of a payout exit coin's tube counted down (R53, R59). -/
def State.coinOut (s : State) (tube : Nat) : State :=
  let x := s.tube tube
  let y := { x with count := x.count - 1 }.derive false
  let u : State := { s with tubes := s.tubes.set (tube - 1) y }
  if x.count = y.count ∧ x.state = y.state then u else u.triggerAssurance

theorem State.coinOutOfTube_eq_coinOut (s : State) (tube : Nat) : s.coinOutOfTube tube = s.coinOut tube := by
  rw [State.coinOutOfTube_eq, State.setTube_eq]
  rfl

theorem State.sameExcept_coinOut (s : State) (tube : Nat) : SameExcept [.tubes, .assurance, .notices] s (s.coinOut tube) := by
  rw [← State.coinOutOfTube_eq_coinOut]
  exact s.sameExcept_setTube _ _

theorem State.coinOut_tubes (s : State) (tube : Nat) :
    (s.coinOut tube).tubes = s.tubes.set (tube - 1) ({ s.tube tube with count := (s.tube tube).count - 1 }.derive false) := by
  rw [← State.coinOutOfTube_eq_coinOut, State.coinOutOfTube_eq, State.setTube_tubes_set]

theorem NothingWaits.congr {s t : State} (hs : NothingWaits s) (h : t.load = s.load) : NothingWaits t := by
  rw [NothingWaits, h]
  exact hs

theorem NothingPending.congr {s t : State} (hs : NothingPending s) (h : t.tables = s.tables) : NothingPending t := by
  rw [NothingPending, h]
  exact hs

theorem execPayoutExitBreak_wait {s : State} {tube since : Nat}
    (hseq : s.change.seq = .firstWait tube since ∨ s.change.seq = .secondWait tube since) :
    execPayoutExitBreak s = .next (runDoing (s.confirmPaid tube)) := by
  obtain h | h := hseq <;> rw [execPayoutExitBreak, h]

/-- A coin of a payout run confirmed, with the acts that follow (R53). -/
theorem exec_payoutExitBreak_payout {s : State} {tube since due remaining : Nat} {l : PlanLine} {ls : List PlanLine}
    (hseq : s.change.seq = .firstWait tube since ∨ s.change.seq = .secondWait tube since)
    (hjob : s.change.job = some (.payout due remaining (l :: ls))) :
    exec .payoutExitBreak s =
      .next
        (run (((s.coinOut tube).setJob .claimWait (some (.payout due (remaining - l.value) (payOne (l :: ls))))).payBack l.value)
          (if remaining - l.value = 0 ∨ (payOne (l :: ls)).isEmpty then endRun else [.nextCoin])) := by
  have hpaid : s.confirmPaid tube =
      (((s.coinOut tube).setJob .claimWait (some (.payout due (remaining - l.value) (payOne (l :: ls))))).payBack l.value,
        if remaining - l.value = 0 ∨ (payOne (l :: ls)).isEmpty then endRun else [.nextCoin]) := by
    rw [State.confirmPaid, hjob, State.coinOutOfTube_eq_coinOut]
    rfl
  change execPayoutExitBreak s = _
  rw [execPayoutExitBreak_wait hseq, hpaid]
  rfl

/-- A coin of a dispense confirmed, with the acts that follow (R59). -/
theorem exec_payoutExitBreak_dispense {s : State} {tube since n coins : Nat}
    (hseq : s.change.seq = .firstWait tube since ∨ s.change.seq = .secondWait tube since)
    (hjob : s.change.job = some (.dispense n coins)) :
    exec .payoutExitBreak s =
      .next (run ((s.coinOut tube).setJob .claimWait (some (.dispense n (coins - 1))))
        (if coins ≤ 1 then endDispense else [.nextCoin])) := by
  have hpaid : s.confirmPaid tube =
      ((s.coinOut tube).setJob .claimWait (some (.dispense n (coins - 1))),
        if coins ≤ 1 then endDispense else [.nextCoin]) := by
    rw [State.confirmPaid, hjob, State.coinOutOfTube_eq_coinOut]
  change execPayoutExitBreak s = _
  rw [execPayoutExitBreak_wait hseq, hpaid]
  rfl

/-- The state of a payout run in which a coin has just been confirmed. -/
def State.coinPaid (s : State) (tube due remaining : Nat) (plan : List PlanLine) (value : Nat) : State :=
  ((s.coinOut tube).setJob .claimWait (some (.payout due remaining plan))).payBack value

theorem State.sameExcept_coinPaid (s : State) (tube due remaining : Nat) (plan : List PlanLine) (value : Nat) :
    SameExcept [.tubes, .assurance, .notices, .payout, .session, .unreported] s (s.coinPaid tube due remaining plan value) :=
  ((s.sameExcept_coinOut tube).trans (sameExcept_setJob _ _ _)).trans (sameExcept_modSession _ _)

theorem State.coinPaid_session (s : State) (tube due remaining : Nat) (plan : List PlanLine) (value : Nat) :
    (s.coinPaid tube due remaining plan value).credit.session =
      { s.credit.session with changePaid := s.credit.session.changePaid + value } := by
  have hsession : (s.coinOut tube).credit.session = s.credit.session := s.sameExcept_coinOut tube .session (by decide)
  rw [← hsession]
  rfl

theorem Heard.coinPaid (s : State) (tube due remaining : Nat) (plan : List PlanLine) (value : Nat) :
    Heard (s.coinOut tube) (s.coinPaid tube due remaining plan value) [] := (Heard.refl _).congr rfl rfl rfl

/-- Settles O25: the coin confirmed, and the next one of the plan in hand or of the new one. -/
theorem payoutGoesOn : Obligations.PayoutGoesOn := by
  intro s tube since due remaining l ls next rest hseq hjob hleft hplan x tubes u first lines hlines
  obtain ⟨w, hw⟩ : ∃ w, w = s.coinPaid tube due (remaining - l.value) (next :: rest) l.value := ⟨_, rfl⟩
  have hsame : SameExcept _ s w := hw ▸ s.sameExcept_coinPaid tube due (remaining - l.value) (next :: rest) l.value
  have hplan' : payOne (l :: ls) = next :: rest := hplan
  have hexec := exec_payoutExitBreak_payout hseq hjob
  rw [hplan', if_neg (by simp [hleft])] at hexec
  have hwtubes : w.tubes = u.tubes := by
    rw [hw]
    exact s.coinOut_tubes tube
  have hcoin : w.coin = u.coin := hsame .coin (by decide)
  have hfresh : w.freshPlan (remaining - l.value) (next :: rest) = first :: lines := by
    rw [State.freshPlan_congr hwtubes hcoin]
    obtain ⟨hstale, rfl, rfl⟩ | ⟨hstale, hnew⟩ := hlines
    · simp [State.freshPlan, hstale]
    · simp [State.freshPlan, hstale, hnew]
  have hleads := Leads.nextCoin (s := w) (due := due) (by rw [hw]; rfl) hfresh
  obtain ⟨t, ht⟩ : ∃ t, t = (w.setJob w.change.seq (some (.payout due (remaining - l.value) (first :: lines)))).pulse
    first.tube (.firstWait first.tube w.now) := ⟨_, rfl⟩
  rw [← ht] at hleads
  have hpaid : SameExcept [.payout] w t :=
    ht ▸ ((sameExcept_setJob w _ _).trans (sameExcept_pulse _ _ _)).mono (by decide)
  have hexec' : exec .payoutExitBreak s = .next t.conclude := by
    rw [hexec, ← hleads.run_eq (by decide), hw]
    rfl
  refine ⟨_, hexec', ?_, ?_, ?_, ?_, ?_, (hsame.trans hpaid).conclude.mono (by decide)⟩
  · rw [State.conclude_tubes]
    exact (hpaid .tubes (by decide)).trans hwtubes
  · rw [State.conclude_session]
    refine (hpaid .session (by decide)).trans ?_
    rw [hw, State.coinPaid_session]
  · have hnow : w.now = s.now := hsame .now (by decide)
    rw [State.conclude_change, ht, ← hnow]
    rfl
  · rw [State.conclude_change, ht]
    rfl
  · rw [State.conclude_change, ht, hw]
    obtain ⟨-, -, -, hpulses⟩ := s.sameExcept_coinOut tube .payout (by decide)
    exact congrArg (editAt (· + 1) (first.tube - 1)) hpulses

/-- The end of a payout run whose last coin has been confirmed. -/
theorem Leads.endRun_coinPaid {s w z : State} {due remaining : Nat} {ps : List Part} {plan : List PlanLine} {q : SeqState}
    (hwaits : NothingWaits s) (hpending : NothingPending s) (hsame : SameExcept ps s w) (hload : .load ∉ ps)
    (htables : .tables ∉ ps) (hz : z = w.setJob q (some (.payout due remaining plan))) :
    Leads 5 Sys2Proof.Machine.endRun z (State.runOver { z with load := z.load.released .payout .change } due remaining) := by
  refine Leads.endRun (plan := plan) (hwaits.congr ?_) (hpending.congr ?_) (by rw [hz]; rfl)
  · rw [hz]
    exact hsame .load hload
  · rw [hz]
    exact hsame .tables htables

/-- A coin that leaves no line to pay from ends the run: at once, or where the new plan holds no coin (R52, R56). -/
theorem Leads.coinPaid_ends {s w : State} {due remaining : Nat} {ps : List Part} {plan : List PlanLine}
    (hwaits : NothingWaits s) (hpending : NothingPending s) (hsame : SameExcept ps s w) (hload : .load ∉ ps)
    (htables : .tables ∉ ps) (hjob : w.change.job = some (.payout due remaining plan)) (hleft : remaining ≠ 0)
    (hends : plan = [] ∨ w.freshPlan remaining plan = []) :
    ∃ z q plan', z = w.setJob q (some (.payout due remaining plan'))
      ∧ Leads 6 (if remaining = 0 ∨ plan.isEmpty then Sys2Proof.Machine.endRun else [.nextCoin]) w
        (State.runOver { z with load := z.load.released .payout .change } due remaining) := by
  by_cases hempty : plan = []
  · have hself : w = w.setJob w.change.seq (some (.payout due remaining plan)) := by
      rw [← hjob]
      rfl
    refine ⟨w, w.change.seq, plan, hself, ?_⟩
    rw [if_pos (by simp [hempty])]
    exact (Leads.endRun_coinPaid hwaits hpending hsame hload htables hself).mono (by decide)
  · refine ⟨w.setJob w.change.seq (some (.payout due remaining [])), w.change.seq, [], rfl, ?_⟩
    rw [if_neg (by simp [hempty, hleft])]
    refine Leads.act (new := Sys2Proof.Machine.endRun) ?_
      (Leads.endRun_coinPaid hwaits hpending hsame hload htables (q := w.change.seq) (plan := []) rfl)
    change w.payNext = _
    rw [State.payNext, hjob]
    simp only [hends.resolve_left hempty]

/-- Settles O26: an amount remaining ends the run short, none ends it paid in full. -/
theorem payoutEnds : Obligations.PayoutEnds := by
  constructor
  · intro s tube since due remaining l ls hseq hjob hleft hwaits hpending x y u v plan hends
    obtain ⟨w, hw⟩ : ∃ w, w = s.coinPaid tube due (remaining - l.value) plan l.value := ⟨_, rfl⟩
    have hsame : SameExcept _ s w := hw ▸ s.sameExcept_coinPaid tube due (remaining - l.value) plan l.value
    have hvsame : SameExcept _ s v := s.sameExcept_coinOut tube
    have hwtubes : w.tubes = u.tubes := by
      rw [hw]
      exact s.coinOut_tubes tube
    have hempty : plan = [] ∨ w.freshPlan (remaining - l.value) plan = [] := by
      rw [State.freshPlan_congr hwtubes (show w.coin = u.coin from hsame .coin (by decide))]
      obtain h | ⟨next, rest, h, hstale, hnew⟩ := hends
      · exact .inl h
      · exact .inr (by simp [h, State.freshPlan, hstale, hnew])
    obtain ⟨z, q, plan', hz, hleads⟩ := Leads.coinPaid_ends (s := s) (due := due) hwaits hpending hsame (by decide) (by decide)
      (by rw [hw]; rfl) hleft hempty
    have hexec : exec .payoutExitBreak s = .next _ :=
      (exec_payoutExitBreak_payout hseq hjob).trans (congrArg Host.Outcome.next (hw ▸ hleads.run_eq (by decide)))
    have hsamez : SameExcept _ s z := hz ▸ hsame.trans (sameExcept_setJob _ _ _)
    have hall := hsamez.trans (sameExcept_runOver_released z due (remaining - l.value))
    refine ⟨_, hexec, ?_, ?_, hall.conclude.mono (by decide)⟩
    · rw [State.conclude_tubes]
      exact (sameExcept_runOver_released z due _ .tubes (by decide)).trans (by rw [hz]; exact hwtubes)
    · refine runEndsShort_of hleft ?_ ?_ ?_ ?_ ?_
      · exact (hsamez .now (by decide)).trans (hvsame .now (by decide)).symm
      · exact (hsamez .load (by decide)).trans (hvsame .load (by decide)).symm
      · have hsession : v.credit.session = s.credit.session := hvsame .session (by decide)
        rw [hz, hsession, hw]
        exact s.coinPaid_session tube due _ plan l.value
      · exact (hsamez .carried (by decide)).trans (hvsame .carried (by decide)).symm
      · rw [hz, hw]
        exact (Heard.coinPaid s tube due (remaining - l.value) plan l.value).congr rfl rfl rfl
  · intro s tube since due l ls hseq hjob hwaits hpending x y z u v
    obtain ⟨w, hw⟩ : ∃ w, w = s.coinPaid tube due 0 (payOne (l :: ls)) l.value := ⟨_, rfl⟩
    have hsame : SameExcept _ s w := hw ▸ s.sameExcept_coinPaid tube due 0 (payOne (l :: ls)) l.value
    have hself : w = w.setJob w.change.seq (some (.payout due 0 (payOne (l :: ls)))) := by
      rw [hw]
      rfl
    have hleads := Leads.endRun_coinPaid hwaits hpending hsame (by decide) (by decide) hself
    obtain ⟨r, hr⟩ : ∃ r : State, r = { w with load := w.load.released .payout .change } := ⟨_, rfl⟩
    rw [← hr] at hleads
    have hexec : exec .payoutExitBreak s = .next (r.runOver due 0).conclude := by
      have h := exec_payoutExitBreak_payout hseq hjob
      rw [Nat.sub_self, if_pos (.inl rfl)] at h
      refine h.trans (congrArg Host.Outcome.next ?_)
      rw [← hleads.run_eq (by decide), hw]
      rfl
    have hover : SameExcept [.load, .session, .carried, .unreported, .notices, .payout] w (r.runOver due 0) :=
      hr ▸ sameExcept_runOver_released w due 0
    have hcredit := r.runOver_credit due 0
    rw [if_pos rfl] at hcredit
    have hcarried : r.credit.carried = s.credit.carried := by
      rw [hr]
      exact hsame .carried (by decide)
    have hkeepsCarried : Part.carried.same s (r.runOver due 0) := by
      simp only [Part.same, hcredit, hcarried]
    have hall := (hsame.trans hover).erase hkeepsCarried
    have hload : w.load = s.load := hsame .load (by decide)
    refine ⟨_, hexec, ?_, ?_, ?_, ?_, ?_, ?_, hall.conclude.mono (by decide)⟩
    · rw [State.conclude_tubes]
      refine (hover .tubes (by decide)).trans ?_
      rw [hw]
      exact s.coinOut_tubes tube
    · rw [State.conclude_session, hcredit]
    · rw [State.conclude_change, State.runOver_change]
    · rw [State.conclude_change, State.runOver_change]
    · rw [State.conclude_load, show (r.runOver due 0).load = r.load from r.sameExcept_runOver due 0 .load (by decide), hr, hload]
      rfl
    · have hvnow : v.now = s.now := s.sameExcept_coinOut tube .now (by decide)
      have hrnow : r.now = s.now := by
        rw [hr]
        exact hsame .now (by decide)
      have hheard : Heard v (r.runOver due 0) (r.runNotices due 0) := by
        refine Heard.trans (ns := []) (t := r) ?_ (Heard.runOver r due 0)
        rw [hr, hw]
        exact (Heard.coinPaid s tube due 0 (payOne (l :: ls)) l.value).congr rfl rfl rfl
      have hend := (hheard.conclude_reset ((hall .now (by decide)).trans hvnow.symm) (by rw [hcredit]) (by rw [hcredit])).1
      have hsession : r.credit.session = { z with changePaid := z.changePaid + l.value } := by
        rw [hr, hw]
        exact s.coinPaid_session tube due 0 (payOne (l :: ls)) l.value
      have hnotices : r.runNotices due 0 =
          [s.notice .sessionClosed none [z.carriedIn, z.coinIn, z.noteIn, z.charged, z.changePaid + l.value, 0]] := by
        rw [State.runNotices, if_pos rfl, State.sessionClosed, hsession, State.notice_congr hrnow]
        rfl
      rw [hnotices, hcredit, hcarried, State.notice_congr hvnow] at hend
      exact hend

/-! ### TUBE_DISPENSE (R58, R59) -/

theorem execTubeDispense_long (s : State) (q b d : Byte) (rest : List Byte) :
    exec (.tubeDispense q (b :: d :: rest)) s =
      match s.frameTaken.dispenseRefusal b.toNat d.toNat with
      | some why => .next (s.frameTaken.refuse q why)
      | none =>
        .next (run ((s.frameTaken.setJob .claimWait (some (.dispense b.toNat d.toNat))).accept q [b, d])
          [.place .payout .change]) := by
  have hlong : ¬ (b :: d :: rest).length < 2 := by simp
  have hbytes : [u8 (byteAt (b :: d :: rest) 0), u8 (byteAt (b :: d :: rest) 1)] = [b, d] :=
    congrArg₂ (fun x y => [x, y]) (u8_toNat b) (u8_toNat d)
  change execTubeDispense q (b :: d :: rest) s = _
  unfold execTubeDispense
  dsimp only
  rw [if_neg hlong, hbytes]
  rfl

/-- A tube of a dispense that lets a pulse be given (R59). -/
theorem Leads.nextCoin_dispense {s : State} {n coins : Nat} (hjob : s.change.job = some (.dispense n coins))
    (hfree : ¬ ((s.tube n).state = .absent ∨ (s.tube n).state = .jammed)) :
    Leads 1 [.nextCoin] s (s.pulse n (.firstWait n s.now)) := by
  have hnot : ¬ s.dispenseBlocked = true := by
    rw [State.dispenseBlocked, hjob]
    simpa using hfree
  refine .done ?_
  change s.payNext = _
  rw [State.payNext, hjob]
  exact if_neg hnot

/-- A tube of a dispense that lets no pulse be given ends it (R59). -/
theorem Leads.nextCoin_blocked {m : Nat} {s t : State} {n coins : Nat} (hjob : s.change.job = some (.dispense n coins))
    (hblocked : (s.tube n).state = .absent ∨ (s.tube n).state = .jammed) (h : Leads m endDispense s t) :
    Leads (m + 1) [.nextCoin] s t := by
  have hyes : s.dispenseBlocked = true := by
    rw [State.dispenseBlocked, hjob]
    simpa using hblocked
  refine .act ?_ h
  change s.payNext = _
  rw [State.payNext, hjob]
  exact if_pos hyes

/-- Settles O27: the confirmed coin of a dispense, and the request with its refusals in their order. -/
theorem tubeDispenseTaken : Obligations.TubeDispenseTaken := by
  refine ⟨fun s q p hshort => if_pos hshort, ?_, ?_⟩
  · intro s tube since n coins hseq hjob x y u v blocked left
    have hsame : SameExcept [.tubes, .assurance, .notices] s v := s.sameExcept_coinOut tube
    have hvtubes : v.tubes = u.tubes := s.coinOut_tubes tube
    have htube : v.tube n = u.tube n := congrFun (State.tube_congr hvtubes) n
    have hload : v.load = s.load := hsame .load (by decide)
    have hnow : v.now = s.now := hsame .now (by decide)
    obtain ⟨-, -, hdeferred, hpulses⟩ := hsame .payout (by decide)
    obtain ⟨z, hz⟩ : ∃ z, z = v.setJob .claimWait (some (.dispense n (coins - 1))) := ⟨_, rfl⟩
    have hzjob : z.change.job = some (.dispense n (coins - 1)) := by rw [hz]; rfl
    have hztube : z.tube n = u.tube n := by rw [hz]; exact htube
    have hexec : exec .payoutExitBreak s = .next (run z (if coins ≤ 1 then endDispense else [.nextCoin])) := by
      rw [hz]
      exact exec_payoutExitBreak_dispense hseq hjob
    clear_value v
    constructor
    · intro hcoins hfree
      rw [if_neg (Nat.not_le.2 hcoins),
        (Leads.nextCoin_dispense hzjob (by rw [hztube]; exact hfree)).run_eq (by decide)] at hexec
      rw [hexec, ← hpulses, ← hnow, hz]
      rfl
    · intro hends hwaits
      have hzwaits : NothingWaits z := hwaits.congr (by rw [hz]; exact hload)
      have hend : ∀ {t : State} {m : Nat}, Leads m endDispense z t → m ≤ 4000 → exec .payoutExitBreak s = .next t.conclude := by
        intro t m h hm
        by_cases hcoins : coins ≤ 1
        · rw [if_pos hcoins, h.run_eq (by omega)] at hexec
          exact hexec
        · rw [if_neg hcoins, (Leads.nextCoin_blocked hzjob (by rw [hztube]; exact hends.resolve_left hcoins) h).run_eq
            (by omega)] at hexec
          exact hexec
      constructor
      · intro hnone
        rw [hend (Leads.endDispense_idle (by rw [hz]; exact hdeferred.trans hnone) hzwaits) (by decide), hz]
        simp only [left, ← hload]
        rfl
      · intro amount l ls hsome hplan hnone hfits
        have hzload : z.load = s.load := by rw [hz]; exact hload
        have hzplan : planFor z.searchOrder amount = l :: ls := by
          rw [State.searchOrder_congr (s := u) (by rw [hz]; exact hvtubes) (by rw [hz]; exact hsame .coin (by decide))]
          exact hplan
        rw [hend (Leads.endDispense_deferred (by rw [hz]; exact hdeferred.trans hsome) hzwaits (by rw [hzload]; exact hnone)
          (by rw [hzload]; exact hfits) hzplan) (by decide), hz]
        simp only [left, grantNow, ← hload, ← hpulses, ← hnow]
        rfl
  · intro s q b d rest n coins bad
    rw [execTubeDispense_long]
    have hrefusal : s.frameTaken.dispenseRefusal b.toNat d.toNat =
        if s.tables.mode ≠ .service then some .badMode
        else if n = 0 ∨ 5 < n ∨ coins = 0 ∨ 20 < coins then some .badArgument
        else if (s.tube n).state = .absent ∨ (s.tube n).state = .jammed then some .badArgument
        else if s.paying then some .busy
        else none := rfl
    rw [hrefusal]
    have hrange : (n = 0 ∨ 5 < n ∨ coins = 0 ∨ 20 < coins) ↔ ¬ (1 ≤ n ∧ n ≤ 5) ∨ ¬ (1 ≤ coins ∧ coins ≤ 20) := by omega
    refine ⟨fun hmode => by rw [if_pos hmode], fun hmode hbad => ?_, fun hmode hgood hbusy => ?_,
      fun hmode hgood hidle hwaits hnone hfits => ?_⟩
    · rw [if_neg (not_not.2 hmode)]
      by_cases hr : n = 0 ∨ 5 < n ∨ coins = 0 ∨ 20 < coins
      · rw [if_pos hr]
      · rw [if_neg hr, if_pos]
        rw [hrange, not_or] at hr
        obtain h | h | h := hbad
        · exact absurd h hr.1
        · exact absurd h hr.2
        · exact h
    · have hr : ¬ (n = 0 ∨ 5 < n ∨ coins = 0 ∨ 20 < coins) := fun h => hgood (or_assoc.1 (.inl (hrange.1 h)))
      have ht : ¬ ((s.tube n).state = .absent ∨ (s.tube n).state = .jammed) := fun h => hgood (.inr (.inr h))
      rw [if_neg (not_not.2 hmode), if_neg hr, if_neg ht, if_pos (by simpa [State.paying] using hbusy)]
    · have hr : ¬ (n = 0 ∨ 5 < n ∨ coins = 0 ∨ 20 < coins) := fun h => hgood (or_assoc.1 (.inl (hrange.1 h)))
      have ht : ¬ ((s.tube n).state = .absent ∨ (s.tube n).state = .jammed) := fun h => hgood (.inr (.inr h))
      rw [if_neg (not_not.2 hmode), if_neg hr, if_neg ht, if_neg (by simp [State.paying, hidle])]
      dsimp only
      obtain ⟨z, hz⟩ : ∃ z, z = (s.frameTaken.setJob .claimWait (some (.dispense n coins))).accept q [b, d] := ⟨_, rfl⟩
      have hcoin := Leads.nextCoin_dispense (s := z.withGrant .payout .change) (n := n) (coins := coins) (by rw [hz]; rfl)
        (by rw [hz]; exact ht)
      have hgrant : Leads 2 [.granted .payout .change] (z.withGrant .payout .change) _ := .act (new := [.nextCoin]) (by rfl) hcoin
      have hplaced := Leads.place (s := z) (by rw [hz]; exact hwaits) (by rw [hz]; exact hnone) (by rw [hz]; exact hfits) hgrant
        (by rw [hz]; exact hwaits.1)
      rw [← hz, hplaced.run_eq (by decide), hz]
      rfl

end Sys2Proof.Machine

/-! ## How a vend ends (04, sections 4.3 to 4.6) -/

namespace Sys2Proof.Machine

/-! ### The steps of an end (R73) -/

/-- The vend `v` leaves the Vend List and the start sequence, its VEND_RESULT raised (R73, steps 3 to 5). -/
def State.vendLeaves (s : State) (v : Vend) (r : VendResult) : State :=
  ((s.modSales fun u => { u with started := u.started.filter fun i => i ≠ v.id }).raise .vendResult (some v.position)
    (resultValues v r.code)).modSales fun u => { u with vends := u.vends.filter fun w => w.id ≠ v.id }

theorem State.vend?_id {s : State} {id : Nat} {v : Vend} (h : s.vend? id = some v) : v.id = id := by
  simpa using List.find?_some h

theorem perform_leaveList {s : State} {id : Nat} {v : Vend} (h : s.vend? id = some v) (r : VendResult) (d : Bool) :
    perform (.leaveList id r d) s =
      (s.vendLeaves v r, .vendReported r v.price v.funding :: if d then [.dispatch] else []) := by
  change s.takeFromList id r d = _
  rw [State.takeFromList, h]
  simp only [State.vendLeaves, State.vend?_id h]
  rfl

/-- The result of the vend `v` recorded, and its position after it (R73, steps 1 and 2; R64). -/
def State.vendRecorded (s : State) (v : Vend) (r : VendResult) : State :=
  (s.modVend v.id fun w => { w with result := some r }).modSelection v.position fun x => x.afterVend r

/-- The end of a vend makes its position SOLD_OUT (R64). -/
def SellsOut (s : State) (v : Vend) (r : VendResult) : Prop :=
  (s.selection v.position).state = .available ∧ ((s.selection v.position).afterVend r).state = .soldOut

theorem perform_endVend {s : State} {id : Nat} {v : Vend} {r : VendResult} (h : s.vend? id = some v) (hsells : ¬ SellsOut s v r)
    (d : Bool) : perform (.endVend id r d) s = (s.vendRecorded v r, [.leaveList id r d]) := by
  change s.recordEnd id r d = _
  unfold State.recordEnd
  rw [h]
  dsimp only
  have hs : ¬ ((s.selection v.position).state = .available ∧ ((s.selection v.position).afterVend r).state = .soldOut) :=
    hsells
  rw [if_neg hs, ← State.vend?_id h]
  rfl

theorem perform_endVend_soldOut {s : State} {id : Nat} {v : Vend} {r : VendResult} (h : s.vend? id = some v)
    (hsells : SellsOut s v r) (d : Bool) :
    perform (.endVend id r d) s =
      (s.vendRecorded v r,
        [.notice .soldOut (some v.position) [((s.selection v.position).afterVend r).missStreak], .reprice,
          (s.vendRecorded v r).cancelAt v.position, .leaveList id r d]) := by
  change s.recordEnd id r d = _
  unfold State.recordEnd
  rw [h]
  dsimp only
  have hs : (s.selection v.position).state = .available ∧ ((s.selection v.position).afterVend r).state = .soldOut := hsells
  rw [if_pos hs, ← State.vend?_id h]
  rfl

/-- Results that change no selection. -/
def VendResult.leavesSelection : VendResult → Bool
  | .delivered | .noDrop => false
  | .jammed | .abortedDoor | .heldCold | .cancelled | .abortedRestart => true

theorem Selection.afterVend_of_leaves {r : VendResult} (h : r.leavesSelection = true) (x : Selection) : x.afterVend r = x := by
  cases r <;> first | rfl | cases h

theorem not_sellsOut_of_leaves {s : State} {v : Vend} {r : VendResult} (h : r.leavesSelection = true) : ¬ SellsOut s v r := by
  rintro ⟨havailable, hsold⟩
  rw [Selection.afterVend_of_leaves h, havailable] at hsold
  cases hsold

/-- A sale that changes no record. -/
theorem State.modSelection_self {s : State} {p : Nat} {f : Selection → Selection} (h : ∀ x, f x = x) :
    s.modSelection p f = s := by
  have hf : f = id := funext h
  have hid : ∀ (n : Nat) (l : List Selection), editAt id n l = l := by
    intro n l
    induction l generalizing n with
    | nil => cases n <;> rfl
    | cons x xs ih => cases n <;> simp [editAt, ih]
  simp only [State.modSelection, State.modSales, hf, hid]

/-! ### The end of the only vend -/

/-- The only vend `v` gone, its position as the end leaves it (R73, steps 2 to 5). -/
def State.onlyVendGone (s : State) (v : Vend) (r : VendResult) : State :=
  { s with
    sales :=
      { s.sales.without v with
        selections := s.sales.selections.set v.position ((s.selection v.position).afterVend r) }
    link := s.link.push (s.notice .vendResult (some v.position) (resultValues v r.code)) }

theorem State.vend?_of_only {s : State} {v : Vend} (h : s.sales.vends = [v]) : s.vend? v.id = some v := by
  simp [State.vend?, h]

/-- The vend of a single list, its result recorded or not. -/
theorem State.vendRecorded_vend? {s : State} {v : Vend} (h : s.sales.vends = [v]) (r : VendResult) :
    (s.vendRecorded v r).vend? v.id = some { v with result := some r } := by
  simp [State.vendRecorded, State.vend?, State.modSelection, State.modVend, h]

theorem State.vendRecorded_leaves {s : State} {v : Vend} (h : s.sales.vends = [v]) (r : VendResult) :
    (s.vendRecorded v r).vendLeaves { v with result := some r } r = s.onlyVendGone v r := by
  unfold State.vendRecorded
  rw [State.modSelection_eq]
  unfold State.vendLeaves State.onlyVendGone State.modVend
  simp only [State.modSales, h, SalesUnit.without]
  simp
  exact ⟨rfl, rfl⟩

/-- With no vend listed a dispatch finds none. -/
theorem Leads.dispatch_nil {s : State} (h : s.sales.vends = []) : Leads 1 [.dispatch] s s := by
  refine .done ?_
  change s.dispatchOne = _
  rw [State.dispatchOne, State.nextToDispatch, h]
  rfl

/-- The dispatch behind the last vend's end. -/
theorem Leads.reported {m : Nat} {a : Act} {s t : State} (d : Bool) (h : Leads m [a] s t) (ht : t.sales.vends = []) :
    Leads (m + 1) (a :: if d then [.dispatch] else []) s t := by
  cases d with
  | true => exact h.andThen (.dispatch_nil ht)
  | false => exact h.mono (Nat.le_succ m)

/-- The only vend ends without its position being sold out. -/
theorem Leads.endVend {m : Nat} {s t : State} {v : Vend} {r : VendResult} {d : Bool} (hvends : s.sales.vends = [v])
    (hsells : ¬ SellsOut s v r) (h : Leads m [.vendReported r v.price v.funding] (s.onlyVendGone v r) t)
    (ht : t.sales.vends = []) : Leads (m + 3) [.endVend v.id r d] s t := by
  have hleave := perform_leaveList (State.vendRecorded_vend? hvends r) r d
  rw [State.vendRecorded_leaves hvends] at hleave
  exact .act (perform_endVend (State.vend?_of_only hvends) hsells d) (.act hleave (.reported d h ht))

/-- SOLD_OUT raised and Max Available Price computed anew behind a record (R64, R50). -/
def State.soldOutAt (s : State) (p streak m : Nat) : State :=
  State.raise { s with change := { s.change with maxPrice := m } } .soldOut (some p) [streak]

theorem State.endTogether_of_none {s : State} {f : Vend → Bool} (h : ∀ v ∈ s.sales.vends, f v = false) (r : VendResult)
    (d : Bool) : Leads 1 [.endVends (s.ending f r) d] s s := by
  have hnone : s.ending f r = [] := by
    rw [State.ending, List.filter_eq_nil_iff.2 fun v hv => by simp [h v hv]]
    rfl
  rw [hnone]
  exact .done (s.endTogether_nil d)

/-- The only vend ends and its position is sold out (R64, R50). -/
theorem Leads.endVend_soldOut {m : Nat} {s t : State} {v : Vend} {r : VendResult} {d : Bool} (hvends : s.sales.vends = [v])
    (hsells : SellsOut s v r)
    (h : Leads m [.vendReported r v.price v.funding]
      ((s.soldOutAt v.position ((s.selection v.position).afterVend r).missStreak
        (highestPrice (s.sales.selections.set v.position ((s.selection v.position).afterVend r)) s.plant.lockout)).onlyVendGone
          v r) t)
    (ht : t.sales.vends = []) : Leads (m + 6) [.endVend v.id r d] s t := by
  obtain ⟨w, hw⟩ : ∃ w, w = s.vendRecorded v r := ⟨_, rfl⟩
  obtain ⟨z, hz⟩ : ∃ z, z =
      (w.raise .soldOut (some v.position) [((s.selection v.position).afterVend r).missStreak]).repriceNow := ⟨_, rfl⟩
  have hwvends : w.sales.vends = [{ v with result := some r }] := by
    rw [hw]
    simp [State.vendRecorded, State.modSelection, State.modVend, hvends]
  have hzsales : z.sales = w.sales := by
    rw [hz]
    rfl
  have hcancels : Leads 1 [w.cancelAt v.position] z z := by
    have hends : w.cancelAt v.position =
        .endVends (z.ending (fun x => x.waits && x.position = v.position) .cancelled) true := by
      rw [State.cancelAt, State.ending, State.ending, hzsales]
    rw [hends]
    refine State.endTogether_of_none (fun x hx => ?_) _ _
    rw [hzsales, hwvends, List.mem_singleton] at hx
    rw [hx]
    rfl
  have hvend : z.vend? v.id = some { v with result := some r } := by
    simp [State.vend?, hzsales, hwvends]
  have hgone : z.vendLeaves { v with result := some r } r =
      (s.soldOutAt v.position ((s.selection v.position).afterVend r).missStreak
        (highestPrice (s.sales.selections.set v.position ((s.selection v.position).afterVend r)) s.plant.lockout)).onlyVendGone
          v r := by
    rw [hz, hw]
    unfold State.vendRecorded
    rw [State.modSelection_eq]
    unfold State.vendLeaves State.onlyVendGone State.soldOutAt State.modVend State.repriceNow
    simp only [State.modSales, hvends, SalesUnit.without]
    simp
    exact ⟨rfl, rfl, rfl⟩
  have hleave := perform_leaveList hvend r d
  rw [hgone] at hleave
  have hperform := perform_endVend_soldOut (State.vend?_of_only hvends) hsells d
  rw [← hw] at hperform
  refine .act hperform ?_
  have hnotice : Leads 1 [.notice .soldOut (some v.position) [((s.selection v.position).afterVend r).missStreak]] w _ := .done rfl
  have hreprice : Leads 1 [.reprice] _ z := .done (by rw [hz]; rfl)
  exact (hnotice.andThen (hreprice.andThen (hcancels.andThen (.act hleave (.reported d h ht))))).mono (by omega)

/-! ### What the session does with an end (R24, R31, R34) -/

/-- A last vend that is not delivered, in an OPEN session. -/
theorem Leads.vendReported_open {s : State} {r : VendResult} {n : Nat} {f : Funding} (hvends : s.sales.vends = [])
    (hopen : s.credit.session.state = .opened) (hr : r ≠ .delivered) : Leads 1 [.vendReported r n f] s s := by
  refine .done ?_
  change s.takeVendEnd r n f = _
  simp [State.takeVendEnd, hr, hvends, hopen]

/-- A last vend that ends in CLOSE_WAIT completes the close. -/
theorem Leads.vendReported_closeWait {m : Nat} {s t : State} {r : VendResult} {n : Nat} {f : Funding}
    (hvends : s.sales.vends = []) (hwait : s.credit.session.state = .closeWait) (hr : r ≠ .delivered)
    (h : Leads m [.completeClose] s t) : Leads (m + 1) [.vendReported r n f] s t := by
  refine .act ?_ h
  change s.takeVendEnd r n f = _
  simp [State.takeVendEnd, hr, hvends, hwait]

/-- The price of a delivered vend charged (R24). -/
def Session.chargedFor (x : Session) (price : Nat) (f : Funding) : Session :=
  if f = .cash then { x with charged := x.charged + price, delivered := min 255 (x.delivered + 1) }
  else { x with cardUsed := x.cardUsed + price, delivered := min 255 (x.delivered + 1) }

theorem State.charge_eq {s : State} {n : Nat} {f : Funding} (hf : f = .cash ∨ f = .card)
    (hstate : s.credit.session.state = .opened ∨ s.credit.session.state = .closeWait) :
    s.charge n f = s.modSession fun x => x.chargedFor n f := by
  rw [State.charge, if_pos hstate]
  obtain rfl | rfl := hf <;> rfl

theorem Leads.vendReported_delivered_open {s : State} {n : Nat} {f : Funding} (hf : f = .cash ∨ f = .card)
    (hvends : s.sales.vends = []) (hopen : s.credit.session.state = .opened) (hmulti : s.credit.policy.multiVend = true) :
    Leads 1 [.vendReported .delivered n f] s (s.modSession fun x => x.chargedFor n f) := by
  have hstate : (s.modSession fun x => x.chargedFor n f).credit.session.state = .opened := by
    change (s.credit.session.chargedFor n f).state = _
    unfold Session.chargedFor
    split <;> exact hopen
  have hpolicy : (s.modSession fun x => x.chargedFor n f).credit.policy.multiVend = true := hmulti
  have hempty : (s.modSession fun x => x.chargedFor n f).sales.vends.isEmpty = true := by
    change s.sales.vends.isEmpty = true
    rw [hvends]
    rfl
  refine .done ?_
  change s.takeVendEnd .delivered n f = _
  rw [State.takeVendEnd, if_pos rfl, State.charge_eq hf (.inl hopen)]
  simp only [hempty, hstate, hpolicy]
  rfl

/-- A last vend that is delivered closes a session with Multi-vend off, and one in CLOSE_WAIT (R31, R34). -/
theorem Leads.vendReported_delivered_closes {m : Nat} {s t : State} {n : Nat} {f : Funding} (hf : f = .cash ∨ f = .card)
    (hvends : s.sales.vends = [])
    (hcloses : s.credit.session.state = .closeWait
      ∨ s.credit.session.state = .opened ∧ s.credit.policy.multiVend = false)
    (h : Leads m [.completeClose] (s.modSession fun x => x.chargedFor n f) t) :
    Leads (m + 4) [.vendReported .delivered n f] s t := by
  obtain ⟨u, hu⟩ : ∃ u, u = s.modSession fun x => x.chargedFor n f := ⟨_, rfl⟩
  have hustate : u.credit.session.state = s.credit.session.state := by
    rw [hu]
    change (s.credit.session.chargedFor n f).state = _
    unfold Session.chargedFor
    split <;> rfl
  have hupolicy : u.credit.policy = s.credit.policy := by rw [hu]; rfl
  have huvends : u.sales.vends = [] := by rw [hu]; exact hvends
  have hcharge : s.charge n f = u := by
    rw [State.charge_eq hf (by obtain h | ⟨h, -⟩ := hcloses <;> simp [h]), hu]
  rw [← hu] at h
  obtain hwait | ⟨hopen, hmulti⟩ := hcloses
  · refine (Leads.act (new := [.completeClose]) ?_ h).mono (by omega)
    change s.takeVendEnd .delivered n f = _
    rw [State.takeVendEnd, if_pos rfl, hcharge]
    simp only [huvends, hustate, hwait]
    rfl
  · refine Leads.act (new := [.closeRequest]) ?_ (Leads.closeRequest (hustate.trans hopen) huvends h)
    change s.takeVendEnd .delivered n f = _
    rw [State.takeVendEnd, if_pos rfl, hcharge]
    simp only [huvends, hustate, hopen, hupolicy, hmulti]
    rfl

end Sys2Proof.Machine

/-! ## The motor groups (05) -/

namespace Sys2Proof.Machine

/-! ### A change of one group -/

@[simp] theorem State.group_modGroup_self (s : State) (g : Group) (f : GroupRec → GroupRec) :
    (s.modGroup g f).group g = f (s.group g) := by
  cases g <;> rfl

theorem State.modGroup_modGroup (s : State) (g : Group) (f h : GroupRec → GroupRec) :
    (s.modGroup g f).modGroup g h = s.modGroup g fun r => h (f r) := by
  cases g <;> rfl

theorem State.modGroup_congr {s : State} {g : Group} {f h : GroupRec → GroupRec} (e : f (s.group g) = h (s.group g)) :
    s.modGroup g f = s.modGroup g h := by
  cases g
  · exact congrArg (fun r => { s with drive := { s.drive with a := r } }) e
  · exact congrArg (fun r => { s with drive := { s.drive with b := r } }) e

/-- A change that leaves a group as it is. -/
theorem State.modGroup_self {s : State} {g : Group} {f : GroupRec → GroupRec} (e : f (s.group g) = s.group g) :
    s.modGroup g f = s := by
  cases g
  · exact congrArg (fun r => { s with drive := { s.drive with a := r } }) e
  · exact congrArg (fun r => { s with drive := { s.drive with b := r } }) e

/-- The load changed behind a change of a group. -/
theorem State.modGroup_load (s : State) (g : Group) (f : GroupRec → GroupRec) (l : LoadUnit) :
    { s.modGroup g f with load := l } = State.modGroup { s with load := l } g f := by
  cases g <;> rfl

/-! ### Energizing (R79) -/

theorem perform_startHeld_none {s : State} {g : Group} (h : (s.group g).held = none) : perform (.startHeld g) s = (s, []) := by
  change s.startHeldRequest g = _
  rw [State.startHeldRequest, h]
  cases (s.group g).state <;> rfl

/-- The held request energized in an IDLE group (R82, R87). -/
theorem perform_startHeld {s : State} {g : Group} {p : Nat} {o : Owner} (hidle : (s.group g).state = .idle)
    (hheld : (s.group g).held = some (p, o)) :
    perform (.startHeld g) s =
      (s.modGroup g fun r => { r.energize (energized p o (s.pins.away.getLsbD p) s.now) with held := none }, []) := by
  change s.startHeldRequest g = _
  rw [State.startHeldRequest, hidle, hheld]
  dsimp only
  rw [State.energize, State.modGroup_modGroup]
  cases g <;> rfl

theorem State.requestTurn_idle {s : State} {p : Nat} (o : Owner) (h : (s.group (groupOf p)).state = .idle) :
    s.requestTurn p o =
      s.modGroup (groupOf p) fun r => r.energize (energized p o (s.pins.away.getLsbD p) s.now) := by
  rw [State.requestTurn, h]
  rfl

theorem State.requestTurn_stopped {s : State} {p since : Nat} (o : Owner) (h : (s.group (groupOf p)).state = .stopped since) :
    s.requestTurn p o = s.modGroup (groupOf p) fun r => { r with held := some (p, o) } := by
  rw [State.requestTurn, h]

/-! ### The end of Fault Rest (R87) -/

theorem exec_faultRestEnd_stopped {s : State} {g : Group} {since : Nat} (h : (s.group g).state = .stopped since) :
    exec (.faultRestEnd g) s =
      .next (run ((s.reach (since + 1000)).modGroup g fun r => { r with state := .idle }) [.startHeld g]) := by
  change execFaultRestEnd g s = _
  rw [execFaultRestEnd, h]
  rfl

theorem exec_faultRestEnd_other {s : State} {g : Group} (h : ∀ since, (s.group g).state ≠ .stopped since) :
    exec (.faultRestEnd g) s = .next s := by
  change execFaultRestEnd g s = _
  rw [execFaultRestEnd]
  cases hstate : (s.group g).state with
  | stopped since => exact absurd hstate (h since)
  | idle => rfl
  | starting t => rfl
  | turning t => rfl

theorem faultRest_ends (s : State) (g : Group) (since : Nat) (h : (s.group g).state = .stopped since) :
    let now := max s.now (since + 1000)
    ((s.group g).held = none →
        exec (.faultRestEnd g) s =
          .next (State.conclude (State.modGroup { s with now := now } g fun r => { r with state := .idle })))
      ∧ ∀ p o, (s.group g).held = some (p, o) →
        exec (.faultRestEnd g) s =
          .next
            (State.conclude
              (State.modGroup { s with now := now } g fun r =>
                { r.energize (energized p o (s.pins.away.getLsbD p) now) with held := none })) := by
  intro now
  obtain ⟨u, hu⟩ : ∃ u, u = (s.reach (since + 1000)).modGroup g fun r => { r with state := .idle } := ⟨_, rfl⟩
  have hgroup : u.group g = { s.group g with state := .idle } := by
    rw [hu]
    exact State.group_modGroup_self _ _ _
  rw [exec_faultRestEnd_stopped h, ← hu]
  constructor
  · intro hheld
    have hlead : Leads 1 [.startHeld g] u u := .done (perform_startHeld_none (by rw [hgroup]; exact hheld))
    rw [hlead.run_eq (by decide), hu]
    rfl
  · intro p o hheld
    have hlead := Leads.done (perform_startHeld (s := u) (by rw [hgroup]) (by rw [hgroup]; exact hheld))
    rw [hlead.run_eq (by decide), hu, State.modGroup_modGroup]
    cases g <;> rfl

/-! ### MOTOR_TEST (R91, R92) -/

theorem exec_motorTest (seq b : Byte) (rest : List Byte) (s : State) :
    exec (.motorTest seq (b :: rest)) s =
      match s.frameTaken.testRefusal b.toNat with
      | some why => .next (s.frameTaken.refuse seq why)
      | none =>
        .next
          (run
            ((s.frameTaken.modGroup (groupOf b.toNat) fun r => { r with test := some b.toNat }).accept seq
              [b, u8 (Group.code (groupOf b.toNat))])
            [.place (.motor (groupOf b.toNat)) .test]) := by
  change execMotorTest seq (b :: rest) s = _
  rw [execMotorTest, if_neg (by simp)]
  simp only [byteAt, List.getD_cons_zero, u8_toNat] <;> rfl

/-- The claim of a test granted at once behind the reply; `t` is what its turn request leaves (R92). -/
theorem motorTest_granted {s t : State} {seq b : Byte} {rest : List Byte} (hmode : s.tables.mode = .service)
    (hb : b.toNat ≤ 63) (htest : (s.group (groupOf b.toNat)).test = none) (hgrants : GrantsMotor s (groupOf b.toNat))
    (ht : State.requestTurn
      (State.modGroup
        { s.frameTaken.accept seq [b, if b.toNat < 32 then 0 else 1] with
          load := { s.load with granted := s.load.granted ++ [grantNow s (.motor (groupOf b.toNat)) .test] } }
        (groupOf b.toNat) fun r => { r with test := some b.toNat })
      b.toNat .test = t)
    (hload : t.load.queue = []) : exec (.motorTest seq (b :: rest)) s = .next t.conclude := by
  obtain ⟨hwaits, hnone, hfits⟩ := hgrants
  have hrefusal : s.frameTaken.testRefusal b.toNat = none := by
    rw [State.testRefusal, if_neg (by simpa using hmode), if_neg (by omega), if_neg (by
      change ¬ (s.group (groupOf b.toNat)).test.isSome = true
      rw [htest]
      exact Bool.false_ne_true)]
  have hcode : u8 (Group.code (groupOf b.toNat)) = if b.toNat < 32 then (0 : Byte) else 1 := by
    unfold groupOf
    split <;> rfl
  rw [exec_motorTest, hrefusal, hcode]
  generalize groupOf b.toNat = g at hnone hfits ht ⊢
  obtain ⟨u, hu⟩ : ∃ u, u = (s.frameTaken.modGroup g fun r => { r with test := some b.toNat }).accept seq
    [b, if b.toNat < 32 then (0 : Byte) else 1] := ⟨_, rfl⟩
  have huload : u.load = s.load := by
    rw [hu]
    cases g <;> rfl
  have hnow : u.now = s.now := by
    rw [hu]
    cases g <;> rfl
  have hgranted : u.withGrant (.motor g) .test =
      State.modGroup
        { s.frameTaken.accept seq [b, if b.toNat < 32 then 0 else 1] with
          load := { s.load with granted := s.load.granted ++ [grantNow s (.motor g) .test] } }
        g fun r => { r with test := some b.toNat } := by
    rw [hu]
    cases g <;> rfl
  have hgrant : Leads 1 [.granted (.motor g) .test] (u.withGrant (.motor g) .test) t := by
    refine .done ?_
    change (u.withGrant (.motor g) .test).testGranted g = _
    rw [hgranted, State.testGranted, State.group_modGroup_self]
    exact congrArg (fun x => (x, [])) ht
  have hplace := Leads.place (s := u) (k := .motor g) (o := .test) (by rw [NothingWaits, huload]; exact hwaits)
    (by rw [huload]; exact hnone) (by rw [huload]; exact hfits) hgrant hload
  rw [← hu]
  exact congrArg Host.Outcome.next (hplace.run_eq (by decide))

/-- Settles O37: the refusals are the branches of the test's refusal, the claim is granted at once and its turn request is taken by
the state of the group; the end of Fault Rest starts the held request. -/
theorem motorTestTaken : Obligations.MotorTestTaken := by
  refine ⟨faultRest_ends, ?_, fun s seq => rfl, ?_⟩
  · intro s g t hstate
    refine exec_faultRestEnd_other fun since hstopped => ?_
    rw [hstopped] at hstate
    simp at hstate
  · intro s seq b rest
    refine ⟨?_, ?_, ?_, ?_⟩
    · intro hmode
      rw [exec_motorTest, State.testRefusal, if_pos (by exact hmode)]
    · intro hmode hb
      rw [exec_motorTest, State.testRefusal, if_neg (by simpa using hmode), if_pos hb]
    · intro hmode hb htest
      rw [exec_motorTest, State.testRefusal, if_neg (by simpa using hmode), if_neg (by omega), if_pos (by
        exact Option.isSome_iff_ne_none.2 htest)]
    · intro hmode hb htest hgrants
      have hqueue := hgrants.1.1
      constructor
      · intro hidle
        refine motorTest_granted hmode hb htest hgrants ?_ (by
          cases groupOf b.toNat <;> exact hqueue)
        rw [State.requestTurn_idle _ (by rw [State.group_modGroup_self]; exact hidle), State.modGroup_modGroup]
        cases groupOf b.toNat <;> rfl
      · intro since hstopped
        refine motorTest_granted hmode hb htest hgrants ?_ (by
          cases groupOf b.toNat <;> exact hqueue)
        rw [State.requestTurn_stopped _ (by rw [State.group_modGroup_self]; exact hstopped), State.modGroup_modGroup]

end Sys2Proof.Machine

/-! ## Home events (05, sections 5.1 and 5.2) -/

namespace Sys2Proof.Machine

/-! ### The only vend -/

theorem State.turningVend_of_only {s : State} {v : Vend} {g : Group} (hvends : s.sales.vends = [v]) (hresult : v.result = none)
    (hstate : v.state = .turning) (hg : groupOf v.position = g) : s.turningVend g = some v := by
  simp [State.turningVend, Vend.unfinished, hvends, hresult, hstate, hg]

theorem State.modVend_of_only {s : State} {v : Vend} (h : s.sales.vends = [v]) (f : Vend → Vend) :
    s.modVend v.id f = { s with sales := { s.sales with vends := [f v] } } := by
  simp only [State.modVend, State.modSales, h]
  simp

/-- No vend is QUEUED, so a dispatch finds none. -/
theorem Leads.dispatch_none {s : State}
    (h : ∀ v ∈ s.sales.vends, v.state = .queued → s.groupBusy (groupOf v.position) = true) : Leads 1 [.dispatch] s s := by
  have hnone : s.nextToDispatch = none := by
    rw [State.nextToDispatch, List.find?_eq_none]
    intro v hv htake
    simp only [Bool.and_eq_true, decide_eq_true_eq, Bool.not_eq_true'] at htake
    obtain ⟨⟨-, hqueued⟩, hfree⟩ := htake
    rw [h v hv hqueued] at hfree
    cases hfree
  refine .done ?_
  change s.dispatchOne = _
  rw [State.dispatchOne, hnone]

/-! ### The reports of a turn's end (R70, R93) -/

/-- A test ends: its claim is released (R93). -/
theorem Leads.endTest {s : State} {g : Group} (hwaits : NothingWaits s) {a : Act}
    (ha : perform a s = s.endTest g) :
    Leads 3 [a] s (State.modGroup { s with load := s.load.released (.motor g) .test } g fun r => { r with test := none }) := by
  have hload : (s.modGroup g fun r => { r with test := none }).load = s.load := by cases g <;> rfl
  have hrelease := Leads.release (s := s.modGroup g fun r => { r with test := none })
    (by rw [NothingWaits, hload]; exact hwaits) (.motor g) .test
  rw [hload, State.modGroup_load] at hrelease
  exact .act ha hrelease

/-- A vend whose turn has ended normally, its item not fallen, waits for the drop (R70). -/
theorem perform_vendTurned {s : State} {g : Group} {v : Vend} (hvends : s.sales.vends = [v]) (hresult : v.result = none)
    (hstate : v.state = .turning) (hg : groupOf v.position = g) (hearly : v.droppedEarly = false) :
    perform (.vendTurned g) s =
      ({ s with sales := { s.sales with vends := [{ v with state := .dropWait s.now }] } }, [.dispatch]) := by
  change s.turnDone g = _
  rw [State.turnDone, State.turningVend_of_only hvends hresult hstate hg]
  dsimp only
  rw [if_neg (by simp [hearly]), State.modVend_of_only hvends]

theorem Leads.vendTurned {s : State} {g : Group} {v : Vend} (hvends : s.sales.vends = [v]) (hresult : v.result = none)
    (hstate : v.state = .turning) (hg : groupOf v.position = g) (hearly : v.droppedEarly = false) :
    Leads 2 [.vendTurned g] s { s with sales := { s.sales with vends := [{ v with state := .dropWait s.now }] } } := by
  refine .act (perform_vendTurned hvends hresult hstate hg hearly) (.dispatch_none fun w hw hqueued => ?_)
  rw [List.mem_singleton.1 hw] at hqueued
  cases hqueued

/-- A vend's turn has ended: its claim is released, and the vend goes on (R70). -/
theorem Leads.turnEnded_vend {n : Nat} {s t : State} {g : Group} (hwaits : NothingWaits s)
    (h : Leads n [.vendTurned g] { s with load := s.load.released (.motor g) .vend } t) :
    Leads (n + 3) [.turnEnded g .vend] s t :=
  (Leads.act rfl ((Leads.release hwaits (.motor g) .vend).andThen h)).mono (by omega)

/-! ### Leaves -/

theorem State.turnAt_eq_none {s : State} {p : Nat}
    (h : ∀ t, t.position = p → (s.group (groupOf p)).state ≠ .starting t ∧ (s.group (groupOf p)).state ≠ .turning t) :
    s.turnAt p = none := by
  rw [State.turnAt, GroupRec.turn?]
  cases hstate : (s.group (groupOf p)).state with
  | idle => rfl
  | stopped since => rfl
  | starting t => simpa using fun hp => (h t hp).1 hstate
  | turning t => simpa using fun hp => (h t hp).2 hstate

theorem State.turnAt_of_position {s : State} {p : Nat} {t : Turn} (hp : t.position = p)
    (h : (s.group (groupOf p)).state = .starting t ∨ (s.group (groupOf p)).state = .turning t) : s.turnAt p = some t := by
  rw [State.turnAt, GroupRec.turn?]
  obtain h | h := h <;> rw [h] <;> simp [hp]

/-! ### Returns -/

theorem exec_homeReturn_turning {s : State} {p : Nat} {t : Turn} (h : (s.group (groupOf p)).state = .turning t)
    (hp : t.position = p) :
    exec (.homeReturn p) s =
      .next (run ((s.setAway p false).modGroup (groupOf p) fun r => { r with state := .idle })
        [.turnEnded (groupOf p) t.owner, .startHeld (groupOf p)]) := by
  change execHomeReturn p s = _
  rw [execHomeReturn, State.turningAt, State.setAway_group, h]
  dsimp only
  rw [if_pos hp]
  rfl

theorem exec_homeReturn_other {s : State} {p : Nat}
    (h : ∀ t, t.position = p → (s.group (groupOf p)).state ≠ .turning t) :
    exec (.homeReturn p) s = .next (s.setAway p false) := by
  have hnone : (s.setAway p false).turningAt p = none := by
    rw [State.turningAt, State.setAway_group]
    cases hstate : (s.group (groupOf p)).state with
    | idle => rfl
    | stopped since => rfl
    | starting t => rfl
    | turning t => exact if_neg fun hp => h t hp hstate
  change execHomeReturn p s = _
  rw [execHomeReturn, hnone]

/-- A return that ends a turn: behind the report of its end, what starting the held request leaves. -/
theorem homeReturn_ends {n : Nat} {s u w : State} {p : Nat} {t : Turn} {g : Group} (hg : groupOf p = g)
    (h : (s.group g).state = .turning t) (hp : t.position = p)
    (hends : Leads n [.turnEnded g t.owner] ((s.setAway p false).modGroup g fun r => { r with state := .idle }) u)
    (hheld : perform (.startHeld g) u = (w, [])) (hn : n ≤ 4095) : exec (.homeReturn p) s = .next w.conclude := by
  subst hg
  rw [exec_homeReturn_turning h hp, (hends.andThen (.done hheld)).run_eq (by omega)]

/-- The end of a turn of group `g` by a return of its position, by the owner and the held request. -/
theorem homeReturn_turning (s : State) (p : Nat) (t : Turn) (g : Group) (hg : groupOf p = g)
    (hturning : (s.group g).state = .turning t) (hp : t.position = p) (hwaits : NothingWaits s) :
    let home := (s.setAway p false).pins
    (t.owner = .test → (s.group g).held = none →
        exec (.homeReturn p) s =
          .next
            (State.conclude
              (State.modGroup { s with pins := home, load := s.load.released (.motor g) .test } g fun r =>
                { r with state := .idle, test := none })))
      ∧ (t.owner = .test → ∀ q, (s.group g).held = some (q, .vend) →
        exec (.homeReturn p) s =
          .next
            (State.conclude
              (State.modGroup { s with pins := home, load := s.load.released (.motor g) .test } g fun r =>
                { r.energize (energized q .vend (home.away.getLsbD q) s.now) with held := none, test := none })))
      ∧ (t.owner = .vend → (s.group g).held = none → ∀ v, OnlyVend s v → v.state = .turning → groupOf v.position = g →
        v.droppedEarly = false →
        exec (.homeReturn p) s =
          .next
            (State.conclude
              (State.modGroup
                { s with
                  pins := home
                  load := s.load.released (.motor g) .vend
                  sales := { s.sales with vends := [{ v with state := .dropWait s.now }] } }
                g
                fun r => { r with state := .idle }))) := by
  intro home
  obtain ⟨u, hu⟩ : ∃ u, u = (s.setAway p false).modGroup g fun r => { r with state := .idle } := ⟨_, rfl⟩
  have hgroup : u.group g = { s.group g with state := .idle } := by
    rw [hu]
    exact State.group_modGroup_self _ _ _
  have huload : u.load = s.load := by rw [hu]; cases g <;> rfl
  have huwaits : NothingWaits u := by rw [NothingWaits, huload]; exact hwaits
  refine ⟨?_, ?_, ?_⟩
  · intro howner hheld
    refine homeReturn_ends hg hturning hp (by rw [howner, ← hu]; exact .endTest huwaits rfl)
      (perform_startHeld_none ?_) (by decide) |>.trans ?_
    · rw [State.group_modGroup_self]
      exact (congrArg GroupRec.held hgroup).trans hheld
    · rw [huload, hu]
      cases g <;> rfl
  · intro howner q hheld
    refine homeReturn_ends hg hturning hp (by rw [howner, ← hu]; exact .endTest huwaits rfl)
      (perform_startHeld (p := q) (o := .vend) ?_ ?_) (by decide) |>.trans ?_
    · rw [State.group_modGroup_self]
      exact congrArg GroupRec.state hgroup
    · rw [State.group_modGroup_self]
      exact (congrArg GroupRec.held hgroup).trans hheld
    · rw [huload, hu, State.modGroup_modGroup]
      cases g <;> rfl
  · intro howner hheld v honly hstate hposition hearly
    obtain ⟨hvends, hresult, -⟩ := honly
    have huvends : u.sales.vends = [v] := by rw [hu]; cases g <;> exact hvends
    refine homeReturn_ends hg hturning hp
      (by rw [howner, ← hu]; exact .turnEnded_vend huwaits (.vendTurned huvends hresult hstate hposition hearly))
      (perform_startHeld_none ?_) (by decide) |>.trans ?_
    · exact (congrArg GroupRec.held hgroup).trans hheld
    · rw [huload, hu]
      cases g <;> rfl

/-- Settles O34: a leave and a return are taken of the energized position alone; the return that ends a turn releases the claim,
and the group then starts its held request. -/
theorem homeEvents : Obligations.HomeEvents := by
  refine ⟨?_, ?_, ?_, ?_⟩
  · intro s p t hp hstate
    change Host.Outcome.next ((s.setAway p true).leaveHome p) = _
    rw [State.leaveHome, State.turnAt_of_position hp (by rw [State.setAway_group]; exact hstate)]
    rfl
  · intro s p hno
    constructor
    · change Host.Outcome.next ((s.setAway p true).leaveHome p) = _
      rw [State.leaveHome, State.turnAt_eq_none (by rw [State.setAway_group]; exact hno)]
      rfl
    · exact exec_homeReturn_other fun t ht => (hno t ht).2
  · intro s p t hstarting
    refine exec_homeReturn_other fun t' _ hturning => ?_
    rw [hstarting] at hturning
    cases hturning
  · intro s p t hturning hp hwaits
    exact homeReturn_turning s p t (groupOf p) rfl hturning hp hwaits

end Sys2Proof.Machine

/-! ## VEND (04, sections 4.2 and 4.3) -/

namespace Sys2Proof.Machine

/-! ### The refusals (R65) -/

theorem State.sellable_iff (s : State) (p : Nat) : s.sellable p = true ↔ Sellable s p := by
  simp only [State.sellable, Selection.sellable, Sellable, Bool.and_eq_true, decide_eq_true_eq, Bool.not_eq_true',
    Bool.and_eq_false_iff, decide_eq_false_iff_not, not_and_or, and_assoc, Bool.not_eq_true]

theorem exec_vend (seq b : Byte) (rest : List Byte) (s : State) :
    exec (.vend seq (b :: rest)) s =
      if 63 < b.toNat then .next (s.frameTaken.refuse seq .badArgument)
      else if s.tables.mode ≠ .sales then .next (s.frameTaken.refuse seq .badMode)
      else
        match s.credit.session.state with
        | .opened => .next (runDoing (s.frameTaken.judgeVend seq b.toNat))
        | .idle =>
          if s.credit.carried = 0 then .next (s.frameTaken.refuse seq .noFunds)
          else .next (runDoing (s.frameTaken.openCash.judgeVend seq b.toNat))
        | .closeWait | .payout => .next (s.frameTaken.refuse seq .noFunds) := by
  have hshort : ((b :: rest).length < 1 ∨ 63 < b.toNat) = (63 < b.toNat) := by simp
  change execVend seq (b :: rest) s = _
  simp only [execVend, byteAt, List.getD_cons_zero, hshort]
  rfl

theorem exec_vend_taken {s : State} {seq b : Byte} {rest : List Byte} (hb : b.toNat ≤ 63) (hmode : s.tables.mode = .sales)
    (hopen : s.credit.session.state = .opened) :
    exec (.vend seq (b :: rest)) s = .next (runDoing (s.frameTaken.judgeVend seq b.toNat)) := by
  rw [exec_vend, if_neg (by omega), if_neg (by simpa using hmode), hopen]

theorem runDoing_judgeVend_refused {s : State} {seq : Byte} {p : Nat} {why : Reason} (h : s.vendRefusal p = some why) :
    runDoing (s.judgeVend seq p) = (s.refuse seq why).conclude := by
  rw [State.judgeVend, h]
  rfl

theorem vend_refused {s : State} {seq b : Byte} {rest : List Byte} {why : Reason} (hb : b.toNat ≤ 63)
    (hmode : s.tables.mode = .sales) (hopen : s.credit.session.state = .opened)
    (h : s.frameTaken.vendRefusal b.toNat = some why) :
    exec (.vend seq (b :: rest)) s = .next (s.frameTaken.refuse seq why).conclude := by
  rw [exec_vend_taken hb hmode hopen, runDoing_judgeVend_refused h]

theorem State.funds_cash {s : State} (h : s.credit.session.funding ≠ .card) : s.funds = s.credit.session.cashCredit :=
  if_neg h

theorem State.funds_card {s : State} {c : Card} (hfunding : s.credit.session.funding = .card)
    (hcard : s.credit.session.card = some c) : s.funds = c.limit - s.credit.session.cardUsed := by
  rw [State.funds, if_pos hfunding, Session.cardLeft, hcard]

/-- Settles O29: the refusals are the branches of the command and of its checks 3 to 5, in their order. -/
theorem vendRefused : Obligations.VendRefused := by
  refine ⟨fun s seq => rfl, ?_⟩
  intro s seq b rest
  refine ⟨?_, ?_, ?_, ?_, ?_, ?_, ?_⟩
  · intro hb
    rw [exec_vend, if_pos hb]
  · intro hb hmode
    rw [exec_vend, if_neg (by omega), if_pos hmode]
  · rintro ⟨hb, hmode⟩ hstate
    rw [exec_vend, if_neg (by omega), if_neg (by simpa using hmode)]
    obtain hwait | hpayout | ⟨hidle, hcarried⟩ := hstate
    · rw [hwait]
    · rw [hpayout]
    · rw [hidle]
      exact if_pos hcarried
  · rintro ⟨hb, hmode⟩ hopen hsellable
    have hno : s.frameTaken.sellable b.toNat = false := Bool.eq_false_iff.2 fun h => hsellable ((s.sellable_iff _).1 h)
    refine vend_refused hb hmode hopen ?_
    rw [State.vendRefusal, hno]
    rfl
  · rintro ⟨hb, hmode⟩ hopen hsellable hfull
    have hyes : s.frameTaken.sellable b.toNat = true := (s.sellable_iff _).2 hsellable
    refine vend_refused hb hmode hopen ?_
    rw [State.vendRefusal, hyes, if_neg (by simp), if_pos (by exact hfull)]
  · rintro ⟨hb, hmode⟩ hopen hsellable hroom hpoor
    have hyes : s.frameTaken.sellable b.toNat = true := (s.sellable_iff _).2 hsellable
    have hfunds : s.funds < (s.selection b.toNat).price + (s.sales.vends.map Vend.price).sum := by
      obtain ⟨hfunding, hless⟩ | ⟨c, hfunding, hcard, hless⟩ := hpoor
      · rwa [State.funds_cash hfunding]
      · rwa [State.funds_card hfunding hcard]
    refine vend_refused hb hmode hopen ?_
    rw [State.vendRefusal, hyes, if_neg (by simp), if_neg (by exact Nat.not_le.2 hroom), if_pos (by exact hfunds)]
  · rintro ⟨hb, hmode⟩ hidle hcarried
    rw [exec_vend, if_neg (by omega), if_neg (by simpa using hmode), hidle]
    dsimp only
    rw [if_neg hcarried]
    obtain ⟨w, hw⟩ : ∃ w : State, w =
        { s with
          credit :=
            { s.credit with
              session :=
                { Session.reset with
                  state := .opened, funding := .cash, carriedIn := s.credit.carried, openedAt := s.stamp }
              carried := 0
              changed := true } } := ⟨_, rfl⟩
    have hopened : s.frameTaken.openCash = w.frameTaken := by
      rw [hw]
      rfl
    have htaken : exec (.vend seq (b :: rest)) w = .next (runDoing (w.frameTaken.judgeVend seq b.toNat)) :=
      exec_vend_taken hb (by rw [hw]; exact hmode) (by rw [hw])
    rw [hopened, ← htaken, hw]

/-! ### A motor claim of a vend, granted at once (R69, R79) -/

/-- The vend `v`, which waits for power alone, turning: its claim granted, its position energized. -/
def State.turns (s : State) (v : Vend) (started : List Nat) : State :=
  State.modGroup
    { s.withGrant (.motor (groupOf v.position)) .vend with
      sales := { s.sales with vends := [{ v with state := .turning, turnsMade := v.turnsMade + 1 }], started := started } }
    (groupOf v.position) fun r => r.energize (energized v.position .vend (s.pins.away.getLsbD v.position) s.now)

theorem State.turns_eq (s : State) (v : Vend) (started : List Nat) :
    let turn : Turn :=
      { position := v.position, owner := .vend, energizedAt := s.now, home := .atHome, sampleAt := s.now + 10 }
    s.turns v started =
      State.modGroup
        { s.withGrant (.motor (groupOf v.position)) .vend with
          sales := { s.sales with vends := [{ v with state := .turning, turnsMade := v.turnsMade + 1 }], started := started } }
        (groupOf v.position) fun r =>
          { r with
            state := if s.pins.away.getLsbD v.position then .turning { turn with home := .away } else .starting turn
            highRun := 0, lastCurrent := 0, noMotorChecked := false } := by
  intro turn
  rw [State.turns]
  refine State.modGroup_congr ?_
  rw [GroupRec.energize, energized]
  cases s.pins.away.getLsbD v.position <;> rfl

theorem State.turns_load_queue (s : State) (v : Vend) (started : List Nat) : (s.turns v started).load.queue = s.load.queue := by
  unfold State.turns
  cases groupOf v.position <;> rfl

theorem State.turns_vends (s : State) (v : Vend) (started : List Nat) :
    (s.turns v started).sales.vends = [{ v with state := .turning, turnsMade := v.turnsMade + 1 }] := by
  unfold State.turns
  cases groupOf v.position <;> rfl

theorem Leads.placeMotor {s : State} {v : Vend} (hvends : s.sales.vends = [v]) (hresult : v.result = none)
    (hstate : v.state = .waitPower) (hidle : (s.group (groupOf v.position)).state = .idle)
    (hgrants : GrantsMotor s (groupOf v.position)) :
    Leads 4 [.place (.motor (groupOf v.position)) .vend] s
      (s.turns v (if s.sales.started.contains v.id then s.sales.started else s.sales.started ++ [v.id])) := by
  obtain ⟨hwaits, hnone, hfits⟩ := hgrants
  refine Leads.place (n := 1) hwaits hnone hfits (.done ?_) (by rw [State.turns_load_queue]; exact hwaits.1)
  obtain ⟨w, hw⟩ : ∃ w, w = s.withGrant (.motor (groupOf v.position)) .vend := ⟨_, rfl⟩
  have hwvends : w.sales.vends = [v] := by rw [hw]; exact hvends
  have hpowering : w.poweringVend (groupOf v.position) = some v := by
    simp [State.poweringVend, Vend.unfinished, hwvends, hresult, hstate]
  rw [← hw]
  change w.vendGranted _ = _
  rw [State.vendGranted, hpowering]
  dsimp only
  rw [State.modVend_of_only hwvends, State.requestTurn_idle _ (by rw [hw]; exact hidle), hw]
  rfl

/-- The only vend, QUEUED in a group that is not busy, is dispatched and turns at once (R68). -/
theorem Leads.dispatch_turns {s : State} {v : Vend} (hvends : s.sales.vends = [v]) (hresult : v.result = none)
    (hstate : v.state = .queued) (hidle : (s.group (groupOf v.position)).state = .idle)
    (hgrants : GrantsMotor s (groupOf v.position)) :
    Leads 6 [.dispatch] s
      (s.turns v (if s.sales.started.contains v.id then s.sales.started else s.sales.started ++ [v.id])) := by
  have hnext : s.nextToDispatch = some v := by
    simp [State.nextToDispatch, State.groupBusy, Vend.unfinished, hvends, hresult, hstate]
  have hdispatch : perform .dispatch s =
      ({ s with sales := { s.sales with vends := [{ v with state := .waitPower }] } },
        [.place (.motor (groupOf v.position)) .vend, .dispatch]) := by
    change s.dispatchOne = _
    rw [State.dispatchOne, hnext]
    dsimp only
    rw [State.modVend_of_only hvends]
  obtain ⟨u, hu⟩ : ∃ u : State, u = { s with sales := { s.sales with vends := [{ v with state := .waitPower }] } } := ⟨_, rfl⟩
  rw [← hu] at hdispatch
  have hplace : Leads 4 [.place (.motor (groupOf v.position)) .vend] u
      (s.turns v (if s.sales.started.contains v.id then s.sales.started else s.sales.started ++ [v.id])) := by
    have hturns := Leads.placeMotor (s := u) (v := { v with state := .waitPower }) (by rw [hu]) hresult rfl
      (by rw [hu]; exact hidle) (by rw [hu]; exact hgrants)
    rw [hu] at hturns ⊢
    exact hturns
  refine .act hdispatch (hplace.andThen (.dispatch_none fun w hw hqueued => ?_))
  rw [State.turns_vends, List.mem_singleton] at hw
  rw [hw] at hqueued
  cases hqueued

/-! ### An accepted vend (R66) -/

theorem State.groupBusy_append (s : State) (v : Vend) (hstate : v.state = .queued) (u : State)
    (hu : u.sales.vends = s.sales.vends ++ [v]) (g : Group) : u.groupBusy g = s.groupBusy g := by
  simp [State.groupBusy, hu, hstate]

theorem vend_accepted {s : State} {seq b : Byte} {rest : List Byte} (hb : b.toNat ≤ 63) (hmode : s.tables.mode = .sales)
    (hopen : s.credit.session.state = .opened) (hsellable : Sellable s b.toNat) (hroom : s.sales.vends.length < 4)
    (hfunds : (s.selection b.toNat).price + (s.sales.vends.map Vend.price).sum ≤ s.funds) :
    exec (.vend seq (b :: rest)) s =
      .next
        (run
          { s.frameTaken.accept seq
              ([b, u8 ((s.sales.vends.countP fun w => w.result = none) + 1)]
                ++ u16 (s.funds - ((s.selection b.toNat).price + (s.sales.vends.map Vend.price).sum))) with
            sales := { s.sales with vends := s.sales.vends ++ [s.newVend b.toNat seq], nextId := s.sales.nextId + 1 } }
          [.dispatch]) := by
  have hrefusal : s.frameTaken.vendRefusal b.toNat = none := by
    have hyes : s.frameTaken.sellable b.toNat = true := (s.sellable_iff _).2 hsellable
    rw [State.vendRefusal, hyes, if_neg (by simp), if_neg (by exact Nat.not_le.2 hroom), if_neg (by exact Nat.not_lt.2 hfunds)]
  have hunfinished : (s.sales.vends ++ [s.newVend b.toNat seq]).countP Vend.unfinished =
      (s.sales.vends.countP fun w => w.result = none) + 1 := by
    have hone : Vend.unfinished (s.newVend b.toNat seq) = true := rfl
    rw [List.countP_append, List.countP_singleton, hone]
    congr 1
    exact List.countP_congr fun w _ => by simp [Vend.unfinished]
  have hcommitted : ((s.sales.vends ++ [s.newVend b.toNat seq]).map Vend.price).sum =
      (s.selection b.toNat).price + (s.sales.vends.map Vend.price).sum := by
    simp [State.newVend, Nat.add_comm]
  rw [exec_vend_taken hb hmode hopen, State.judgeVend, hrefusal]
  dsimp only
  rw [State.acceptVend, ← hunfinished, ← hcommitted, u8_toNat]
  rfl

/-- Settles O30: an accepted vend is appended, and the dispatch behind the reply finds none, or the new vend alone. -/
theorem vendAccepted : Obligations.VendAccepted := by
  intro s seq b rest p g session sum figure v u hb hmode hopen hsellable hroom hsum
  have haccepted := vend_accepted (seq := seq) (rest := rest) hb hmode hopen hsellable hroom hsum
  constructor
  · intro hbusy hothers
    rw [haccepted, (Leads.dispatch_none fun w hw hqueued => ?_).run_eq (by decide)]
    · rfl
    · rw [s.groupBusy_append (s.newVend b.toNat seq) rfl _ rfl]
      obtain hold | hnew := List.mem_append.1 hw
      · exact hothers w hold hqueued
      · rw [List.mem_singleton.1 hnew]
        exact hbusy
  · intro hvends hstarted hidle hgrants turn
    obtain ⟨w, hw⟩ : ∃ w : State, w =
        { u with sales := { s.sales with vends := s.sales.vends ++ [v], nextId := s.sales.nextId + 1 } } := ⟨_, rfl⟩
    have hwvends : w.sales.vends = [v] := by rw [hw, hvends]; rfl
    have hturns := Leads.dispatch_turns (s := w) hwvends rfl rfl (by rw [hw]; exact hidle) (by rw [hw]; exact hgrants)
    have hwstarted : w.sales.started = [] := by rw [hw]; exact hstarted
    rw [hwstarted] at hturns
    have hexec : exec (.vend seq (b :: rest)) s = .next (run w [.dispatch]) := by rw [haccepted, hw]; rfl
    rw [hexec, hturns.run_eq (by decide), hw]
    refine congrArg (fun x : State => Host.Outcome.next x.conclude) ?_
    rw [State.turns_eq]
    rfl

end Sys2Proof.Machine

/-! ## QUEUED vends that end together (04, section 4.5) -/

namespace Sys2Proof.Machine

/-! ### Vends leave the list one after another -/

/-- The vends `vs` have left the Vend List and the start sequence, each with its VEND_RESULT (R73). -/
def State.allLeave (s : State) (vs : List Vend) (r : VendResult) : State :=
  { s with
    sales :=
      { s.sales with
        vends := s.sales.vends.filter fun w => !(vs.any fun v => v.id = w.id)
        started := s.sales.started.filter fun i => !(vs.any fun v => v.id = i) }
    link := (vs.map fun v => s.notice .vendResult (some v.position) (resultValues v r.code)).foldl LinkUnit.push s.link }

theorem State.allLeave_nil (s : State) (r : VendResult) : s.allLeave [] r = s := by
  simp [State.allLeave]

theorem State.vendLeaves_allLeave (s : State) (v : Vend) (vs : List Vend) (r : VendResult) :
    (s.vendLeaves v r).allLeave vs r = s.allLeave (v :: vs) r := by
  have hlist : ∀ (l : List Vend),
      (l.filter fun w => decide (w.id ≠ v.id)).filter (fun w => !(vs.any fun x => x.id = w.id)) =
        l.filter fun w => !((v :: vs).any fun x => x.id = w.id) := by
    intro l
    rw [List.filter_filter]
    refine List.filter_congr fun w _ => ?_
    simp [eq_comm, Bool.and_comm]
  have hids : ∀ (l : List Nat),
      (l.filter fun i => decide (i ≠ v.id)).filter (fun i => !(vs.any fun x => x.id = i)) =
        l.filter fun i => !((v :: vs).any fun x => x.id = i) := by
    intro l
    rw [List.filter_filter]
    refine List.filter_congr fun w _ => ?_
    simp [eq_comm, Bool.and_comm]
  unfold State.allLeave
  rw [← hlist, ← hids]
  rfl

/-- No vend of the list could be dispatched. -/
def NoneQueued (s : State) : Prop := ∀ v ∈ s.sales.vends, v.result = none → v.state ≠ .queued

theorem Leads.dispatch_noneQueued {s : State} (h : NoneQueued s) : Leads 1 [.dispatch] s s := by
  have hnone : s.nextToDispatch = none := by
    rw [State.nextToDispatch, List.find?_eq_none]
    intro v hv htake
    simp only [Bool.and_eq_true, decide_eq_true_eq, Vend.unfinished, Option.isNone_iff_eq_none] at htake
    exact h v hv htake.1.1 htake.1.2
  refine .done ?_
  change s.dispatchOne = _
  rw [State.dispatchOne, hnone]

/-- An end that charges nothing does nothing to the session while vends are listed. -/
theorem Leads.vendReported_listed {s : State} {r : VendResult} (n : Nat) (f : Funding) (hr : r ≠ .delivered)
    (h : s.sales.vends ≠ []) : Leads 1 [.vendReported r n f] s s := by
  refine .done ?_
  change s.takeVendEnd r n f = _
  rw [State.takeVendEnd, if_neg hr, if_pos (by simpa using h)]

/-- A vend of a list without two vends of one number is the vend of its number. -/
theorem State.vend?_of_mem {s : State} {v : Vend} (hids : (s.sales.vends.map Vend.id).Nodup) (hv : v ∈ s.sales.vends) :
    s.vend? v.id = some v := by
  unfold State.vend?
  generalize s.sales.vends = vs at hids hv
  induction vs with
  | nil => cases hv
  | cons w ws ih =>
    obtain ⟨hfresh, hids⟩ := List.nodup_cons.1 hids
    obtain rfl | hv := List.mem_cons.1 hv
    · simp
    · have hne : w.id ≠ v.id := fun heq => hfresh (heq ▸ List.mem_map_of_mem (f := Vend.id) hv)
      rw [List.find?_cons_of_neg (by simpa using hne)]
      exact ih hids hv

theorem vend_eq_of_id {vs : List Vend} {v w : Vend} (hids : (vs.map Vend.id).Nodup) (hv : v ∈ vs) (hw : w ∈ vs)
    (h : w.id = v.id) : w = v :=
  List.inj_on_of_nodup_map hids hw hv h

/-- Vends whose result is recorded end one after another, while another vend stays listed (R73). -/
theorem Leads.endEach {r : VendResult} (hr : r.leavesSelection = true) (d : Bool) (vs : List Vend) :
    ∀ s : State, (s.sales.vends.map Vend.id).Nodup → (∀ v ∈ vs, v ∈ s.sales.vends ∧ v.result = some r) →
      (vs.map Vend.id).Nodup → NoneQueued s → (∃ x ∈ s.sales.vends, ∀ v ∈ vs, x.id ≠ v.id) →
      Leads (4 * vs.length) (vs.map fun v => Act.endVend v.id r d) s (s.allLeave vs r) := by
  induction vs with
  | nil =>
    intro s _ _ _ _ _
    rw [s.allLeave_nil]
    exact .nil s
  | cons v vs ih =>
    intro s hids hlisted hnodup hnone hstays
    obtain ⟨hv, hresult⟩ := hlisted v List.mem_cons_self
    obtain ⟨x, hx, hother⟩ := hstays
    have hvend : s.vend? v.id = some v := State.vend?_of_mem hids hv
    have hfresh : ∀ w ∈ vs, w.id ≠ v.id := fun w hw heq =>
      (List.nodup_cons.1 hnodup).1 (heq ▸ List.mem_map_of_mem (f := Vend.id) hw)
    have hrecorded : s.vendRecorded v r = s := by
      have hmap : s.sales.vends.map (fun w => if w.id = v.id then { w with result := some r } else w) = s.sales.vends := by
        refine (List.map_congr_left fun w hw => ?_).trans (List.map_id _)
        split
        · next heq =>
          rw [vend_eq_of_id hids hv hw heq, ← hresult]
          rfl
        · rfl
      have hmod : s.modVend v.id (fun w => { w with result := some r }) = s := by
        simp only [State.modVend, State.modSales, hmap]
      rw [State.vendRecorded, hmod]
      exact State.modSelection_self (Selection.afterVend_of_leaves hr)
    obtain ⟨u, hu⟩ : ∃ u, u = s.vendLeaves v r := ⟨_, rfl⟩
    have huvends : u.sales.vends = s.sales.vends.filter fun w => w.id ≠ v.id := by
      rw [hu]
      rfl
    have hxu : x ∈ u.sales.vends := by
      rw [huvends, List.mem_filter]
      exact ⟨hx, by simpa using hother v List.mem_cons_self⟩
    have hnoneu : NoneQueued u := fun w hw => hnone w (List.mem_of_mem_filter (huvends ▸ hw))
    have hidsu : (u.sales.vends.map Vend.id).Nodup := by
      rw [huvends]
      exact hids.sublist (List.filter_sublist.map _)
    have hrest := ih u hidsu
      (fun w hw => ⟨by
        rw [huvends, List.mem_filter]
        exact ⟨(hlisted w (List.mem_cons_of_mem v hw)).1, by simpa using hfresh w hw⟩,
        (hlisted w (List.mem_cons_of_mem v hw)).2⟩)
      (List.nodup_cons.1 hnodup).2 hnoneu ⟨x, hxu, fun w hw => hother w (List.mem_cons_of_mem v hw)⟩
    rw [hu, s.vendLeaves_allLeave v vs r, ← hu] at hrest
    have hr' : r ≠ .delivered := by
      rintro rfl
      cases hr
    have hreported : Leads 2 (.vendReported r v.price v.funding :: if d then [.dispatch] else []) u u := by
      have hfirst := Leads.vendReported_listed v.price v.funding hr' (List.ne_nil_of_mem hxu)
      cases d with
      | true => exact hfirst.andThen (.dispatch_noneQueued hnoneu)
      | false => exact hfirst.mono (by decide)
    have hend : perform (.endVend v.id r d) s = (s, [.leaveList v.id r d]) := by
      rw [perform_endVend hvend (not_sellsOut_of_leaves hr), hrecorded]
    have hleave : perform (.leaveList v.id r d) s = (u, .vendReported r v.price v.funding :: if d then [.dispatch] else []) := by
      rw [perform_leaveList hvend, hu]
    exact ((Leads.act hend (.act hleave hreported)).andThen hrest).mono (by simp; omega)

/-! ### They end together (R74, R75) -/

/-- The QUEUED vends that meet `f` have ended with the result `r`. -/
def State.queuedEnd (s : State) (f : Vend → Bool) (r : VendResult) : State :=
  { s with
    sales :=
      { s.sales with
        vends := s.sales.vends.filter fun v => !f v
        started := s.sales.started.filter fun i => !((s.sales.vends.filter f).any fun v => v.id = i) }
    link :=
      ((s.sales.vends.filter f).map fun v => s.notice .vendResult (some v.position) (resultValues v r.code)).foldl
        LinkUnit.push s.link }

/-- The record of a vend that is to end has the result of its end, and any other is as it was. -/
theorem State.endedBy_ending {s : State} (hids : (s.sales.vends.map Vend.id).Nodup) (f : Vend → Bool) (r : VendResult)
    {v : Vend} (hv : v ∈ s.sales.vends) :
    v.endedBy (s.ending f r) = if f v = true then { v with result := some r } else v := by
  unfold Vend.endedBy State.ending
  split
  · next e he =>
    have hmem := List.mem_of_find?_eq_some he
    have hkey : e.1 = v.id := by simpa using List.find?_some he
    obtain ⟨w, hw, rfl⟩ := List.mem_map.1 hmem
    obtain ⟨hw, hf⟩ := List.mem_filter.1 hw
    obtain rfl := vend_eq_of_id hids hv hw hkey
    rw [if_pos hf]
  · next hnone =>
    refine (if_neg fun hf => ?_).symm
    have := List.find?_eq_none.1 hnone (v.id, r) (List.mem_map.2 ⟨v, List.mem_filter.2 ⟨hv, hf⟩, rfl⟩)
    simp at this

/-- Vends that have no claim give none back. -/
theorem State.dropVendClaims_queued (s : State) (ends : List (Nat × VendResult))
    (h : ∀ e ∈ ends, ∀ v, s.vend? e.1 = some v → v.state = .queued) : s.dropVendClaims ends = (s, false) := by
  induction ends with
  | nil => rfl
  | cons e es ih =>
    have hdrop : s.dropVendClaim e.1 = (s, []) := by
      rw [State.dropVendClaim]
      split
      · next v hv => rw [h e List.mem_cons_self v hv]
      · rfl
    rw [State.dropVendClaims, hdrop]
    dsimp only
    rw [ih fun x hx => h x (List.mem_cons_of_mem e hx)]
    rfl

theorem Leads.endQueued {s : State} {f : Vend → Bool} {r : VendResult} (hr : r.leavesSelection = true) (d : Bool)
    (hids : (s.sales.vends.map Vend.id).Nodup) (hqueued : ∀ v ∈ s.sales.vends, f v = true → v.state = .queued)
    (hothers : ∀ v ∈ s.sales.vends, f v = false → v.result = none → v.state ≠ .queued)
    (hstays : ∃ v ∈ s.sales.vends, f v = false) :
    Leads (4 * (s.sales.vends.filter f).length + 1) [.endVends (s.ending f r) d] s (s.queuedEnd f r) := by
  obtain ⟨u, hu⟩ : ∃ u, u = s.modSales fun u => { u with vends := u.vends.map fun v => v.endedBy (s.ending f r) } := ⟨_, rfl⟩
  obtain ⟨vs, hvs⟩ : ∃ vs, vs = (s.sales.vends.filter f).map fun v => { v with result := some r } := ⟨_, rfl⟩
  have hrecords : u.sales.vends = s.sales.vends.map fun v => if f v = true then { v with result := some r } else v := by
    rw [hu]
    exact List.map_congr_left fun v hv => s.endedBy_ending hids f r hv
  have hid : ∀ v : Vend, (if f v = true then { v with result := some r } else v).id = v.id := by
    intro v
    split <;> rfl
  have huids : (u.sales.vends.map Vend.id).Nodup := by
    rw [hrecords, List.map_map]
    simpa only [Function.comp_def, hid] using hids
  have hmem : ∀ v ∈ vs, v ∈ u.sales.vends ∧ v.result = some r := by
    intro v hv
    rw [hvs] at hv
    obtain ⟨w, hw, rfl⟩ := List.mem_map.1 hv
    obtain ⟨hw, hf⟩ := List.mem_filter.1 hw
    rw [hrecords]
    exact ⟨List.mem_map.2 ⟨w, hw, if_pos hf⟩, rfl⟩
  have hvsids : vs.map Vend.id = (s.sales.vends.filter f).map Vend.id := by
    rw [hvs, List.map_map]
    rfl
  have hanyid : ∀ i, (vs.any fun v => v.id = i) = (s.sales.vends.filter f).any fun v => v.id = i := by
    intro i
    rw [hvs, List.any_map]
    rfl
  have hnone : NoneQueued u := by
    intro v hv hresult
    rw [hrecords] at hv
    obtain ⟨w, hw, rfl⟩ := List.mem_map.1 hv
    cases hf : f w with
    | true => simp [hf] at hresult
    | false =>
      simp only [hf, Bool.false_eq_true, if_false] at hresult ⊢
      exact hothers w hw hf hresult
  have hending : ∀ w ∈ s.sales.vends, f w = false → ∀ v ∈ vs, w.id ≠ v.id := by
    intro w hw hf v hv heq
    rw [hvs] at hv
    obtain ⟨x, hx, rfl⟩ := List.mem_map.1 hv
    obtain ⟨hx, hfx⟩ := List.mem_filter.1 hx
    obtain rfl := vend_eq_of_id hids hx hw heq
    rw [hf] at hfx
    cases hfx
  have hstaysu : ∃ x ∈ u.sales.vends, ∀ v ∈ vs, x.id ≠ v.id := by
    obtain ⟨w, hw, hf⟩ := hstays
    refine ⟨w, ?_, hending w hw hf⟩
    rw [hrecords]
    exact List.mem_map.2 ⟨w, hw, by simp [hf]⟩
  have hclaims : u.dropVendClaims (s.ending f r) = (u, false) := by
    refine u.dropVendClaims_queued _ fun e he v hv => ?_
    obtain ⟨w, hw, rfl⟩ := List.mem_map.1 he
    obtain ⟨hw, hf⟩ := List.mem_filter.1 hw
    have hwu : { w with result := some r } ∈ u.sales.vends := by
      rw [hrecords]
      exact List.mem_map.2 ⟨w, hw, if_pos hf⟩
    have hvw := State.vend?_of_mem huids hwu
    obtain rfl := Option.some.inj (hv.symm.trans hvw)
    exact hqueued w hw hf
  have hperform : perform (.endVends (s.ending f r) d) s = (u, vs.map fun v => .endVend v.id r d) := by
    change s.endTogether (s.ending f r) d = _
    rw [State.endTogether, ← hu, hclaims, hvs]
    simp [State.ending, Function.comp_def]
  have hleft : u.allLeave vs r = s.queuedEnd f r := by
    have hvends : (u.sales.vends.filter fun w => !(vs.any fun v => v.id = w.id)) = s.sales.vends.filter fun v => !f v := by
      rw [hrecords, List.filter_map]
      have hkeep : ∀ w ∈ s.sales.vends,
          ((fun w => !(vs.any fun v => v.id = w.id)) ∘ fun v => if f v = true then { v with result := some r } else v) w =
            !f w := by
        intro w hw
        simp only [Function.comp_def, hid]
        cases hf : f w with
        | true =>
          rw [Bool.not_true, Bool.not_eq_false', List.any_eq_true]
          refine ⟨{ w with result := some r }, ?_, by simp⟩
          rw [hvs]
          exact List.mem_map.2 ⟨w, List.mem_filter.2 ⟨hw, hf⟩, rfl⟩
        | false =>
          rw [Bool.not_false, Bool.not_eq_true', List.any_eq_false]
          intro v hv heq
          exact hending w hw hf v hv (of_decide_eq_true heq).symm
      rw [List.filter_congr hkeep]
      refine (List.map_congr_left fun w hw => ?_).trans (List.map_id _)
      have hf : f w = false := by simpa using (List.mem_filter.1 hw).2
      simp [hf]
    have hnotices : (vs.map fun v => u.notice .vendResult (some v.position) (resultValues v r.code)) =
        (s.sales.vends.filter f).map fun v => s.notice .vendResult (some v.position) (resultValues v r.code) := by
      rw [hvs, List.map_map, hu]
      rfl
    unfold State.allLeave State.queuedEnd
    rw [hvends, hnotices]
    simp only [hanyid]
    rw [hu]
    rfl
  have heach := Leads.endEach hr d vs u huids hmem
    (by rw [hvsids]; exact hids.sublist (List.filter_sublist.map _)) hnone hstaysu
  rw [hleft, hvs, List.length_map] at heach
  rw [← hvs] at heach
  exact .act hperform heach

end Sys2Proof.Machine

/-! ## The only vend gives back its claim and ends (04, section 4.5) -/

namespace Sys2Proof.Machine

/-- No claim waits in a load, and no placement is held. -/
def LoadUnit.Quiet (l : LoadUnit) : Prop := l.queue = [] ∧ l.held = []

/-- The claim of the only vend given back, before the decision. -/
theorem State.dropVendClaim_only {s : State} {v : Vend} {load : LoadUnit} (hvend : s.vend? v.id = some v)
    (hgone : ClaimGone s v load) (hquiet : load.Quiet) :
    ∃ acts, s.dropVendClaim v.id = ({ s with load := load }, acts) ∧ (acts = [] ∨ acts = [.decide]) := by
  rw [State.dropVendClaim, hvend]
  dsimp only
  obtain ⟨hstate, rfl⟩ | ⟨hturning, rfl⟩ | ⟨hwait, hheld, rfl, ⟨c, hqueue, hkind, howner⟩, hnone⟩ := hgone
  · obtain hqueued | ⟨since, hdrop⟩ := hstate
    · rw [hqueued]
      exact ⟨[], rfl, .inl rfl⟩
    · rw [hdrop]
      exact ⟨[], rfl, .inl rfl⟩
  · rw [hturning]
    exact State.releaseClaim_quiet hquiet _ _
  · rw [hwait]
    refine ⟨[.decide], ?_, .inr rfl⟩
    dsimp only
    have hungranted : ¬ s.load.granted.any (fun g => g.kind = .motor (groupOf v.position) && g.owner = .vend) = true := by
      rw [List.any_eq_true]
      rintro ⟨g, hg, heq⟩
      exact hnone g hg (by simpa using heq)
    rw [State.releaseClaim, if_neg hungranted, State.withdrawClaim, hqueue, if_pos (by simp [hkind, howner])]
    simp only [State.modLoad]
    rw [LoadUnit.letIn_of_held_nil (by exact hheld)]
    simp [hqueue, hkind, howner]

/-- The only vend, its claim given back, ends with a result that leaves its position as it is (R74, R75, R76). -/
theorem Leads.endVends_only {m : Nat} {s t : State} {v : Vend} {r : VendResult} {load : LoadUnit} {d : Bool}
    (hvends : s.sales.vends = [v]) (hgone : ClaimGone s v load) (hquiet : load.Quiet) (hr : r.leavesSelection = true)
    (h : Leads m [.vendReported r v.price v.funding] (State.onlyVendGone { s with load := load } v r) t)
    (ht : t.sales.vends = []) : Leads (m + 5) [.endVends [(v.id, r)] d] s t := by
  obtain ⟨w, hw⟩ : ∃ w : Vend, w = { v with result := some r } := ⟨_, rfl⟩
  obtain ⟨u, hu⟩ : ∃ u : State, u = { s with sales := { s.sales with vends := [w] } } := ⟨_, rfl⟩
  have huvends : u.sales.vends = [w] := by rw [hu]
  have hwid : w.id = v.id := by rw [hw]
  have hgone' : ClaimGone u w load := by
    rw [hu, hw]
    exact hgone
  obtain ⟨acts, hdrop, hacts⟩ := State.dropVendClaim_only (State.vend?_of_only huvends) hgone' hquiet
  have hmarked : (s.modSales fun x => { x with vends := x.vends.map fun y => y.endedBy [(v.id, r)] }) = u := by
    rw [hu, hw]
    simp only [State.modSales, hvends]
    simp [Vend.endedBy]
  have hperform : perform (.endVends [(v.id, r)] d) s =
      ({ u with load := load }, (if (!acts.isEmpty) = true then [Act.decide] else []) ++ [.endVend w.id r d]) := by
    change s.endTogether [(v.id, r)] d = _
    rw [State.endTogether, hmarked, State.dropVendClaims, ← hwid, hdrop]
    simp [State.dropVendClaims]
  have hend : Leads (m + 3) [.endVend w.id r d] { u with load := load } t := by
    refine Leads.endVend (v := w) (by exact huvends) (not_sellsOut_of_leaves hr) ?_ ht
    rw [hu, hw]
    exact h
  refine .act hperform ?_
  obtain rfl | rfl := hacts
  · exact hend.mono (by omega)
  · exact ((Leads.decide_nil (s := { u with load := load }) hquiet.1).andThen hend).mono (by omega)

/-- A vend that waits alone gives its claim back as any only vend does. -/
theorem WaitsAlone.claimGone {s : State} {v : Vend} {load : LoadUnit} (h : WaitsAlone s v load) : ClaimGone s v load := by
  obtain ⟨-, ⟨hqueued, -, hload⟩ | ⟨hwait, hheld, hload, hclaim, hnone⟩⟩ := h
  · exact .inl ⟨.inl hqueued, hload⟩
  · exact .inr (.inr ⟨hwait, hheld, hload, hclaim, hnone⟩)

theorem WaitsAlone.quiet {s : State} {v : Vend} {load : LoadUnit} (h : WaitsAlone s v load) : load.Quiet := by
  obtain ⟨-, ⟨-, hwaits, hload⟩ | ⟨-, hheld, hload, -, -⟩⟩ := h
  · rw [hload]
    exact hwaits
  · rw [hload]
    exact ⟨rfl, hheld⟩

theorem WaitsAlone.waits {s : State} {v : Vend} {load : LoadUnit} (h : WaitsAlone s v load) : v.waits = true := by
  obtain ⟨⟨-, hresult, -⟩, ⟨hqueued, -⟩ | ⟨hwait, -⟩⟩ := h
  · simp [Vend.waits, Vend.unfinished, hresult, hqueued]
  · simp [Vend.waits, Vend.unfinished, hresult, hwait]

/-- The ends of the only vend, when it meets the test. -/
theorem State.ending_of_only {s : State} {v : Vend} {f : Vend → Bool} (hvends : s.sales.vends = [v]) (hf : f v = true)
    (r : VendResult) : s.ending f r = [(v.id, r)] := by
  simp [State.ending, hvends, hf]

/-- A vend that waits alone in an OPEN session ends without a charge. -/
theorem Leads.waitsAlone_ends {s : State} {v : Vend} {load : LoadUnit} {r : VendResult} {f : Vend → Bool} {d : Bool}
    (h : WaitsAlone s v load) (hf : f v = true) (hr : r.leavesSelection = true) :
    Leads 6 [.endVends (s.ending f r) d] s (State.onlyVendGone { s with load := load } v r) := by
  obtain ⟨hvends, -, hopen⟩ := h.1
  rw [State.ending_of_only hvends hf]
  have hr' : r ≠ .delivered := by
    rintro rfl
    cases hr
  exact .endVends_only hvends h.claimGone h.quiet hr (.vendReported_open rfl (by exact hopen) hr') rfl

/-- A position whose end leaves it as it is keeps its record. -/
theorem List.set_getD_self {α : Type} (l : List α) (i : Nat) (d : α) : l.set i (l.getD i d) = l := by
  by_cases h : i < l.length
  · rw [List.getD_eq_getElem _ _ h, List.set_getElem_self]
  · exact List.set_eq_of_length_le (Nat.le_of_not_lt h)

/-- The only vend gone, its position as it was. -/
theorem State.onlyVendGone_leaves {s : State} {v : Vend} {r : VendResult} (hr : r.leavesSelection = true) :
    s.onlyVendGone v r =
      State.raise { s with sales := s.sales.without v } .vendResult (some v.position) (resultValues v r.code) := by
  have hset : s.sales.selections.set v.position ((s.selection v.position).afterVend r) = s.sales.selections := by
    rw [Selection.afterVend_of_leaves hr]
    exact List.set_getD_self _ _ _
  unfold State.onlyVendGone
  rw [hset]
  rfl

end Sys2Proof.Machine

/-! ## The Drop Window's end (04, section 4.3) -/

namespace Sys2Proof.Machine

/-! ### The command -/

theorem exec_dropWindowExpiry {s : State} {n since : Nat} {v : Vend} (hn : 1 ≤ n) (hstarted : s.sales.started[n - 1]? = some v.id)
    (hvend : s.vend? v.id = some v) (hresult : v.result = none) (hstate : v.state = .dropWait since) :
    exec (.dropWindowExpiry n) s = .next (runDoing ((s.reach (since + 1500)).windowOver v)) := by
  obtain ⟨k, rfl⟩ := Nat.exists_eq_add_of_le' hn
  have hwindow : s.windowOf (k + 1) = some (v, since) := by
    rw [Nat.add_sub_cancel] at hstarted
    simp [State.windowOf, hstarted, hvend, Vend.unfinished, hresult, hstate]
  change execDropWindowExpiry (k + 1) s = _
  rw [execDropWindowExpiry, hwindow]
  rfl

theorem exec_dropWindowExpiry_none {s : State} {n : Nat} (h : n = 0 ∨ s.sales.started[n - 1]? = none) :
    exec (.dropWindowExpiry n) s = .next s := by
  have hwindow : s.windowOf n = none := by
    cases n with
    | zero => rfl
    | succ k =>
      have hnone : s.sales.started[k]? = none := by simpa using h
      rw [State.windowOf, hnone]
      rfl
  change execDropWindowExpiry n s = _
  rw [execDropWindowExpiry, hwindow]

/-! ### What a window that is over decides (R71) -/

/-- The lockout holds a position (R71). -/
def HeldCold (s : State) (p : Nat) : Prop := (s.selection p).health = .chilled ∧ s.plant.lockout = true

theorem HeldCold.not_sellable {s : State} {p : Nat} (h : HeldCold s p) : ¬ Sellable s p := fun hs => hs.2.2 h

theorem State.windowOver_noDrop {s : State} {v : Vend}
    (h : (s.selection v.position).addOn < v.turnsMade ∨ ¬ Sellable s v.position ∧ ¬ HeldCold s v.position) :
    s.windowOver v = (s, [.endVend v.id .noDrop true]) := by
  rw [State.windowOver]
  obtain hturns | ⟨hsellable, hcold⟩ := h
  · rw [if_pos hturns]
  · have hno : s.sellable v.position = false := Bool.eq_false_iff.2 fun h => hsellable ((s.sellable_iff _).1 h)
    have hwarm : ¬ ((s.selection v.position).health = .chilled ∧ s.plant.lockout = true) := hcold
    rw [hno]
    split
    · rfl
    · rw [Bool.not_false, if_pos rfl]

theorem State.windowOver_heldCold {s : State} {v : Vend} (hturns : v.turnsMade ≤ (s.selection v.position).addOn)
    (hcold : HeldCold s v.position) : s.windowOver v = (s, [.endVend v.id .heldCold true]) := by
  have hno : s.sellable v.position = false := Bool.eq_false_iff.2 fun h => hcold.not_sellable ((s.sellable_iff _).1 h)
  have hcold' : (s.selection v.position).health = .chilled ∧ s.plant.lockout = true := hcold
  rw [State.windowOver, if_neg (Nat.not_lt.2 hturns), hno, Bool.not_false, if_pos rfl, if_pos hcold']

theorem State.windowOver_busy {s : State} {v : Vend} (hturns : v.turnsMade ≤ (s.selection v.position).addOn)
    (hsellable : Sellable s v.position) (hbusy : s.groupBusy (groupOf v.position) = true) :
    s.windowOver v = (s.modVend v.id fun v => { v with state := .queued }, [.dispatch]) := by
  rw [State.windowOver, if_neg (Nat.not_lt.2 hturns), (s.sellable_iff _).2 hsellable, if_neg (by simp), if_pos hbusy]

theorem State.windowOver_turns {s : State} {v : Vend} (hturns : v.turnsMade ≤ (s.selection v.position).addOn)
    (hsellable : Sellable s v.position) (hfree : s.groupBusy (groupOf v.position) = false) :
    s.windowOver v =
      (s.modVend v.id fun v => { v with state := .waitPower }, [.place (.motor (groupOf v.position)) .vend]) := by
  rw [State.windowOver, if_neg (Nat.not_lt.2 hturns), (s.sellable_iff _).2 hsellable, if_neg (by simp), hfree,
    if_neg (by simp)]

/-! ### What NO_DROP does to a position (R64) -/

theorem Selection.afterVend_noDrop {x : Selection} (h : ¬ (x.state = .available ∧ 2 ≤ min 15 (x.missStreak + 1))) :
    x.afterVend .noDrop = { x with missStreak := min 15 (x.missStreak + 1) } := by
  have hstate : (if x.state = .available ∧ Config.soldOutAt ≤ stopAt 15 x.missStreak 1 then SelectionState.soldOut else x.state) =
      x.state := if_neg h
  rw [Selection.afterVend, hstate]
  rfl

theorem Selection.afterVend_noDrop_soldOut {x : Selection} (havailable : x.state = .available)
    (hstreak : 2 ≤ min 15 (x.missStreak + 1)) :
    x.afterVend .noDrop = { x with missStreak := min 15 (x.missStreak + 1), state := .soldOut } := by
  have hstate : (if x.state = .available ∧ Config.soldOutAt ≤ stopAt 15 x.missStreak 1 then SelectionState.soldOut else x.state) =
      .soldOut := if_pos ⟨havailable, hstreak⟩
  rw [Selection.afterVend, hstate]
  rfl

theorem not_sellsOut_noDrop {s : State} {v : Vend}
    (h : ¬ ((s.selection v.position).state = .available ∧ 2 ≤ min 15 ((s.selection v.position).missStreak + 1))) :
    ¬ SellsOut s v .noDrop := by
  rintro ⟨havailable, hsold⟩
  rw [Selection.afterVend_noDrop h, havailable] at hsold
  cases hsold

theorem sellsOut_noDrop {s : State} {v : Vend} (havailable : (s.selection v.position).state = .available)
    (hstreak : 2 ≤ min 15 ((s.selection v.position).missStreak + 1)) : SellsOut s v .noDrop := by
  refine ⟨havailable, ?_⟩
  rw [Selection.afterVend_noDrop_soldOut havailable hstreak]

/-! ### A second vend that is QUEUED (R74) -/

/-- The second vend `w` CANCELLED beside the first. -/
def State.secondCancelled (s : State) (v w : Vend) : State :=
  State.raise { s with sales := { s.sales with vends := [v], started := s.sales.started.filter (· ≠ w.id) } } .vendResult
    (some w.position) (resultValues w 5)

theorem Leads.cancelAt_second {s : State} {v w : Vend} (hvends : s.sales.vends = [v, w]) (hids : v.id ≠ w.id)
    (hv : v.waits = false) (hresult : w.result = none) (hqueued : w.state = .queued) :
    Leads 5 [s.cancelAt w.position] s (s.secondCancelled v w) := by
  have hw : w.waits = true := by simp [Vend.waits, Vend.unfinished, hresult, hqueued]
  obtain ⟨f, hf⟩ : ∃ f : Vend → Bool, f = fun x => x.waits && x.position = w.position := ⟨_, rfl⟩
  have hfv : f v = false := by rw [hf]; simp [hv]
  have hfw : f w = true := by rw [hf]; simp [hw]
  have hfilter : s.sales.vends.filter f = [w] := by simp [hvends, hfv, hfw]
  have hends := Leads.endQueued (s := s) (f := f) (r := .cancelled) rfl true (by simpa [hvends] using hids)
    (by
      intro x hx hfx
      rw [hvends] at hx
      obtain rfl | hx := List.mem_cons.1 hx
      · rw [hfv] at hfx
        cases hfx
      · rwa [List.mem_singleton.1 hx])
    (by
      intro x hx hfx hnone
      rw [hvends] at hx
      obtain rfl | hx := List.mem_cons.1 hx
      · intro hq
        simp [Vend.waits, Vend.unfinished, hnone, hq] at hv
      · rw [List.mem_singleton.1 hx, hfw] at hfx
        cases hfx)
    ⟨v, by rw [hvends]; exact List.mem_cons_self, hfv⟩
  rw [hfilter] at hends
  have hstate : s.queuedEnd f .cancelled = s.secondCancelled v w := by
    have hstays : (s.sales.vends.filter fun x => !f x) = [v] := by simp [hvends, hfv, hfw]
    have hstarted : (s.sales.started.filter fun i => !([w].any fun x => x.id = i)) = s.sales.started.filter (· ≠ w.id) := by
      refine List.filter_congr fun i _ => ?_
      simp [eq_comm]
    unfold State.queuedEnd
    rw [hfilter, hstays, hstarted]
    rfl
  rw [hstate, hf] at hends
  exact hends

/-- Both vends gone, the second before the first. -/
theorem State.secondCancelled_vendLeaves (s : State) {v w : Vend} (r : VendResult) (x : Option VendResult) :
    (s.secondCancelled { v with result := x } w).vendLeaves { v with result := x } r =
      (State.raise
          { s with
            sales :=
              { s.sales with vends := [], started := s.sales.started.filter fun i => decide (i ≠ v.id ∧ i ≠ w.id) } }
          .vendResult (some w.position) (resultValues w 5)).raise
        .vendResult (some v.position) (resultValues v r.code) := by
  have hstarted : (s.sales.started.filter (· ≠ w.id)).filter (· ≠ v.id) =
      s.sales.started.filter fun i => decide (i ≠ v.id ∧ i ≠ w.id) := by
    rw [List.filter_filter]
    refine List.filter_congr fun i _ => ?_
    simp
  have hvends : ([{ v with result := x }].filter fun y : Vend => decide (y.id ≠ v.id)) = [] := by simp
  rw [← hstarted, ← hvends]
  rfl

/-- The first of two vends recorded with its result. -/
theorem State.vendRecorded_of_two {s : State} {v w : Vend} (hvends : s.sales.vends = [v, w]) (hids : v.id ≠ w.id)
    (r : VendResult) :
    s.vendRecorded v r =
      { s with
        sales :=
          { s.sales with
            vends := [{ v with result := some r }, w]
            selections := s.sales.selections.set v.position ((s.selection v.position).afterVend r) } } := by
  have hne : ¬ w.id = v.id := fun h => hids h.symm
  unfold State.vendRecorded
  rw [State.modSelection_eq]
  unfold State.modVend
  simp only [State.modSales, hvends]
  simp only [List.map_cons, List.map_nil, if_true, if_neg hne]
  rfl

/-- The first of two vends ends and its position is sold out: the second one, QUEUED there, ends CANCELLED before it leaves the
list (R64, R73, R74). -/
theorem Leads.endVend_soldOut_second {s : State} {v w : Vend} {r : VendResult} (hvends : s.sales.vends = [v, w])
    (hids : v.id ≠ w.id) (hresult : w.result = none) (hqueued : w.state = .queued) (hposition : w.position = v.position)
    (hsells : SellsOut s v r) (hr : r ≠ .delivered) (hopen : s.credit.session.state = .opened) :
    Leads 13 [.endVend v.id r true] s
      (State.vendLeaves
        (State.secondCancelled
          ((s.vendRecorded v r).raise .soldOut (some v.position) [((s.selection v.position).afterVend r).missStreak]).repriceNow
          { v with result := some r } w)
        { v with result := some r } r) := by
  obtain ⟨v', hv'⟩ : ∃ v' : Vend, v' = { v with result := some r } := ⟨_, rfl⟩
  obtain ⟨u, hu⟩ : ∃ u, u = s.vendRecorded v r := ⟨_, rfl⟩
  obtain ⟨z, hz⟩ : ∃ z, z = (u.raise .soldOut (some v.position) [((s.selection v.position).afterVend r).missStreak]).repriceNow :=
    ⟨_, rfl⟩
  have hid : v'.id = v.id := by rw [hv']
  have huvends : u.sales.vends = [v', w] := by rw [hu, State.vendRecorded_of_two hvends hids, hv']
  have hzvends : z.sales.vends = [v', w] := by rw [hz]; exact huvends
  have hv : s.vend? v.id = some v := by simp [State.vend?, hvends]
  have hperform := perform_endVend_soldOut hv hsells true
  rw [← hu] at hperform
  have hcancels : Leads 5 [u.cancelAt v.position] z (z.secondCancelled v' w) := by
    have hcancel := Leads.cancelAt_second hzvends (by rw [hid]; exact hids) (by rw [hv']; rfl) hresult hqueued
    have hends : u.cancelAt v.position = z.cancelAt w.position := by
      rw [State.cancelAt, State.cancelAt, State.ending, State.ending, huvends, hzvends, hposition]
    rwa [hends]
  have hleave := perform_leaveList (s := z.secondCancelled v' w) (id := v.id) (v := v')
    (by simp [State.vend?, State.secondCancelled, hid]) r true
  obtain ⟨y, hy⟩ : ∃ y, y = (z.secondCancelled v' w).vendLeaves v' r := ⟨_, rfl⟩
  have hyvends : y.sales.vends = [] := by
    rw [hy]
    simp [State.vendLeaves, State.secondCancelled]
  have hyopen : y.credit.session.state = .opened := by
    rw [hy, hz, hu]
    exact hopen
  have hreported : Leads 2 [.vendReported r v'.price v'.funding, .dispatch] y y :=
    (Leads.vendReported_open hyvends hyopen hr).andThen (.dispatch_nil hyvends)
  rw [← hy] at hleave
  have hnotice : Leads 1 [.notice .soldOut (some v.position) [((s.selection v.position).afterVend r).missStreak]] u _ := .done rfl
  have hreprice : Leads 1 [.reprice] _ z := .done (by rw [hz]; rfl)
  rw [← hv', ← hu, ← hz, ← hy]
  exact (Leads.act hperform (hnotice.andThen (hreprice.andThen (hcancels.andThen (.act hleave hreported))))).mono (by decide)

/-! ### A vend that goes back into the queue -/

/-- A vend that was not in its group's way and is not: the groups are as busy as before. -/
theorem State.groupBusy_requeued {s : State} {v : Vend} {since : Nat} (hids : (s.sales.vends.map Vend.id).Nodup)
    (hv : v ∈ s.sales.vends) (hstate : v.state = .dropWait since) (g : Group) :
    (s.modVend v.id fun w => { w with state := .queued }).groupBusy g = s.groupBusy g := by
  have hany : ∀ (l : List Vend) (p : Vend → Bool), l.any p = (l.map p).any id := fun l p => by rw [List.any_map]; rfl
  unfold State.groupBusy State.modVend
  simp only [State.modSales]
  rw [List.any_map, hany, hany]
  refine congrArg (List.any · id) (List.map_congr_left fun w hw => ?_)
  simp only [Function.comp_def]
  split
  · next heq =>
    obtain rfl := vend_eq_of_id hids hv hw heq
    simp [hstate]
  · rfl

/-! ### The clauses -/

/-- Settles O31, by what the window decides: the vend ends NO_DROP or HELD_COLD, turns again, or is QUEUED. -/
theorem dropWindowExpires : Obligations.DropWindowExpires := by
  refine ⟨fun s n h => exec_dropWindowExpiry_none h, ?_, ?_, ?_⟩
  · intro s n v since honly hstate hn hstarted
    obtain ⟨hvends, hresult, hopen⟩ := honly
    have hexec := exec_dropWindowExpiry hn hstarted (State.vend?_of_only hvends) hresult hstate
    obtain ⟨u, hu⟩ : ∃ u, u = s.reach (since + 1500) := ⟨_, rfl⟩
    rw [← hu] at hexec
    have huvends : u.sales.vends = [v] := by rw [hu]; exact hvends
    have huopen : u.credit.session.state = .opened := by rw [hu]; exact hopen
    refine ⟨?_, ?_, ?_, ?_⟩
    · intro hnoDrop hsold
      have hover := State.windowOver_noDrop (s := u) (v := v) (by rw [hu]; exact hnoDrop)
      have hnot : ¬ SellsOut u v .noDrop := not_sellsOut_noDrop (by rw [hu]; exact hsold)
      have hafter : (u.selection v.position).afterVend .noDrop = _ := Selection.afterVend_noDrop (by rw [hu]; exact hsold)
      have hlead := Leads.endVend (d := true) huvends hnot (.vendReported_open rfl huopen (by decide)) rfl
      rw [hexec, hover, Leads.runDoing_eq hlead (by decide), State.onlyVendGone, hafter, hu]
      rfl
    · intro hnoDrop hsold
      obtain ⟨havailable, hstreak⟩ := hsold
      have hover := State.windowOver_noDrop (s := u) (v := v) (by rw [hu]; exact hnoDrop)
      have hsells : SellsOut u v .noDrop := sellsOut_noDrop (by rw [hu]; exact havailable) (by rw [hu]; exact hstreak)
      have hafter : (u.selection v.position).afterVend .noDrop = _ :=
        Selection.afterVend_noDrop_soldOut (by rw [hu]; exact havailable) (by rw [hu]; exact hstreak)
      have hlead := Leads.endVend_soldOut (d := true) huvends hsells (.vendReported_open rfl huopen (by decide)) rfl
      refine ⟨_, highestPrice_spec _ _, ?_⟩
      rw [hexec, hover, Leads.runDoing_eq hlead (by decide), State.onlyVendGone]
      have hafter' : ((u.soldOutAt v.position ((u.selection v.position).afterVend .noDrop).missStreak
          (highestPrice (u.sales.selections.set v.position ((u.selection v.position).afterVend .noDrop))
            u.plant.lockout)).selection v.position).afterVend .noDrop = _ := hafter
      rw [hafter', hafter, hu]
      rfl
    · intro hturns hcold
      have hover := State.windowOver_heldCold (s := u) (v := v) (by rw [hu]; exact hturns) (by rw [hu]; exact hcold)
      have hlead := Leads.endVend (d := true) huvends (not_sellsOut_of_leaves (r := .heldCold) rfl)
        (.vendReported_open rfl huopen (by decide)) rfl
      rw [hexec, hover, Leads.runDoing_eq hlead (by decide), State.onlyVendGone_leaves rfl, hu]
      rfl
    · intro hturns hsellable hidle hgrants
      have hfree : u.groupBusy (groupOf v.position) = false := by
        simp [State.groupBusy, huvends, hstate]
      have hover := State.windowOver_turns (s := u) (v := v) (by rw [hu]; exact hturns) (by rw [hu]; exact hsellable) hfree
      rw [State.modVend_of_only huvends] at hover
      obtain ⟨w, hw⟩ : ∃ w : State, w = { u with sales := { u.sales with vends := [{ v with state := .waitPower }] } } :=
        ⟨_, rfl⟩
      have hlead := Leads.placeMotor (s := w) (v := { v with state := .waitPower }) (by rw [hw]) hresult rfl
        (by rw [hw, hu]; exact hidle) (by rw [hw, hu]; exact hgrants)
      have hcontains : w.sales.started.contains v.id = true := by
        rw [hw, hu]
        exact List.contains_iff_mem.2 (List.mem_of_getElem? hstarted)
      rw [if_pos hcontains] at hlead
      rw [hexec, hover, ← hw]
      exact congrArg Host.Outcome.next ((hlead.run_eq (by decide)).trans (by rw [hw, hu]; rfl))
  · intro s n v w since hvends hids hresult hwresult hopen hstate hqueued hposition hn hstarted p x streak xs hturns havailable
      hstreak
    have hexec := exec_dropWindowExpiry hn hstarted (by simp [State.vend?, hvends]) hresult hstate
    obtain ⟨u, hu⟩ : ∃ u, u = s.reach (since + 1500) := ⟨_, rfl⟩
    rw [← hu] at hexec
    have huvends : u.sales.vends = [v, w] := by rw [hu]; exact hvends
    have hover := State.windowOver_noDrop (s := u) (v := v) (.inl (by rw [hu]; exact hturns))
    have hsells : SellsOut u v .noDrop := sellsOut_noDrop (by rw [hu]; exact havailable) (by rw [hu]; exact hstreak)
    have hafter : (u.selection v.position).afterVend .noDrop = _ :=
      Selection.afterVend_noDrop_soldOut (by rw [hu]; exact havailable) (by rw [hu]; exact hstreak)
    have hlead := Leads.endVend_soldOut_second huvends hids hwresult hqueued hposition hsells (by decide)
      (by rw [hu]; exact hopen)
    refine ⟨highestPrice xs s.plant.lockout, highestPrice_spec _ _, ?_⟩
    rw [hexec, hover, Leads.runDoing_eq hlead (by decide), State.secondCancelled_vendLeaves,
      State.vendRecorded_of_two huvends hids, hafter, hposition, hu]
    rfl
  · intro s n v since hids hvend hresult hstate hn hstarted hturns hsellable hbusy hothers
    have hexec := exec_dropWindowExpiry hn hstarted hvend hresult hstate
    obtain ⟨u, hu⟩ : ∃ u, u = s.reach (since + 1500) := ⟨_, rfl⟩
    rw [← hu] at hexec
    have hv : v ∈ u.sales.vends := by
      rw [hu]
      exact List.mem_of_find?_eq_some hvend
    have huids : (u.sales.vends.map Vend.id).Nodup := by rw [hu]; exact hids
    have hover := State.windowOver_busy (s := u) (v := v) (by rw [hu]; exact hturns) (by rw [hu]; exact hsellable)
      (by rw [hu]; exact hbusy)
    have hlead : Leads 1 [.dispatch] (u.modVend v.id fun w => { w with state := .queued })
        (u.modVend v.id fun w => { w with state := .queued }) := by
      refine .dispatch_none fun w hw hqueued => ?_
      rw [State.groupBusy_requeued huids hv hstate]
      obtain ⟨y, hy, rfl⟩ := List.mem_map.1 hw
      by_cases heq : y.id = v.id
      · obtain rfl := vend_eq_of_id huids hv hy heq
        simp only [if_true]
        rw [hu]
        exact hbusy
      · simp only [if_neg heq] at hqueued ⊢
        rw [hu] at hy ⊢
        exact hothers y hy hqueued
    rw [hexec, hover, Leads.runDoing_eq hlead (by decide), hu]
    rfl

end Sys2Proof.Machine

/-! ## The drop monitor and the attribution of a drop (04, section 4.4; 05, section 5.3) -/

namespace Sys2Proof.Machine

theorem Vend.catchesDrop_iff (v : Vend) : v.catchesDrop = true ↔ CanTake v := by
  rw [Vend.catchesDrop, CanTake, Vend.unfinished, Bool.and_eq_true, Option.isNone_iff_eq_none]
  cases v.state <;> simp

theorem exec_dropEvent {s : State} {since : Nat} (h : s.drive.beam = .timing since) :
    exec .dropEvent s = .next (runDoing (((s.reach (since + 5)).setBeam .broken).attributeDrop)) := by
  change execDropEvent s = _
  rw [execDropEvent, h]
  rfl

theorem State.attributeDrop_none {s : State} (h : ∀ v ∈ s.sales.vends, ¬ CanTake v) :
    s.attributeDrop = (s.raise .strayDrop none [], []) := by
  have hnone : s.dropTaker = none := by
    rw [State.dropTaker, List.find?_eq_none]
    intro v hv htakes
    obtain ⟨i, -, hi⟩ := List.mem_filterMap.1 hv
    exact h v (List.mem_of_find?_eq_some hi) ((v.catchesDrop_iff).1 htakes)
  rw [State.attributeDrop, hnone]

/-- The candidate of the lowest start order takes the drop (R72). -/
theorem State.dropTaker_eq {s : State} {ahead behind : List Nat} {v : Vend} (hstarted : s.sales.started = ahead ++ v.id :: behind)
    (hvend : s.vend? v.id = some v) (htakes : CanTake v) (hfirst : ∀ i ∈ ahead, ∀ w, s.vend? i = some w → ¬ CanTake w) :
    s.dropTaker = some v := by
  have hahead : (ahead.filterMap s.vend?).find? Vend.catchesDrop = none := by
    rw [List.find?_eq_none]
    intro w hw hcatches
    obtain ⟨i, hi, hwi⟩ := List.mem_filterMap.1 hw
    exact hfirst i hi w hwi ((w.catchesDrop_iff).1 hcatches)
  rw [State.dropTaker, hstarted, List.filterMap_append, List.filterMap_cons_some hvend, List.find?_append, hahead,
    List.find?_cons_of_pos ((v.catchesDrop_iff).2 htakes)]
  rfl

theorem State.attributeDrop_turning {s : State} {v : Vend} (h : s.dropTaker = some v) (hstate : v.state = .turning) :
    s.attributeDrop = (s.modVend v.id fun v => { v with droppedEarly := true }, []) := by
  rw [State.attributeDrop, h]
  dsimp only
  rw [hstate]

theorem State.attributeDrop_dropWait {s : State} {v : Vend} {w : Nat} (h : s.dropTaker = some v) (hstate : v.state = .dropWait w) :
    s.attributeDrop = (s, [.endVend v.id .delivered true]) := by
  rw [State.attributeDrop, h]
  dsimp only
  rw [hstate]

/-- The only vend, in DROP_WAIT, takes the drop. -/
theorem State.dropTaker_of_only {s : State} {v : Vend} {w : Nat} (hvends : s.sales.vends = [v]) (hresult : v.result = none)
    (hstate : v.state = .dropWait w) (hstarted : v.id ∈ s.sales.started) : s.dropTaker = some v := by
  have htakes : CanTake v := ⟨hresult, .inr ⟨w, hstate⟩⟩
  obtain ⟨ahead, behind, hsplit, hfirst⟩ := List.eq_append_cons_of_mem hstarted
  refine State.dropTaker_eq hsplit (State.vend?_of_only hvends) htakes fun i hi x hx => absurd ?_ hfirst
  have hxv : x ∈ s.sales.vends := List.mem_of_find?_eq_some hx
  rw [hvends, List.mem_singleton] at hxv
  have hid : x.id = i := State.vend?_id hx
  rw [← hxv, hid]
  exact hi

theorem not_sellsOut_delivered (s : State) (v : Vend) : ¬ SellsOut s v .delivered := by
  rintro ⟨havailable, hsold⟩
  have hstate : ((s.selection v.position).afterVend .delivered).state = (s.selection v.position).state := rfl
  rw [hstate, havailable] at hsold
  cases hsold

/-- Settles O32, by the beam and the candidate of the lowest start order. -/
theorem dropAttributed : Obligations.DropAttributed := by
  constructor
  · intro s
    refine ⟨?_, ?_, rfl, ?_⟩
    · intro hclear
      change execDropBeamBreak s = _
      rw [execDropBeamBreak, hclear]
      rfl
    · intro hbroken
      change execDropBeamBreak s = _
      rw [execDropBeamBreak]
      cases hbeam : s.drive.beam with
      | clear => exact absurd hbeam hbroken
      | timing since => rfl
      | broken => rfl
    · intro hbeam
      change execDropEvent s = _
      rw [execDropEvent]
      obtain h | h := hbeam <;> rw [h]
  · intro s since hbeam u
    have hexec := exec_dropEvent hbeam
    refine ⟨?_, ?_, ?_⟩
    · intro hnone
      rw [hexec, State.attributeDrop_none (by exact hnone)]
      rfl
    · intro ahead behind v hstarted hvend htakes hfirst hstate
      rw [hexec, State.attributeDrop_turning (State.dropTaker_eq (by exact hstarted) (by exact hvend) htakes (by exact hfirst))
        hstate]
      rfl
    · intro v w honly hstate hstarted hmulti hfunding p x z served
      obtain ⟨hvends, hresult, hopen⟩ := honly
      obtain ⟨y, hy⟩ : ∃ y, y = (s.reach (since + 5)).setBeam .broken := ⟨_, rfl⟩
      have hyvends : y.sales.vends = [v] := by rw [hy]; exact hvends
      have htaker := State.dropTaker_of_only hyvends hresult hstate (by rw [hy]; exact hstarted)
      have hlead := Leads.endVend (d := true) hyvends (not_sellsOut_delivered y v)
        (.vendReported_delivered_open hfunding rfl (by rw [hy]; exact hopen) (by rw [hy]; exact hmulti)) rfl
      rw [hexec, ← hy, State.attributeDrop_dropWait htaker hstate, Leads.runDoing_eq hlead (by decide), hy]
      obtain hcash | hcard := hfunding
      · rw [if_pos hcash, hcash]
        rfl
      · rw [if_neg (by rw [hcard]; decide), hcard]
        rfl

end Sys2Proof.Machine

/-! ## The end of the last vend that closes the session (02, sections 2.7 to 2.9) -/

namespace Sys2Proof.Machine

/-- Sales that lie outside the parts that changed. -/
theorem SameExcept.sales {ps : List Part} {s t : State} (h : SameExcept ps s t) (hselections : .selections ∉ ps)
    (hvends : .vends ∉ ps) : t.sales = s.sales := by
  have h1 : t.sales.selections = s.sales.selections := h .selections hselections
  obtain ⟨h2, h3, h4⟩ : t.sales.vends = s.sales.vends ∧ t.sales.started = s.sales.started ∧ t.sales.nextId = s.sales.nextId :=
    h .vends hvends
  cases hs : s.sales
  cases ht : t.sales
  simp_all

/-- A state `u` in which the close of the session completes behind the end of its last vend `v` in `s` (R73). -/
structure VendClosed (s u : State) (v : Vend) (r : Nat) (x : Selection) (z : Session) : Prop where
  sales : u.sales = { s.sales.without v with selections := s.sales.selections.set v.position x }
  session : u.credit.session = z
  same : SameExcept [.session, .selections, .vends, .notices, .unreported] s u
  heard : Heard s u [s.notice .vendResult (some v.position) (resultValues v r)]

section
variable {s u : State} {v : Vend} {r : Nat} {x : Selection} {z : Session} {out : Host.Outcome State Fault Refusal}

/-- The close of a CASH session that owes nothing. -/
theorem VendClosed.nothing (h : VendClosed s u v r x z) (hpending : NothingPending s)
    (hout : ∀ n t, n ≤ 100 → t.drive = u.drive → t.sales = u.sales → Leads n [.completeClose] u t → out = .next t.conclude) (hcard : z.card = none)
    (hdue : z.cashCredit = 0) :
    ∃ t : State, out = .next t ∧ t.credit.session = .reset
      ∧ t.sales = { s.sales.without v with selections := s.sales.selections.set v.position x }
      ∧ Raised s t
          [s.notice .vendResult (some v.position) (resultValues v r),
            s.notice .sessionClosed none [z.carriedIn, z.coinIn, z.noteIn, z.charged, z.changePaid, 0],
            s.notice .creditChanged none [0, 0, 0, 0, s.credit.carried]]
      ∧ SameExcept (([.session, .selections, .vends] : List Part) ++ closing) s t := by
  have htables : u.tables = s.tables := h.same .tables (by decide)
  have hnow : u.now = s.now := h.same .now (by decide)
  have hlead := Leads.completeClose_nothing (s := u) (by rw [h.session]; exact hcard) (by rw [h.session]; exact hdue)
    (fun b => by rw [htables]; exact hpending b)
  have hcloses := u.sameExcept_cashClosed_zero
  have hcredit := u.cashClosed_credit 0
  refine ⟨_, hout 3 _ (by decide) (hcloses .drive (by decide)) (hcloses.sales (by decide) (by decide)) hlead, ?_, ?_, ?_,
    (h.same.trans hcloses).conclude.mono (by decide)⟩
  · rw [State.conclude_session, hcredit]
  · rw [State.conclude_sales, hcloses.sales (by decide) (by decide), h.sales]
  · have hheard := (h.heard.trans (Heard.cashClosed u 0)).conclude_reset
      ((hcloses .now (by decide)).trans hnow) (by rw [hcredit]) (by rw [hcredit])
    have hcarried : (u.cashClosed 0).credit.carried = s.credit.carried :=
      (hcloses .carried (by decide)).trans (h.same .carried (by decide))
    rw [hcarried] at hheard
    have hclosed : u.sessionClosed 0 =
        s.notice .sessionClosed none [z.carriedIn, z.coinIn, z.noteIn, z.charged, z.changePaid, 0] := by
      rw [State.sessionClosed, State.notice_congr hnow, h.session]
    rw [hclosed] at hheard
    exact hheard.1

/-- The close of a CASH session that owes change. -/
theorem VendClosed.pays (h : VendClosed s u v r x z) (hwaits : NothingWaits s)
    (hout : ∀ n t, n ≤ 100 → t.drive = u.drive → t.sales = u.sales → Leads n [.completeClose] u t → out = .next t.conclude) {l : PlanLine}
    {ls : List PlanLine} (hcard : z.card = none) (hdue : z.cashCredit ≠ 0) (hseq : s.change.seq = .idle)
    (hnone : ∀ g ∈ s.load.granted, g.kind ≠ .payout) (hfits : s.load.drawn + s.load.table.payout ≤ s.load.table.budget)
    (hplan : planFor s.searchOrder z.cashCredit = l :: ls) :
    ∃ t : State, out = .next t ∧ t.credit.session = { z with state := .payout }
      ∧ t.sales = { s.sales.without v with selections := s.sales.selections.set v.position x }
      ∧ t.change =
        { s.change with
          seq := .firstWait l.tube s.now
          job := some (.payout z.cashCredit z.cashCredit (l :: ls))
          pulses := editAt (· + 1) (l.tube - 1) s.change.pulses }
      ∧ t.load = { s.load with granted := s.load.granted ++ [grantNow s .payout .change] }
      ∧ Raised s t
          [s.notice .vendResult (some v.position) (resultValues v r),
            s.notice .creditChanged none [3, z.funding.code, z.cashCredit, 0, s.credit.carried]]
      ∧ SameExcept (([.session, .selections, .vends, .payout, .load] : List Part) ++ closing) s t := by
  have hnow : u.now = s.now := h.same .now (by decide)
  have hload : u.load = s.load := h.same .load (by decide)
  have hchange : u.change = s.change := by
    obtain ⟨h1, h2, h3, h4⟩ : u.change.assured = s.change.assured ∧ u.change.short = s.change.short
        ∧ u.change.evaluating = s.change.evaluating ∧ u.change.rerun = s.change.rerun := h.same .assurance (by decide)
    obtain ⟨h5, h6, h7, h8⟩ : u.change.seq = s.change.seq ∧ u.change.job = s.change.job
        ∧ u.change.deferred = s.change.deferred ∧ u.change.pulses = s.change.pulses := h.same .payout (by decide)
    have h9 : u.change.maxPrice = s.change.maxPrice := h.same .maxPrice (by decide)
    cases hs : s.change
    cases hu : u.change
    simp_all
  have horder : u.searchOrder = s.searchOrder :=
    State.searchOrder_congr (h.same .tubes (by decide)) (h.same .coin (by decide))
  have hsession : u.credit.session.cashCredit = z.cashCredit := by rw [h.session]
  have hlead := Leads.completeClose_pays (s := u) (l := l) (ls := ls) (by rw [h.session]; exact hcard)
    (by rw [hsession]; exact hdue) (by rw [hchange]; exact hseq)
    ⟨by rw [NothingWaits, hload]; exact hwaits, by rw [hload]; exact hnone, by rw [hload]; exact hfits⟩
    (by rw [horder, hsession]; exact hplan)
  obtain ⟨t, ht⟩ : ∃ t, t = u.inPayout.runStarted u.credit.session.cashCredit (l :: ls) l.tube := ⟨_, rfl⟩
  rw [← ht] at hlead
  have hruns : SameExcept [.session, .unreported, .payout, .load] u t := ht ▸ sameExcept_inPayout_runStarted _ _ _ _
  have htsession : t.credit.session = { z with state := .payout } := by
    rw [ht, ← h.session]
    rfl
  refine ⟨_, hout 8 _ (by decide) (hruns .drive (by decide)) (hruns.sales (by decide) (by decide)) hlead, ?_, ?_, ?_, ?_, ?_,
    (h.same.trans hruns).conclude.mono (by decide)⟩
  · rw [State.conclude_session, htsession]
  · rw [State.conclude_sales, hruns.sales (by decide) (by decide), h.sales]
  · rw [State.conclude_change, ht, ← hchange, ← hsession, ← hnow]
    rfl
  · rw [State.conclude_load, ht, ← hload]
    have hgrant : grantNow u .payout .change = grantNow s .payout .change := by
      simp only [grantNow, hload, hnow]
    rw [← hgrant]
    rfl
  · have hquiet : Heard u t [] := by
      rw [ht]
      exact (Heard.refl _).congr rfl rfl rfl
    have hheard := (h.heard.trans hquiet).conclude_changed (by rw [ht]; rfl)
    rw [State.notice_congr ((hruns .now (by decide)).trans hnow)] at hheard
    have hcarried : t.credit.carried = s.credit.carried :=
      (hruns .carried (by decide)).trans (h.same .carried (by decide))
    have hvalues : t.creditValues = [3, z.funding.code, z.cashCredit, 0, s.credit.carried] := by
      rw [State.creditValues, htsession, hcarried, Session.cardLeft, hcard]
      rfl
    rw [hvalues] at hheard
    exact hheard.1

/-- The close of a CARD session. -/
theorem VendClosed.card (h : VendClosed s u v r x z) (hpending : NothingPending s)
    (hout : ∀ n t, n ≤ 100 → t.drive = u.drive → t.sales = u.sales → Leads n [.completeClose] u t → out = .next t.conclude) {c : Card}
    (hcard : z.card = some c) (hchannel : (s.bridge.channels[c.channel]?).isSome) :
    let settled : Settlement :=
      { channel := c.channel, amount := z.cardUsed, vends := z.delivered, openedAt := z.openedAt }
    ∃ t : State, out = .next t ∧ t.credit.session = .reset
      ∧ t.sales = { s.sales.without v with selections := s.sales.selections.set v.position x }
      ∧ (SettlesAtOnce s c.channel →
        (t.channel c.channel).slot = some (.settle settled) ∧ t.credit.settlements = s.credit.settlements)
      ∧ (¬ SettlesAtOnce s c.channel → t.credit.settlements = s.credit.settlements ++ [settled])
      ∧ (∀ d, (SettlesAtOnce s c.channel ∧ d = 0 ∨ ¬ SettlesAtOnce s c.channel ∧ d = 1) →
        Raised s t
          [s.notice .vendResult (some v.position) (resultValues v r),
            s.notice .sessionClosed (some c.channel) [c.limit, z.cardUsed, z.delivered, d],
            s.notice .creditChanged none [0, 0, 0, 0, s.credit.carried]])
      ∧ SameExcept (([.session, .settlements, .selections, .vends] : List Part) ++ closing) s t := by
  intro settled
  have hnow : u.now = s.now := h.same .now (by decide)
  have hbridge : u.bridge = s.bridge := h.same .bridge (by decide)
  have hsettlements : u.credit.settlements = s.credit.settlements := h.same .settlements (by decide)
  obtain ⟨-, -, -, hdeny⟩ : u.credit.answer = s.credit.answer ∧ u.credit.maskDue = s.credit.maskDue
      ∧ u.credit.maskLast = s.credit.maskLast ∧ u.credit.deny = s.credit.deny := h.same .holds (by decide)
  have hfreeIff : SettlesAtOnce u c.channel ↔ SettlesAtOnce s c.channel := by
    rw [SettlesAtOnce, SettlesAtOnce, State.channel_of_bridge hbridge, hsettlements, hdeny]
  have hlt : c.channel < u.bridge.channels.length := by
    rw [hbridge]
    simpa using hchannel
  have hsettled : u.settled c = settled := by
    rw [State.settled, h.session]
    rfl
  have hnotice : ∀ d, u.cardNotice c d = s.notice .sessionClosed (some c.channel) [c.limit, z.cardUsed, z.delivered, d] := by
    intro d
    rw [State.cardNotice, State.notice_congr hnow, h.session]
  have htables : u.tables = s.tables := h.same .tables (by decide)
  have hlead := Leads.completeClose_card (s := u) (by rw [h.session]; exact hcard) (fun b => by rw [htables]; exact hpending b)
  obtain ⟨hsession, hchanged, hatOnce, hlisted, hsame⟩ := State.cardClosed_spec hlt
  have hraised : ∀ d, Heard u (u.cardClosed c) [u.cardNotice c d] →
      Raised s (u.cardClosed c).conclude
        [s.notice .vendResult (some v.position) (resultValues v r),
          s.notice .sessionClosed (some c.channel) [c.limit, z.cardUsed, z.delivered, d],
          s.notice .creditChanged none [0, 0, 0, 0, s.credit.carried]] := by
    intro d hd
    have hheard := (h.heard.trans hd).conclude_reset ((hsame .now (by decide)).trans hnow) hchanged hsession
    have hcarried : (u.cardClosed c).credit.carried = s.credit.carried :=
      (hsame .carried (by decide)).trans (h.same .carried (by decide))
    rw [hcarried, hnotice] at hheard
    exact hheard.1
  refine ⟨_, hout 3 _ (by decide) (hsame .drive (by decide)) (hsame.sales (by decide) (by decide)) hlead, ?_, ?_, ?_, ?_, ?_,
    (h.same.trans hsame).conclude.mono (by decide)⟩
  · rw [State.conclude_session, hsession]
  · rw [State.conclude_sales, hsame.sales (by decide) (by decide), h.sales]
  · intro hfree
    obtain ⟨hslot, hlist, -⟩ := hatOnce (hfreeIff.2 hfree)
    exact ⟨hsettled ▸ State.conclude_slot hslot, by rw [State.conclude_settlements, hlist, hsettlements]⟩
  · intro hfull
    obtain ⟨hlist, -⟩ := hlisted fun hfree => hfull (hfreeIff.1 hfree)
    rw [State.conclude_settlements, hlist, hsettlements, hsettled]
  · rintro d (⟨hfree, rfl⟩ | ⟨hfull, rfl⟩)
    · exact hraised 0 (hatOnce (hfreeIff.2 hfree)).2.2
    · exact hraised 1 (hlisted fun hfree => hfull (hfreeIff.1 hfree)).2

/-- The close completes behind the end of the last vend. -/
theorem VendClosed.endCloses (h : VendClosed s u v r x z)
    (hout : NothingWaits s → NothingPending s →
      ∀ n t, n ≤ 100 → t.drive = u.drive → t.sales = u.sales → Leads n [.completeClose] u t → out = .next t.conclude) :
    EndCloses s v r x z out := by
  intro hwaits hpending
  exact ⟨fun hcard hdue => h.nothing hpending (hout hwaits hpending) hcard hdue,
    fun _ _ hcard hdue hseq hnone hfits hplan => h.pays hwaits (hout hwaits hpending) hcard hdue hseq hnone hfits hplan,
    fun _ hcard hchannel => h.card hpending (hout hwaits hpending) hcard hchannel⟩

end

end Sys2Proof.Machine

/-! ## MODE and the door, and the vends that close their session (O58, O33) -/

namespace Sys2Proof.Machine

/-! ### The door's opening (R76, R90) -/

/-- The door open, SERVICE entered and both groups stopped (R90, R166). -/
def State.doorOpened (s : State) : State :=
  { s with
    pins := { s.pins with doorOpen := true }
    tables := { s.tables with remembered := s.tables.mode, mode := .service }
    drive := { s.drive with a := s.drive.a.doorOpened, b := s.drive.b.doorOpened } }

theorem exec_doorOpen_service {s : State} (h : s.tables.mode = .service) :
    exec .doorOpen s = .next { s with pins := { s.pins with doorOpen := true } } := by
  change execDoorOpen s = _
  rw [execDoorOpen, h]
  rfl

/-- The vends end when the door opens; no motor test ends there. -/
theorem exec_doorOpen {s : State} (hmode : s.tables.mode ≠ .service) (ha : s.drive.a.testEndsAtDoor = false)
    (hb : s.drive.b.testEndsAtDoor = false) :
    exec .doorOpen s = .next (run s.doorOpened [.endVends (s.ending Vend.unfinished .abortedDoor) false]) := by
  have hdoor : (s.setDoor true).openDoor = (s.doorOpened, [.endVends (s.ending Vend.unfinished .abortedDoor) false]) := by
    have hmotors : (s.setDoor true).enterService.doorAtMotors = (s.doorOpened, []) := by
      change (_, (if s.drive.a.testEndsAtDoor then _ else _) ++ if s.drive.b.testEndsAtDoor then _ else _) = _
      rw [ha, hb]
      rfl
    rw [State.openDoor, hmotors]
    rfl
  change execDoorOpen s = _
  rw [execDoorOpen]
  cases h : s.tables.mode with
  | service => exact absurd h hmode
  | config =>
    dsimp only
    rw [hdoor, runDoing]
  | sales =>
    dsimp only
    rw [hdoor, runDoing]

/-- A group without a test that the door ends: it is stopped, and its held request discarded. -/
theorem GroupRec.doorOpened_eq {r : GroupRec} (h : r.testEndsAtDoor = false) :
    r.doorOpened =
      { r with
        state := match r.state with
          | .stopped since => .stopped since
          | _ => .idle
        held := none } := by
  unfold GroupRec.doorOpened
  rw [h]
  cases r.state <;> rfl

theorem GroupRec.testEndsAtDoor_turning {r : GroupRec} {t : Turn} (h : r.state = .turning t) (howner : t.owner = .vend) :
    r.testEndsAtDoor = false := by
  simp [GroupRec.testEndsAtDoor, GroupRec.turn?, h, howner]

/-! ### MODE (R167) -/

theorem exec_mode_none {s : State} {seq b : Byte} {rest : List Byte} (h : askedMode b.toNat = none) :
    exec (.mode seq (b :: rest)) s = .next (s.frameTaken.refuse seq .badArgument) := by
  change execMode seq (b :: rest) s = _
  rw [execMode, if_neg (by simp), byteAt, List.getD_cons_zero, h]

theorem exec_mode {s : State} {seq b : Byte} {rest : List Byte} {m : Mode} (h : askedMode b.toNat = some m) :
    exec (.mode seq (b :: rest)) s =
      match s.frameTaken.modeRefusal m with
      | some why => .next (s.frameTaken.refuse seq why)
      | none => .next ((s.frameTaken.setMode m).accept seq [u8 m.code]).conclude := by
  change execMode seq (b :: rest) s = _
  rw [execMode, if_neg (by simp), byteAt, List.getD_cons_zero, h]
  rfl

theorem askedMode_of_le {n : Nat} (h : n ≤ 1) : askedMode n = some (if n = 0 then .config else .sales) := by
  obtain rfl | rfl : n = 0 ∨ n = 1 := by omega
  · rfl
  · rfl

theorem askedMode_of_gt {n : Nat} (h : 1 < n) : askedMode n = none := by
  obtain ⟨k, rfl⟩ := Nat.exists_eq_add_of_lt h
  rw [show 1 + k + 1 = k + 2 by omega]
  rfl

theorem State.modeRefusal_eq_none {s : State} {m : Mode} (hmode : s.tables.mode ≠ .service)
    (hready : m = .sales → s.tables.loadCommitted = true ∧ s.tables.curveCommitted = true) : s.modeRefusal m = none := by
  have hno : ¬ (m = .sales ∧ (!(s.tables.loadCommitted && s.tables.curveCommitted)) = true) := by
    rintro ⟨hsales, huncommitted⟩
    obtain ⟨hload, hcurve⟩ := hready hsales
    rw [hload, hcurve] at huncommitted
    cases huncommitted
  rw [State.modeRefusal, if_neg hmode, if_neg hno]

/-- Settles O58: MODE by its checks, and the door by the mode it finds. -/
theorem modesFollow : Obligations.ModesFollow := by
  refine ⟨fun s seq => rfl, ?_, ?_, ?_⟩
  · intro s seq b rest out
    refine ⟨?_, ?_, ?_, ?_⟩
    · intro hb
      exact exec_mode_none (askedMode_of_gt hb)
    · intro hb hmode
      refine (exec_mode (askedMode_of_le hb)).trans ?_
      rw [State.modeRefusal, if_pos (by exact hmode)]
    · intro hb hmode huncommitted
      have hno : Mode.sales = .sales ∧ (!(s.tables.loadCommitted && s.tables.curveCommitted)) = true := by
        obtain h | h := huncommitted <;> simp [h]
      refine (exec_mode (m := .sales) (by rw [hb]; rfl)).trans ?_
      rw [State.modeRefusal, if_neg (by exact hmode), if_pos (by exact hno)]
    · intro m hasked hmode hready
      have hcode : askedMode b.toNat = some m ∧ u8 m.code = b := by
        rw [← u8_toNat b]
        obtain ⟨hb, rfl⟩ | ⟨hb, rfl⟩ := hasked <;> rw [hb] <;> exact ⟨rfl, rfl⟩
      refine (exec_mode hcode.1).trans ?_
      rw [State.modeRefusal_eq_none (by exact hmode) (by exact hready), hcode.2]
      rfl
  · intro s hmode
    refine ⟨exec_doorOpen_service hmode, ?_⟩
    change execDoorClose s = _
    rw [execDoorClose, hmode]
    rfl
  · intro s hmode opened stopped
    have hstopped : ∀ r : GroupRec, r.testEndsAtDoor = false → r.doorOpened = stopped r := fun r h => GroupRec.doorOpened_eq h
    have hopened : s.drive.a.testEndsAtDoor = false → s.drive.b.testEndsAtDoor = false →
        s.doorOpened = { opened with drive := { s.drive with a := stopped s.drive.a, b := stopped s.drive.b } } := by
      intro ha hb
      rw [State.doorOpened, hstopped _ ha, hstopped _ hb]
    refine ⟨?_, ?_, ?_⟩
    · change execDoorClose s = _
      rw [execDoorClose]
      cases h : s.tables.mode with
      | service => exact absurd h hmode
      | config => rfl
      | sales => rfl
    · intro hvends ha hb
      have hends : Leads 1 [.endVends (s.ending Vend.unfinished .abortedDoor) false] s.doorOpened s.doorOpened :=
        State.endTogether_of_none (s := s.doorOpened) (f := Vend.unfinished) (fun v hv => by
          have hv' : v ∈ s.sales.vends := hv
          rw [hvends] at hv'
          cases hv') .abortedDoor false
      rw [exec_doorOpen hmode ha hb, hends.run_eq (by decide), hopened ha hb]
    · intro v turn honly hturning hgroup hstate howner hb hwaits
      obtain ⟨hvends, hresult, hopen⟩ := honly
      have ha := GroupRec.testEndsAtDoor_turning hstate howner
      have hends := Leads.endVends_only (s := s.doorOpened) (r := .abortedDoor) (d := false) (by exact hvends)
        (.inr (.inl ⟨hturning, rfl⟩)) (by exact hwaits) rfl (.vendReported_open rfl (by exact hopen) (by decide)) rfl
      rw [exec_doorOpen hmode ha hb, State.ending_of_only hvends (by simp [Vend.unfinished, hresult]), hends.run_eq (by decide),
        State.onlyVendGone_leaves rfl, hopened ha hb, hgroup]
      rfl

end Sys2Proof.Machine

/-! ## Deliveries and other last ends that close the session (O33) -/

namespace Sys2Proof.Machine

/-! ### What the end of the only vend leaves -/

theorem State.sameExcept_onlyVendGone (s : State) (v : Vend) (r : VendResult) :
    SameExcept [.selections, .vends, .notices] s (s.onlyVendGone v r) := by
  intro p hp
  cases p
  case selections | vends | notices => simp at hp
  all_goals simp [Part.same, State.onlyVendGone]

theorem Heard.onlyVendGone (s : State) (v : Vend) (r : VendResult) :
    Heard s (s.onlyVendGone v r) [s.notice .vendResult (some v.position) (resultValues v r.code)] :=
  ((Heard.refl s).raise .vendResult (some v.position) (resultValues v r.code)).congr rfl rfl rfl

/-- A vend that ends without a charge. -/
theorem VendClosed.of_gone {s : State} {v : Vend} {r : VendResult} {x : Selection}
    (hx : (s.selection v.position).afterVend r = x) : VendClosed s (s.onlyVendGone v r) v r.code x s.credit.session where
  sales := by
    rw [← hx]
    rfl
  session := rfl
  same := (s.sameExcept_onlyVendGone v r).mono (by decide)
  heard := Heard.onlyVendGone s v r

/-- A delivered vend, its price charged (R24). -/
theorem VendClosed.of_delivered {s : State} {v : Vend} (price : Nat) (f : Funding) {x : Selection}
    (hx : (s.selection v.position).afterVend .delivered = x) :
    VendClosed s ((s.onlyVendGone v .delivered).modSession fun z => z.chargedFor price f) v 0 x
      (s.credit.session.chargedFor price f) where
  sales := by
    rw [← hx]
    rfl
  session := rfl
  same := ((s.sameExcept_onlyVendGone v .delivered).trans (sameExcept_modSession _ _)).mono (by decide)
  heard := (Heard.onlyVendGone s v .delivered).congr rfl rfl rfl

/-- A last vend whose delivery closes the session, behind whatever its end stands (R24, R31, R34). -/
theorem EndCloses.delivered {s : State} {v : Vend} {x : Selection} {z : Session} {out : Host.Outcome State Fault Refusal}
    (hvends : s.sales.vends = [v]) (hfunding : v.funding = .cash ∨ v.funding = .card)
    (hcloses : s.credit.session.state = .closeWait
      ∨ s.credit.session.state = .opened ∧ s.credit.policy.multiVend = false)
    (hx : (s.selection v.position).afterVend .delivered = x) (hz : s.credit.session.chargedFor v.price v.funding = z)
    (hout : NothingWaits s → ∀ n t, n ≤ 200 → t.drive = s.drive → Leads n [.endVend v.id .delivered true] s t →
      out = .next t.conclude) : EndCloses s v 0 x z out := by
  subst hz
  refine (VendClosed.of_delivered v.price v.funding hx).endCloses fun hwaits _ n t hn hdrive hsales h => ?_
  refine hout hwaits (n + 7) t (by omega) hdrive ?_
  refine (Leads.endVend hvends (not_sellsOut_delivered s v) (.vendReported_delivered_closes hfunding rfl hcloses h) ?_).mono
    (by omega)
  rw [hsales]
  rfl

/-- A last vend in CLOSE_WAIT that is not delivered. -/
theorem EndCloses.closeWait {s : State} {v : Vend} {r : VendResult} {x : Selection} {out : Host.Outcome State Fault Refusal}
    (hwait : s.credit.session.state = .closeWait) (hr : r ≠ .delivered)
    (hx : (s.selection v.position).afterVend r = x)
    (hout : NothingWaits s → ∀ n t, n ≤ 150 → t.drive = s.drive → t.sales.vends = [] →
      Leads n [.vendReported r v.price v.funding] (s.onlyVendGone v r) t → out = .next t.conclude) :
    EndCloses s v r.code x s.credit.session out := by
  refine (VendClosed.of_gone hx).endCloses fun hwaits _ n t hn hdrive hsales h => ?_
  refine hout hwaits (n + 1) t (by omega) hdrive ?_ (.vendReported_closeWait rfl (by exact hwait) hr h)
  rw [hsales]
  rfl

/-! ### The delivery at a normal turn end (R70, R82) -/

theorem Leads.vendTurned_delivered {n : Nat} {s t : State} {g : Group} {v : Vend} (hvends : s.sales.vends = [v])
    (hresult : v.result = none) (hstate : v.state = .turning) (hg : groupOf v.position = g) (hearly : v.droppedEarly = true)
    (h : Leads n [.endVend v.id .delivered true] s t) : Leads (n + 1) [.vendTurned g] s t := by
  refine .act ?_ h
  change s.turnDone g = _
  rw [State.turnDone, State.turningVend_of_only hvends hresult hstate hg]
  dsimp only
  rw [if_pos hearly]

theorem homeReturn_delivers {s : State} {v : Vend} {turn : Turn} {g : Group} {x : Selection} {z : Session}
    (hg : groupOf v.position = g) (hvends : s.sales.vends = [v]) (hresult : v.result = none)
    (hfunding : v.funding = .cash ∨ v.funding = .card)
    (hcloses : s.credit.session.state = .closeWait
      ∨ s.credit.session.state = .opened ∧ s.credit.policy.multiVend = false)
    (hturning : (s.group g).state = .turning turn) (howner : turn.owner = .vend) (hposition : turn.position = v.position)
    (hheld : (s.group g).held = none) (hstate : v.state = .turning) (hearly : v.droppedEarly = true) (hwaits : NothingWaits s)
    (hx : (s.selection v.position).afterVend .delivered = x) (hz : s.credit.session.chargedFor v.price v.funding = z) :
    EndCloses
      (State.modGroup { s with pins := (s.setAway v.position false).pins, load := s.load.released (.motor g) .vend } g fun r =>
        { r with state := .idle })
      v 0 x z (exec (.homeReturn v.position) s) := by
  obtain ⟨w, hw⟩ : ∃ w, w = (s.setAway v.position false).modGroup g fun r => { r with state := .idle } := ⟨_, rfl⟩
  have hwload : w.load = s.load := by rw [hw]; cases g <;> rfl
  obtain ⟨u, hu⟩ : ∃ u, u =
      State.modGroup { s with pins := (s.setAway v.position false).pins, load := s.load.released (.motor g) .vend } g
        fun r => { r with state := .idle } := ⟨_, rfl⟩
  have hreleased : { w with load := w.load.released (.motor g) .vend } = u := by
    rw [hwload, hw, hu]
    cases g <;> rfl
  have hucredit : u.credit = s.credit := by rw [hu]; cases g <;> rfl
  have husales : u.sales = s.sales := by rw [hu]; cases g <;> rfl
  have huvends : u.sales.vends = [v] := by rw [husales]; exact hvends
  have hugroup : (u.group g).held = none := by
    rw [hu, State.group_modGroup_self]
    exact hheld
  have hselection : u.selection v.position = s.selection v.position := by rw [State.selection, husales]; rfl
  rw [← hu]
  refine EndCloses.delivered huvends hfunding (by rw [hucredit]; exact hcloses) (by rw [hselection]; exact hx)
    (by rw [hucredit]; exact hz) fun _ n t hn hdrive h => ?_
  have hturned := Leads.vendTurned_delivered huvends hresult hstate hg hearly h
  rw [← hreleased] at hturned
  have hends := Leads.turnEnded_vend (s := w) (by rw [NothingWaits, hwload]; exact hwaits) hturned
  have htheld : (t.group g).held = none := by
    have hgroup : t.group g = u.group g := by
      unfold State.group
      rw [hdrive]
    rw [hgroup]
    exact hugroup
  exact homeReturn_ends hg hturning hposition (by rw [howner, ← hw]; exact hends) (perform_startHeld_none htheld) (by omega)

/-! ### The door (R76) -/

theorem doorOpen_closes {s : State} {v : Vend} {load : LoadUnit} (hvends : s.sales.vends = [v]) (hresult : v.result = none)
    (hwait : s.credit.session.state = .closeWait) (hmode : s.tables.mode ≠ .service)
    (ha : s.drive.a.testEndsAtDoor = false) (hb : s.drive.b.testEndsAtDoor = false) (hgone : ClaimGone s v load) :
    EndCloses { s.doorOpened with load := load } v 3 (s.selection v.position) s.credit.session (exec .doorOpen s) := by
  refine EndCloses.closeWait (s := { s.doorOpened with load := load }) (r := .abortedDoor) hwait (by decide) rfl
    fun hwaits n t hn _ htvends h => ?_
  have hends := Leads.endVends_only (s := s.doorOpened) (r := .abortedDoor) (d := false) (load := load) (by exact hvends)
    (by exact hgone) (by exact hwaits) rfl h htvends
  rw [exec_doorOpen hmode ha hb, State.ending_of_only hvends (by simp [Vend.unfinished, hresult]), hends.run_eq (by omega)]

/-! ### The Drop Window (R71) -/

/-- The last vend in CLOSE_WAIT ends NO_DROP, its position being sold out before it. -/
theorem EndCloses.noDrop_soldOut {s : State} {v : Vend} {out : Host.Outcome State Fault Refusal} (hvends : s.sales.vends = [v])
    (hwait : s.credit.session.state = .closeWait) (havailable : (s.selection v.position).state = .available)
    (hstreak : 2 ≤ min 15 ((s.selection v.position).missStreak + 1))
    (hout : ∀ n t, n ≤ 200 → Leads n [.endVend v.id .noDrop true] s t → out = .next t.conclude) :
    let y := { s.selection v.position with
      missStreak := min 15 ((s.selection v.position).missStreak + 1), state := .soldOut }
    EndCloses
      (s.soldOutAt v.position (min 15 ((s.selection v.position).missStreak + 1))
        (highestPrice (s.sales.selections.set v.position y) s.plant.lockout))
      v 1 y s.credit.session out := by
  intro y
  have hafter : (s.selection v.position).afterVend .noDrop = y := Selection.afterVend_noDrop_soldOut havailable hstreak
  refine EndCloses.closeWait (r := .noDrop) (by exact hwait) (by decide) (by exact hafter) fun hwaits n t hn _ htvends h => ?_
  refine hout (n + 6) t (by omega) ?_
  refine Leads.endVend_soldOut hvends (sellsOut_noDrop havailable hstreak) ?_ htvends
  rw [hafter]
  exact h

/-- Settles O33, by the way in which the last vend ends. -/
theorem deliveryCloses : Obligations.DeliveryCloses := by
  refine ⟨?_, ?_, ?_⟩
  · intro s v hvends hresult hfunding hcloses p g x y served z
    have hz : s.credit.session.chargedFor v.price v.funding = z := by
      unfold Session.chargedFor
      obtain hcash | hcard := hfunding
      · rw [if_pos hcash, show z = _ from if_pos hcash]
      · have hne : ¬ v.funding = .cash := by rw [hcard]; decide
        rw [if_neg hne, show z = _ from if_neg hne]
    refine ⟨?_, ?_⟩
    · intro turn hturning howner hposition hheld hstate hearly hwaits
      exact homeReturn_delivers rfl hvends hresult hfunding hcloses hturning howner hposition hheld hstate hearly hwaits rfl hz
    · intro since w hbeam hstate hstarted
      refine EndCloses.delivered (s := (s.reach (since + 5)).setBeam .broken) hvends hfunding hcloses rfl hz
        fun _ n t hn _ h => ?_
      have htaker := State.dropTaker_of_only (s := (s.reach (since + 5)).setBeam .broken) hvends hresult hstate hstarted
      rw [exec_dropEvent hbeam, State.attributeDrop_dropWait htaker hstate, Leads.runDoing_eq h (by omega)]
  · intro s v load hvends hresult hwait hmode ha hb hgone stopped
    have hopened := doorOpen_closes hvends hresult hwait hmode ha hb hgone
    rw [State.doorOpened, GroupRec.doorOpened_eq ha, GroupRec.doorOpened_eq hb] at hopened
    exact hopened
  · intro s n v since hvends hresult hwait hstate hn hstarted x cold streak u out
    have hexec : out = .next (runDoing (u.windowOver v)) :=
      exec_dropWindowExpiry hn hstarted (State.vend?_of_only hvends) hresult hstate
    refine ⟨?_, ?_, ?_⟩
    · intro hnoDrop hkept
      have hkept' : ¬ (x.state = .available ∧ 2 ≤ min 15 (x.missStreak + 1)) := by
        rintro ⟨havailable, hstreak⟩
        obtain h | h := hkept
        · exact h havailable
        · exact absurd hstreak (Nat.not_le.2 h)
      refine EndCloses.closeWait (s := u) (r := .noDrop) hwait (by decide) (Selection.afterVend_noDrop hkept')
        fun _ m t hm _ htvends h => ?_
      have hends := Leads.endVend (d := true) (s := u) hvends (not_sellsOut_noDrop hkept') h htvends
      rw [hexec, State.windowOver_noDrop (by exact hnoDrop), Leads.runDoing_eq hends (by omega)]
    · intro hnoDrop havailable hstreak y
      refine ⟨_, highestPrice_spec _ _, EndCloses.noDrop_soldOut (s := u) hvends hwait havailable hstreak
        fun m t hm h => ?_⟩
      rw [hexec, State.windowOver_noDrop (by exact hnoDrop), Leads.runDoing_eq h (by omega)]
    · intro hturns hcold
      refine EndCloses.closeWait (s := u) (r := .heldCold) hwait (by decide) rfl fun _ m t hm _ htvends h => ?_
      have hends := Leads.endVend (d := true) (s := u) hvends (not_sellsOut_of_leaves (r := .heldCold) rfl) h htvends
      rw [hexec, State.windowOver_heldCold (by exact hturns) (by exact hcold), Leads.runDoing_eq hends (by omega)]

end Sys2Proof.Machine

/-! ## The faults of a turn (05, section 5.2) -/

namespace Sys2Proof.Machine

/-! ### A position jammed (R64, R86) -/

/-- A position JAMMED, and Max Available Price computed anew. -/
def State.jamAt (s : State) (p : Nat) : State :=
  { s with
    sales := { s.sales with selections := s.sales.selections.set p { s.selection p with state := .jammed } }
    change :=
      { s.change with
        maxPrice := highestPrice (s.sales.selections.set p { s.selection p with state := .jammed }) s.plant.lockout } }

theorem Leads.jamPosition {n : Nat} {s t : State} {p : Nat} (h : Leads n [(s.jamAt p).cancelAt p] (s.jamAt p) t) :
    Leads (n + 2) [.jamPosition p] s t := by
  obtain ⟨u, hu⟩ : ∃ u, u = s.modSelection p fun x => { x with state := .jammed } := ⟨_, rfl⟩
  have hreprice : Leads 1 [.reprice] u (s.jamAt p) := by
    refine .done ?_
    rw [hu, State.modSelection_eq]
    rfl
  have hsales : u.sales.vends = (s.jamAt p).sales.vends := by
    rw [hu]
    rfl
  have hends : u.cancelAt p = (s.jamAt p).cancelAt p := by
    rw [State.cancelAt, State.cancelAt, State.ending, State.ending, hsales]
  have hjam : perform (.jamPosition p) s = (u, [.reprice, (s.jamAt p).cancelAt p]) := by
    rw [← hends, hu]
    rfl
  exact (Leads.act hjam (hreprice.andThen h)).mono (by omega)

/-- No vend waits at the position. -/
theorem Leads.cancelAt_none {s : State} {p : Nat} (h : ∀ v ∈ s.sales.vends, v.position = p → v.waits = false) :
    Leads 1 [s.cancelAt p] s s := by
  refine State.endTogether_of_none (fun v hv => ?_) _ _
  by_cases hp : v.position = p
  · rw [h v hv hp, Bool.false_and]
  · simp [hp]

/-! ### The acts of a fault (R86) -/

/-- MOTOR_JAM of a turn (R86). -/
def State.motorJam (s u : State) (g : Group) (t : Turn) (why : MotorFault) (phase : Nat) : State :=
  s.raise .motorJam (some t.position)
    [why.code, phase, min 4000 (u.now - t.energizedAt), (u.group g).lastCurrent, t.owner.code]

theorem faultTurn_runs {n m : Nat} {s u z : State} {g : Group} {t : Turn} {why : MotorFault} {phase : Nat}
    (hphase : (s.group g).state.phase = phase)
    (hjam : Leads n [.jamPosition t.position] (s.modGroup g fun r => { r with state := .stopped s.now }) u)
    (hreport : Leads m [.turnFaulted g t.owner] (u.motorJam s g t why phase) z) (hn : n + m ≤ 4000) :
    runDoing (s.faultTurn g t why) = z.conclude := by
  have hnotice : Leads 1
      [.notice .motorJam (some t.position)
        [why.code, (s.group g).state.phase, t.elapsed s.now, (s.group g).lastCurrent, t.owner.code]]
      u (u.motorJam s g t why phase) := .done (by rw [hphase]; rfl)
  exact (hjam.andThen (hnotice.andThen hreport)).runDoing_eq (by omega)

/-- The vend whose turn failed ends JAMMED, its claim released (R70). -/
theorem Leads.turnFaulted_vend {n : Nat} {s t : State} {g : Group} {v : Vend} (hwaits : NothingWaits s)
    (hvends : s.sales.vends = [v]) (hresult : v.result = none) (hstate : v.state = .turning) (hg : groupOf v.position = g)
    (h : Leads n [.vendReported .jammed v.price v.funding]
      (State.onlyVendGone { s with load := s.load.released (.motor g) .vend } v .jammed) t)
    (ht : t.sales.vends = []) : Leads (n + 7) [.turnFaulted g .vend] s t := by
  obtain ⟨u, hu⟩ : ∃ u, u = { s with load := s.load.released (.motor g) .vend } := ⟨_, rfl⟩
  rw [← hu] at h
  have huvends : u.sales.vends = [v] := by rw [hu]; exact hvends
  have hrelease : Leads 2 [.release (.motor g) .vend] s u := by
    rw [hu]
    exact .release hwaits _ _
  have hjammed : perform (.vendJammed g) u = (u, [.endVend v.id .jammed true]) := by
    change u.turnJammed g = _
    rw [State.turnJammed, State.turningVend_of_only huvends hresult hstate hg]
  have hend := Leads.endVend (d := true) huvends (not_sellsOut_of_leaves (r := .jammed) rfl) h ht
  exact (Leads.act (new := [.release (.motor g) .vend, .vendJammed g]) rfl (hrelease.andThen (.act hjammed hend))).mono
    (by omega)

/-! ### The four ends (R64, R70, R74, R93) -/

section
variable (s : State) (g : Group) (t : Turn) (why : MotorFault) (phase : Nat)

/-- What a fault leaves of a turn whose position no vend waits for, before the report to its owner. -/
theorem faulted_alone (hnone : ∀ v ∈ s.sales.vends, v.position = t.position → v.waits = false) :
    Leads 3 [.jamPosition t.position] (s.modGroup g fun r => { r with state := .stopped s.now })
      ((s.modGroup g fun r => { r with state := .stopped s.now }).jamAt t.position) := by
  refine .jamPosition (.cancelAt_none fun v hv => hnone v ?_)
  cases g <;> exact hv

theorem faulted_test (hphase : (s.group g).state.phase = phase) (hwaits : NothingWaits s) (howner : t.owner = .test)
    (hnone : ∀ v ∈ s.sales.vends, v.position = t.position → v.waits = false) :
    runDoing (s.faultTurn g t why) =
      State.conclude
        (State.modGroup { (s.jamAt t.position).motorJam s g t why phase with load := s.load.released (.motor g) .test } g
          fun r => { r with state := .stopped s.now, test := none }) := by
  have hreport := Leads.endTest (a := .turnFaulted g .test) (g := g)
    (s := ((s.modGroup g fun r => { r with state := .stopped s.now }).jamAt t.position).motorJam s g t why phase)
    (by cases g <;> exact hwaits) rfl
  rw [← howner] at hreport
  rw [faultTurn_runs hphase (faulted_alone s g t hnone) hreport (by decide)]
  cases g <;> rfl

/-- The state in which the report to the vend of a failed turn begins, when it is the only vend. -/
theorem faulted_vend {n : Nat} {u z : State} {v : Vend} (hphase : (s.group g).state.phase = phase) (howner : t.owner = .vend)
    (hjam : Leads 8 [.jamPosition t.position] (s.modGroup g fun r => { r with state := .stopped s.now }) u)
    (hwaits : NothingWaits u) (hvends : u.sales.vends = [v]) (hresult : v.result = none) (hstate : v.state = .turning)
    (hg : groupOf v.position = g)
    (h : Leads n [.vendReported .jammed v.price v.funding]
      (State.onlyVendGone { u.motorJam s g t why phase with load := u.load.released (.motor g) .vend } v .jammed) z)
    (hz : z.sales.vends = []) (hn : n ≤ 3000) : runDoing (s.faultTurn g t why) = z.conclude := by
  have hreport := Leads.turnFaulted_vend (s := u.motorJam s g t why phase) hwaits hvends hresult hstate hg h hz
  rw [← howner] at hreport
  exact faultTurn_runs hphase hjam hreport (by omega)

end

/-- The last vend closes its session, its position having been changed before its end. -/
theorem VendClosed.of_set {s u : State} {v : Vend} {r : VendResult} {x : Selection} {z : Session}
    (hr : r.leavesSelection = true) (hz : s.credit.session = z)
    (hu : u = { s with sales := { s.sales with selections := s.sales.selections.set v.position x } }) :
    VendClosed s (u.onlyVendGone v r) v r.code x z where
  sales := by
    rw [State.onlyVendGone_leaves hr, hu]
    rfl
  session := by
    rw [hu]
    exact hz
  same := by
    have hset : SameExcept [.selections] s u := by
      rw [hu]
      intro p hp
      cases p
      case selections => simp at hp
      all_goals simp [Part.same]
    exact (hset.trans (State.sameExcept_onlyVendGone u v r)).mono (by decide)
  heard := by
    have hset : Heard s u [] := by
      rw [hu]
      exact (Heard.refl _).congr rfl rfl rfl
    have hnotice : u.notice .vendResult (some v.position) (resultValues v r.code) =
        s.notice .vendResult (some v.position) (resultValues v r.code) := by
      rw [hu]
      rfl
    rw [← hnotice]
    exact hset.trans (Heard.onlyVendGone u v r)

/-- A fault of a turn, by its owner and the vends listed (R86). -/
theorem faulted (s : State) (g : Group) (t : Turn) (why : MotorFault) (phase : Nat)
    (hphase : (s.group g).state.phase = phase) : Faulted s g t why phase (.next (runDoing (s.faultTurn g t why))) := by
  intro hwaits
  refine ⟨?_, ?_, ?_, ?_⟩
  · intro howner hnone
    refine ⟨_, highestPrice_spec _ _, ?_⟩
    rw [faulted_test s g t why phase hphase hwaits howner hnone, State.motorJam, howner]
    rfl
  · intro howner v honly hstate hposition hg
    obtain ⟨hvends, hresult, hopen⟩ := honly
    refine ⟨_, highestPrice_spec _ _, congrArg Host.Outcome.next ?_⟩
    have hjam := faulted_alone s g t fun w hw _ => by
      rw [hvends, List.mem_singleton] at hw
      rw [hw]
      simp [Vend.waits, hstate]
    rw [faulted_vend s g t why phase (v := v) hphase howner (hjam.mono (by decide)) (by cases g <;> exact hwaits)
      (by cases g <;> exact hvends) hresult hstate (by rw [hposition]; exact hg)
      (.vendReported_open rfl (by cases g <;> exact hopen) (by decide)) rfl (by decide), State.onlyVendGone_leaves rfl,
      State.motorJam, howner, hposition]
    cases g <;> rfl
  · intro howner v hvends hresult hwait hstate hposition hg
    refine ⟨_, highestPrice_spec _ _, ?_⟩
    have hjam := faulted_alone s g t fun w hw _ => by
      rw [hvends, List.mem_singleton] at hw
      rw [hw]
      simp [Vend.waits, hstate]
    obtain ⟨w, hw⟩ : ∃ w, w = (s.modGroup g fun r => { r with state := .stopped s.now }).jamAt t.position := ⟨_, rfl⟩
    obtain ⟨u, hu⟩ : ∃ u, u = { w.motorJam s g t why phase with load := w.load.released (.motor g) .vend } := ⟨_, rfl⟩
    rw [← hw] at hjam
    refine VendClosed.endCloses (u := u.onlyVendGone v .jammed) (VendClosed.of_set (r := .jammed) rfl (by cases g <;> rfl) ?_) fun _ _ n z hn _ hsales h => ?_
    · rw [hu, hw, State.motorJam, howner, hposition]
      cases g <;> rfl
    · have hzvends : z.sales.vends = [] := by
        rw [hsales]
        rfl
      rw [faulted_vend s g t why phase (v := v) hphase howner (hjam.mono (by decide)) (by rw [hw]; cases g <;> exact hwaits)
        (by rw [hw]; cases g <;> exact hvends) hresult hstate (by rw [hposition]; exact hg)
        (.vendReported_closeWait rfl (by rw [hw]; cases g <;> exact hwait) (by decide) (by rw [← hu]; exact h)) hzvends (by omega)]
  · intro howner v w hvends hids hresult hwresult hopen hstate hqueued hposition hwposition hg
    refine ⟨_, highestPrice_spec _ _, congrArg Host.Outcome.next ?_⟩
    obtain ⟨u, hu⟩ : ∃ u, u = (s.modGroup g fun r => { r with state := .stopped s.now }).jamAt t.position := ⟨_, rfl⟩
    have huvends : u.sales.vends = [v, w] := by rw [hu]; cases g <;> exact hvends
    have hcancel := Leads.cancelAt_second huvends hids (by simp [Vend.waits, hstate]) hwresult hqueued
    rw [hwposition, hu] at hcancel
    have hjam := (Leads.jamPosition hcancel).mono (show 5 + 2 ≤ 8 by decide)
    rw [faulted_vend s g t why phase (v := v) hphase howner hjam (by cases g <;> exact hwaits)
      (by cases g <;> rfl) hresult hstate (by rw [hposition]; exact hg)
      (.vendReported_open rfl (by cases g <;> exact hopen) (by decide)) rfl (by decide), State.onlyVendGone_leaves rfl,
      State.motorJam, howner, hposition]
    have hstarted : (s.sales.started.filter (· ≠ w.id)).filter (· ≠ v.id) =
        s.sales.started.filter fun i => decide (i ≠ v.id ∧ i ≠ w.id) := by
      rw [List.filter_filter]
      refine List.filter_congr fun i _ => ?_
      simp
    rw [← hstarted, State.secondCancelled, hwposition]
    cases g <;> rfl

/-! ### The commands (R81, R83, R84, R85) -/

theorem exec_homeLeaveTime_starting {s : State} {g : Group} {t : Turn} (h : (s.group g).state = .starting t) :
    exec (.homeLeaveTime g) s = .next (runDoing ((s.reach (t.energizedAt + 600)).faultTurn g t .timeout)) := by
  change execHomeLeaveTime g s = _
  rw [execHomeLeaveTime, h]
  rfl

theorem exec_turnTimeout_turn {s : State} {g : Group} {t : Turn}
    (h : (s.group g).state = .starting t ∨ (s.group g).state = .turning t) :
    exec (.turnTimeout g) s = .next (runDoing ((s.reach (t.energizedAt + 4000)).faultTurn g t .timeout)) := by
  have hturn : (s.group g).turn? = some t := by
    rw [GroupRec.turn?]
    obtain h | h := h <;> rw [h]
  change execTurnTimeout g s = _
  rw [execTurnTimeout, hturn]
  rfl

/-- Settles O35: a timer that finds a turn ends it in a TIMEOUT. -/
theorem turnFaults : Obligations.TurnFaults := by
  refine ⟨?_, ?_, ?_, ?_⟩
  · intro s g t h
    rw [exec_homeLeaveTime_starting h]
    exact faulted (s.reach (t.energizedAt + 600)) g t .timeout 0 (congrArg GroupState.phase h)
  · intro s g t h
    constructor
    · change execHomeLeaveTime g s = _
      rw [execHomeLeaveTime, h]
    · rw [exec_turnTimeout_turn (.inr h)]
      exact faulted (s.reach (t.energizedAt + 4000)) g t .timeout 1 (congrArg GroupState.phase h)
  · intro s g t h
    rw [exec_turnTimeout_turn (.inl h)]
    exact faulted (s.reach (t.energizedAt + 4000)) g t .timeout 0 (congrArg GroupState.phase h)
  · intro s g since h
    constructor
    · change execHomeLeaveTime g s = _
      rw [execHomeLeaveTime]
      obtain h | h := h <;> rw [h]
    · change execTurnTimeout g s = _
      rw [execTurnTimeout, GroupRec.turn?]
      obtain h | h := h <;> rw [h]

/-! ### Current samples -/

/-- A turn of a phase stands in a group. -/
def GroupState.Turns (x : GroupState) (t : Turn) (phase : Nat) : Prop :=
  x = .starting t ∧ phase = 0 ∨ x = .turning t ∧ phase = 1

/-- The state of a group with the turn `t` in a phase. -/
def GroupState.ofPhase (phase : Nat) (t : Turn) : GroupState := if phase = 0 then .starting t else .turning t

theorem GroupState.Turns.withTurn {x : GroupState} {t : Turn} {phase : Nat} (h : x.Turns t phase) (t' : Turn) :
    x.withTurn t' = .ofPhase phase t' := by
  obtain ⟨rfl, rfl⟩ | ⟨rfl, rfl⟩ := h <;> rfl

theorem GroupState.Turns.phase_ofPhase {x : GroupState} {t : Turn} {phase : Nat} (h : x.Turns t phase) (t' : Turn) :
    (GroupState.ofPhase phase t').phase = phase := by
  obtain ⟨rfl, rfl⟩ | ⟨rfl, rfl⟩ := h <;> rfl

/-- The group behind a sample: the next one is due 10 ms later (R84, R85). -/
def State.sampledAt (s : State) (g : Group) (t : Turn) (phase milliamps : Nat) : State :=
  s.modGroup g fun r =>
    { r with
      state := .ofPhase phase { t with sampleAt := s.now + 10 }
      lastCurrent := milliamps
      highRun := if 1600 < milliamps then min 20 ((s.group g).highRun + 1) else 0
      noMotorChecked := r.noMotorChecked || decide (300 ≤ min 4000 (s.now - t.energizedAt)) }

theorem State.takeCurrent_eq {s : State} {g : Group} {t : Turn} {phase : Nat} (h : (s.group g).state.Turns t phase)
    (milliamps : Nat) :
    s.takeCurrent g t milliamps =
      if 20 ≤ (if 1600 < milliamps then min 20 ((s.group g).highRun + 1) else 0) then
        (s.sampledAt g t phase milliamps).faultTurn g { t with sampleAt := s.now + 10 } .stall
      else if ((s.group g).noMotorChecked = false ∧ 300 ≤ min 4000 (s.now - t.energizedAt)) ∧ milliamps < 60 then
        (s.sampledAt g t phase milliamps).faultTurn g { t with sampleAt := s.now + 10 } .noMotor
      else (s.sampledAt g t phase milliamps, []) := by
  have hstate : (s.modGroup g fun r =>
      { r.sampled milliamps with
        state := r.state.withTurn { t with sampleAt := s.now + 10 }
        noMotorChecked := r.noMotorChecked || (s.group g).checksMotor t s.now }) = s.sampledAt g t phase milliamps := by
    refine State.modGroup_congr ?_
    rw [h.withTurn]
    have hchecked : ((s.group g).noMotorChecked || (s.group g).checksMotor t s.now) =
        ((s.group g).noMotorChecked || decide (300 ≤ min 4000 (s.now - t.energizedAt))) := by
      rw [GroupRec.checksMotor]
      cases (s.group g).noMotorChecked <;> rfl
    rw [hchecked]
    rfl
  have hrun : ((s.sampledAt g t phase milliamps).group g).highRun =
      if 1600 < milliamps then min 20 ((s.group g).highRun + 1) else 0 := by
    rw [State.sampledAt, State.group_modGroup_self]
  have hcheck : ((s.group g).checksMotor t s.now && decide (milliamps < 60)) =
      decide (((s.group g).noMotorChecked = false ∧ 300 ≤ min 4000 (s.now - t.energizedAt)) ∧ milliamps < 60) := by
    rw [GroupRec.checksMotor, Turn.elapsed]
    cases (s.group g).noMotorChecked <;> simp [Config.noMotorCheck, Config.turnTimeout]
  obtain ⟨w, hw⟩ : ∃ w, w = s.modGroup g fun r =>
      { r.sampled milliamps with
        state := r.state.withTurn { t with sampleAt := s.now + 10 }
        noMotorChecked := r.noMotorChecked || (s.group g).checksMotor t s.now } := ⟨_, rfl⟩
  have hunfold : s.takeCurrent g t milliamps =
      if 20 ≤ (w.group g).highRun then w.faultTurn g { t with sampleAt := s.now + 10 } .stall
      else if ((s.group g).checksMotor t s.now && decide (milliamps < 60)) = true then
        w.faultTurn g { t with sampleAt := s.now + 10 } .noMotor
      else (w, []) := by
    rw [hw]
    rfl
  rw [hunfold, hw, hstate, hrun, hcheck]
  simp only [decide_eq_true_eq]

theorem exec_currentSample {s : State} {g : Group} {t : Turn} {phase : Nat} (h : (s.group g).state.Turns t phase)
    (milliamps : Nat) :
    exec (.currentSample g milliamps) s = .next (runDoing ((s.reach t.sampleAt).takeCurrent g t milliamps)) := by
  have hturn : (s.group g).turn? = some t := by
    rw [GroupRec.turn?]
    obtain ⟨h, -⟩ | ⟨h, -⟩ := h <;> rw [h]
  change execCurrentSample g milliamps s = _
  rw [execCurrentSample, hturn]

/-- Settles O36, by the run of high samples and the No-Motor check. -/
theorem currentSampled : Obligations.CurrentSampled := by
  constructor
  · intro s g milliamps t phase h now run check x y u
    have hturns : ((s.reach t.sampleAt).group g).state.Turns t phase := h
    have hexec := exec_currentSample h milliamps
    rw [State.takeCurrent_eq hturns] at hexec
    have hu : (s.reach t.sampleAt).sampledAt g t phase milliamps = u := by
      obtain ⟨-, rfl⟩ | ⟨-, rfl⟩ := h <;> rfl
    have hphase : (u.group g).state.phase = phase := by
      rw [← hu, State.sampledAt, State.group_modGroup_self]
      exact hturns.phase_ofPhase _
    rw [hu] at hexec
    refine ⟨?_, ?_, ?_⟩
    · intro hstall
      rw [hexec, if_pos (by exact hstall)]
      exact faulted u g x .stall phase hphase
    · intro hrun hcheck hopen
      rw [hexec, if_neg (by exact Nat.not_le.2 hrun), if_pos (by exact ⟨hcheck, hopen⟩)]
      exact faulted u g x .noMotor phase hphase
    · intro hrun hgoes
      rw [hexec, if_neg (by exact Nat.not_le.2 hrun), if_neg (by exact hgoes)]
      rfl
  · intro s g milliamps since h
    change execCurrentSample g milliamps s = _
    rw [execCurrentSample, GroupRec.turn?]
    obtain h | h := h <;> rw [h]

end Sys2Proof.Machine

/-! ## How the compressor starts (06, section 6.4) -/

namespace Sys2Proof.Machine

/-! ### A claim that waits (R121, R122) -/

/-- A claim alone in the waiting queue, placed now. -/
def State.withClaim (s : State) (k : LoadKind) (o : Claimant) : State :=
  { s with
    load :=
      { s.load with
        queue := [{ kind := k, owner := o, units := s.load.table.units k, priority := k.priority, arrival := s.now }] } }

theorem LoadUnit.suspension_of_none {l : LoadUnit} {now : Nat} {h : Claim}
    (hno : (∀ g ∈ l.granted, g.kind ≠ .defrost) ∨ 4 ≤ h.priority) : l.suspension now h = none := by
  rw [LoadUnit.suspension]
  obtain hnone | hpriority := hno
  · have hdefrost : l.defrostGrant = none := by
      rw [LoadUnit.defrostGrant, List.find?_eq_none]
      simpa using hnone
    rw [hdefrost]
    rfl
  · have hnot : ¬ h.priority < 4 := Nat.not_lt.2 hpriority
    cases l.defrostGrant <;> simp [hnot]

/-- A head that does not fit, with no defrost that it can take back, waits on (R122, R123). -/
theorem Leads.decide_waits {s : State} {h : Claim} {rest : List Claim} (hqueue : s.load.queue = h :: rest)
    (hfull : s.load.table.budget < s.load.drawn + h.units) (hno : s.load.suspension s.now h = none) :
    Leads 1 [.decide] s s := by
  refine .done ?_
  change s.decideHead = _
  rw [State.decideHead, hqueue]
  dsimp only
  rw [if_neg (Nat.not_le.2 hfull), hno]

/-- A claim that does not fit waits alone (R121, R122). -/
theorem Leads.place_waits {s : State} {k : LoadKind} {o : Claimant} (hwaits : NothingWaits s)
    (hnone : ∀ g ∈ s.load.granted, g.kind ≠ k) (hfull : s.load.table.budget < s.load.drawn + s.load.table.units k)
    (hno : (∀ g ∈ s.load.granted, g.kind ≠ .defrost) ∨ 4 ≤ k.priority) :
    Leads 2 [.place k o] s (s.withClaim k o) := by
  obtain ⟨hqueue, hheld⟩ := hwaits
  have hplace : perform (.place k o) s = (s.withClaim k o, [.decide]) := by
    change s.placeClaim k o = _
    rw [State.placeClaim, if_neg (by simp [LoadUnit.holds_eq_false hqueue hnone])]
    simp only [State.modLoad, LoadUnit.enter, hqueue, State.withClaim]
    rfl
  exact .act hplace (.decide_waits (rest := []) rfl hfull (LoadUnit.suspension_of_none hno))

/-! ### Demand (R101, R107) -/

/-- Demand as it is tested now. -/
def State.withDemand (s : State) : State := { s with plant := { s.plant with demand := s.plant.demandNow s.now } }

theorem PlantUnit.demandNow_failed {p : PlantUnit} (h : p.cab.state = .failed) (hresting : p.resting = true) (now : Nat) :
    p.demandNow now = (p.demand || decide (p.cooling.fallbackOff * 1000 ≤ now - p.offSince)) := by
  rw [PlantUnit.demandNow, if_pos h, hresting, Bool.true_and]

/-- The thermostat (R101). -/
theorem PlantUnit.demandNow_thermostat {p : PlantUnit} {t : Int} (h : p.cab.state ≠ .failed) (ht : p.cab.temp = some t)
    (now : Nat) :
    p.demandNow now =
      if p.cooling.setpoint + p.cooling.band ≤ t then true else if t ≤ p.cooling.setpoint then false else p.demand := by
  rw [PlantUnit.demandNow, if_neg h, ht]
  rfl

theorem thermostat_eq (setpoint band t : Int) (d : Bool) :
    (if setpoint + band ≤ t then true else if t ≤ setpoint then false else d) =
      (decide (setpoint + band ≤ t) || (decide (setpoint < t) && d)) := by
  by_cases h1 : setpoint + band ≤ t
  · simp [h1]
  · by_cases h2 : t ≤ setpoint
    · have h3 : ¬ setpoint < t := not_lt.2 h2
      simp [h1, h2, h3]
    · have h3 : setpoint < t := not_le.1 h2
      simp [h1, h2, h3]

/-! ### The demand test (R101 to R103) -/

theorem State.testDemand_eq (s : State) :
    s.testDemand =
      match s.plant.compressor with
      | .offReady =>
        if s.plant.demandNow s.now && s.plant.mayStart then
          (s.withDemand.setCompressor .startWait, [.place .compressorStart .plant])
        else (s.withDemand, [])
      | .startWait =>
        if s.plant.demandNow s.now then (s.withDemand, [])
        else (s.withDemand.setCompressor .offReady, [.withdraw .compressorStart .plant])
      | .offMin | .starting _ | .running _ | .protecting => (s.withDemand, []) := rfl

/-- The demand test finds nothing to start or to give up. -/
theorem Leads.demandTest_noted {s : State}
    (h : s.plant.compressor = .offMin ∨ s.plant.compressor = .protecting
      ∨ (∃ since, s.plant.compressor = .starting since ∨ s.plant.compressor = .running since)
      ∨ s.plant.compressor = .offReady
        ∧ (s.plant.demandNow s.now = false ∨ s.plant.defrost ≠ .idle ∨ s.plant.limitApplies = true)
      ∨ s.plant.compressor = .startWait ∧ s.plant.demandNow s.now = true) :
    Leads 1 [.demandTest] s s.withDemand := by
  refine .done ?_
  change s.testDemand = _
  rw [State.testDemand_eq]
  obtain h | h | ⟨since, h | h⟩ | ⟨h, hno⟩ | ⟨h, hdemand⟩ := h
  · rw [h]
  · rw [h]
  · rw [h]
  · rw [h]
  · rw [h]
    refine if_neg ?_
    obtain h | h | h := hno
    · simp [h]
    · simp [PlantUnit.mayStart, h]
    · simp [PlantUnit.mayStart, h]
  · rw [h]
    exact if_pos hdemand

/-- A start claim is granted as soon as it is placed. -/
structure GrantsStart (s : State) : Prop where
  waits : NothingWaits s
  none : ∀ g ∈ s.load.granted, g.kind ≠ .compressorStart
  fits : s.load.drawn + s.load.table.compressorStart ≤ s.load.table.budget

theorem State.testDemand_starts {s : State} (hready : s.plant.compressor = .offReady)
    (hdemand : s.plant.demandNow s.now = true) (hidle : s.plant.defrost = .idle) (hlimit : s.plant.limitApplies = false) :
    s.testDemand =
      (({ s with plant := { s.plant with compressor := .startWait, demand := true } } : State),
        [.place .compressorStart .plant]) := by
  have hstart : s.plant.mayStart = true := by simp [PlantUnit.mayStart, hidle, hlimit]
  rw [State.testDemand_eq, hready]
  dsimp only
  rw [if_pos (by rw [hdemand, hstart]; rfl), State.withDemand, hdemand]
  rfl

/-- A compressor that is OFF_READY starts, its claim granted at once (R102 to R104). -/
theorem Leads.demandTest_starts {s : State} (hready : s.plant.compressor = .offReady)
    (hdemand : s.plant.demandNow s.now = true) (hidle : s.plant.defrost = .idle) (hlimit : s.plant.limitApplies = false)
    (hgrants : GrantsStart s) :
    Leads 5 [.demandTest] s
      { s.withGrant .compressorStart .plant with plant := { s.plant with compressor := .starting s.now, demand := true } } := by
  refine .act (State.testDemand_starts hready hdemand hidle hlimit) ?_
  exact Leads.place (n := 1) hgrants.waits hgrants.none hgrants.fits (.done rfl) hgrants.waits.1

/-- A compressor that is OFF_READY waits for its claim (R103). -/
theorem Leads.demandTest_waits {s : State} (hready : s.plant.compressor = .offReady)
    (hdemand : s.plant.demandNow s.now = true) (hidle : s.plant.defrost = .idle) (hlimit : s.plant.limitApplies = false)
    (hwaits : NothingWaits s) (hnone : ∀ g ∈ s.load.granted, g.kind ≠ .compressorStart)
    (hdefrost : ∀ g ∈ s.load.granted, g.kind ≠ .defrost)
    (hfull : s.load.table.budget < s.load.drawn + s.load.table.compressorStart) :
    Leads 3 [.demandTest] s
      { s.withClaim .compressorStart .plant with plant := { s.plant with compressor := .startWait, demand := true } } := by
  refine .act (State.testDemand_starts hready hdemand hidle hlimit) ?_
  exact Leads.place_waits (s := { s with plant := { s.plant with compressor := .startWait, demand := true } }) hwaits hnone hfull
    (.inl hdefrost)

/-! ### Start Window (R104, R125) -/

/-- The grant of the start claim shrinks to COMPRESSOR_RUN. -/
theorem runDoing_shrinkStart {s : State} (hwaits : NothingWaits s) :
    runDoing s.shrinkStart =
      State.conclude
        { s with
          load :=
            { s.load with
              granted := s.load.granted.map fun g =>
                if g.kind = .compressorStart then
                  { g with kind := .compressorRun, units := min s.load.table.compressorRun g.units }
                else g } } := by
  rw [State.shrinkStart]
  split
  · exact (Leads.decide_nil (s := s.modLoad fun l => { l with granted := l.granted.map fun g => g.shrink l.table })
      hwaits.1).run_eq (by decide)
  · next hnone =>
    have hsame : (s.load.granted.map fun g =>
        if g.kind = .compressorStart then
          { g with kind := .compressorRun, units := min s.load.table.compressorRun g.units }
        else g) = s.load.granted := by
      refine (List.map_congr_left fun g hg => if_neg fun hk => ?_).trans (List.map_id _)
      exact hnone (List.any_eq_true.2 ⟨g, hg, by simpa using hk⟩)
    rw [hsame]
    rfl

/-! ### The commands -/

theorem exec_minOffEnd {s : State} (h : s.plant.compressor = .offMin) :
    exec .minOffEnd s =
      .next
        (run
          { s with
            now := max s.now (s.plant.offSince + s.plant.cooling.minOff * 1000)
            plant := { s.plant with compressor := .offReady } }
          [.demandTest]) := by
  change execMinOffEnd s = _
  rw [execMinOffEnd, h]
  rfl

theorem exec_fallbackOffElapsed {s : State} (hfailed : s.plant.cab.state = .failed) (hresting : s.plant.resting = true) :
    exec .fallbackOffElapsed s =
      .next (run (s.reach (s.plant.offSince + s.plant.cooling.fallbackOff * 1000)) [.demandTest]) := by
  change execFallbackOffElapsed s = _
  rw [execFallbackOffElapsed, if_pos ⟨hfailed, hresting⟩]
  rfl

/-- Under fallback duty the end of Fallback Off brings demand (R107). -/
theorem PlantUnit.demandNow_fallbackOff {p : PlantUnit} (hfailed : p.cab.state = .failed) (hresting : p.resting = true)
    (now : Nat) : p.demandNow (max now (p.offSince + p.cooling.fallbackOff * 1000)) = true := by
  rw [PlantUnit.demandNow_failed hfailed hresting]
  have hover : p.cooling.fallbackOff * 1000 ≤ max now (p.offSince + p.cooling.fallbackOff * 1000) - p.offSince := by omega
  simp [hover]

/-- Settles O40, by what the demand test finds. -/
theorem compressorStarts : Obligations.CompressorStarts := by
  refine ⟨?_, ?_, ?_, ?_, ?_⟩
  · intro s wants hoff p now hwants
    obtain ⟨u, hu⟩ : ∃ u : State, u = { s with now := now, plant := { p with compressor := .offReady } } := ⟨_, rfl⟩
    have hexec : exec .minOffEnd s = .next (run u [.demandTest]) := (exec_minOffEnd hoff).trans (by rw [hu])
    have hdemand : u.plant.demandNow u.now = wants := by
      rw [hu]
      obtain ⟨hfailed, hw⟩ | ⟨hgood, t, ht, hw⟩ := hwants <;> rw [hw]
      · exact PlantUnit.demandNow_failed (p := { p with compressor := .offReady }) hfailed rfl now
      · exact (PlantUnit.demandNow_thermostat (p := { p with compressor := .offReady }) hgood ht now).trans
          (thermostat_eq _ _ _ _)
    constructor
    · intro hno
      have hlead : Leads 1 [.demandTest] u u.withDemand := .demandTest_noted
        (.inr (.inr (.inr (.inl ⟨by rw [hu], by rw [hdemand, hu]; exact hno⟩))))
      rw [hexec, hlead.run_eq (by decide), State.withDemand, hdemand, hu]
    · intro hyes hidle hlimit hwaits hnone
      rw [hyes] at hdemand
      constructor
      · intro hfits
        have hlead := Leads.demandTest_starts (s := u) (by rw [hu]) hdemand (by rw [hu]; exact hidle) (by rw [hu]; exact hlimit)
          ⟨by rw [hu]; exact hwaits, by rw [hu]; exact hnone, by rw [hu]; exact hfits⟩
        rw [hexec, hlead.run_eq (by decide), hu]
        rfl
      · intro hfull hdefrost
        have hlead := Leads.demandTest_waits (s := u) (by rw [hu]) hdemand (by rw [hu]; exact hidle) (by rw [hu]; exact hlimit)
          (by rw [hu]; exact hwaits) (by rw [hu]; exact hnone) (by rw [hu]; exact hdefrost) (by rw [hu]; exact hfull)
        rw [hexec, hlead.run_eq (by decide), hu]
        rfl
  · intro s hready hfailed hidle hlimit hwaits hnone hfits now
    have hresting : s.plant.resting = true := by simp [PlantUnit.resting, hready]
    have hlead := Leads.demandTest_starts (s := s.reach (s.plant.offSince + s.plant.cooling.fallbackOff * 1000)) hready
      (PlantUnit.demandNow_fallbackOff hfailed hresting s.now) hidle hlimit ⟨hwaits, hnone, hfits⟩
    rw [exec_fallbackOffElapsed hfailed hresting, hlead.run_eq (by decide)]
    rfl
  · intro s hfailed p now
    refine ⟨?_, ?_, ?_⟩
    · intro hstate
      have hresting : s.plant.resting = true := by
        rw [PlantUnit.resting]
        obtain h | h | ⟨h, -⟩ := hstate <;> rw [h]
      have hdemand := PlantUnit.demandNow_fallbackOff hfailed hresting s.now
      have hlead : Leads 1 [.demandTest] (s.reach (s.plant.offSince + s.plant.cooling.fallbackOff * 1000)) _ :=
        .demandTest_noted (by
          obtain h | h | ⟨h, hno⟩ := hstate
          · exact .inl h
          · exact .inr (.inl h)
          · exact .inr (.inr (.inr (.inl ⟨h, .inr hno⟩))))
      rw [exec_fallbackOffElapsed hfailed hresting, hlead.run_eq (by decide)]
      refine congrArg (fun x : State => Host.Outcome.next x.conclude) ?_
      exact congrArg (fun d => { s with now := now, plant := { s.plant with demand := d } }) hdemand
    · intro hready hidle hlimit hwaits hnone hdefrost hfull
      have hresting : s.plant.resting = true := by simp [PlantUnit.resting, show s.plant.compressor = _ from hready]
      have hlead := Leads.demandTest_waits (s := s.reach (s.plant.offSince + s.plant.cooling.fallbackOff * 1000)) hready
        (PlantUnit.demandNow_fallbackOff hfailed hresting s.now) hidle hlimit hwaits hnone hdefrost hfull
      rw [exec_fallbackOffElapsed hfailed hresting, hlead.run_eq (by decide)]
      rfl
    · intro hstate
      have hresting : s.plant.resting = false := by
        rw [PlantUnit.resting]
        obtain h | ⟨since, h | h⟩ := hstate <;> rw [show s.plant.compressor = _ from h]
      change execFallbackOffElapsed s = _
      rw [execFallbackOffElapsed, if_neg (by simp [hresting])]
  · intro s since hstarting hwaits
    change execStartWindowEnd s = _
    rw [execStartWindowEnd, hstarting]
    dsimp only
    rw [runDoing_shrinkStart (by exact hwaits)]
    rfl
  · intro s
    refine ⟨?_, ?_, ?_⟩
    · intro hoff
      change execMinOffEnd s = _
      rw [execMinOffEnd]
      split
      · next h => exact absurd h hoff
      all_goals rfl
    · intro hgood
      change execFallbackOffElapsed s = _
      rw [execFallbackOffElapsed, if_neg fun h => hgood h.1]
    · intro hnone
      change execStartWindowEnd s = _
      rw [execStartWindowEnd]
      split
      · next since h => exact absurd h (hnone since)
      all_goals rfl

end Sys2Proof.Machine

/-! ## The stop of a run and the stages of a defrost (06, sections 6.4 and 6.5) -/

namespace Sys2Proof.Machine

/-! ### The stop test (R105) -/

theorem Leads.stopTest_none {s : State} (h : ∀ since, s.plant.compressor = .running since → s.plant.stops s.now = false) :
    Leads 1 [.stopTest] s s := by
  refine .done ?_
  change s.testStop = _
  rw [State.testStop]
  split
  · next since hrunning => rw [if_neg (by simp [h since hrunning])]
  all_goals rfl

/-- A run halted: OFF_MIN begins, and the run-time total keeps the run (R105, R107). -/
theorem PlantUnit.halt_eq {p : PlantUnit} {since : Nat} (h : p.compressor = .starting since ∨ p.compressor = .running since)
    (now : Nat) (c : Compressor) :
    p.halt now c =
      { p with
        compressor := c, offSince := now, runMs := min 86400000 (p.runMs + (now - since))
        demand := if p.cab.state = .failed then false else p.demand } := by
  have hon : p.onMs now = now - since := by
    rw [PlantUnit.onMs]
    obtain h | h := h <;> rw [h]
  unfold PlantUnit.halt PlantUnit.runTotal Config.runTotalMax
  simp only [hon, Nat.reduceMul]

/-- The relay off and the claim of the run given back (R105). -/
def State.runHalted (s : State) : State :=
  { s with plant := s.plant.halt s.now .offMin, load := s.load.released .compressorRun .plant }

theorem Leads.stopTest_stops {n : Nat} {s t : State} {since : Nat} (hrunning : s.plant.compressor = .running since)
    (hstops : s.plant.stops s.now = true) (hwaits : NothingWaits s) (h : Leads n [.defrostProceeds] s.runHalted t) :
    Leads (n + 3) [.stopTest] s t := by
  have hstop : perform .stopTest s =
      ({ s with plant := s.plant.halt s.now .offMin }, [.release .compressorRun .plant, .defrostProceeds]) := by
    change s.testStop = _
    rw [State.testStop, hrunning]
    exact if_pos hstops
  refine (Leads.act hstop ((Leads.release (s := { s with plant := s.plant.halt s.now .offMin }) hwaits .compressorRun
    .plant).andThen h)).mono (by omega)

theorem PlantUnit.stops_running {p : PlantUnit} {since : Nat} (h : p.compressor = .running since) (now : Nat) :
    p.stops now = true ↔
      p.cooling.minRun * 1000 ≤ now - since
        ∧ (p.demand = false ∨ p.defrost.isDue = true ∨ p.cab.state = .failed ∧ p.cooling.fallbackOn * 1000 ≤ now - since) := by
  have hon : p.onMs now = now - since := by rw [PlantUnit.onMs, h]
  simp [PlantUnit.stops, hon, or_assoc]

/-! ### A defrost that is DUE proceeds (R108, R109) -/

theorem Leads.defrostProceeds_none {s : State} (h : s.plant.defrost.isDue = false) : Leads 1 [.defrostProceeds] s s := by
  refine .done ?_
  change s.proceedDefrost = _
  rw [State.proceedDefrost]
  split
  · next c hdue =>
    rw [hdue] at h
    cases h
  all_goals rfl

/-- A DEFROST claim is granted as soon as it is placed. -/
structure GrantsDefrost (s : State) : Prop where
  waits : NothingWaits s
  none : ∀ g ∈ s.load.granted, g.kind ≠ .defrost
  fits : s.load.drawn + s.load.table.defrost ≤ s.load.table.budget

theorem Leads.defrostTest_none {s : State} (h : s.plant.coilEnd = false) : Leads 1 [.defrostTest] s s := by
  refine .done ?_
  change s.testDefrost = _
  rw [State.testDefrost, if_neg (by simp [h])]

theorem State.proceedDefrost_due {s : State} {c : DefrostCause} (hdue : s.plant.defrost = .due c)
    (hrelay : s.plant.relay = false) :
    s.proceedDefrost = (({ s with plant := { s.plant with defrost := .claiming c } } : State), [.place .defrost .plant]) := by
  rw [State.proceedDefrost, hdue]
  exact if_neg (by simp [hrelay])

/-- The defrost heats, its claim granted at once (R109). -/
theorem Leads.defrostProceeds_heats {s : State} {c : DefrostCause} (hdue : s.plant.defrost = .due c)
    (hrelay : s.plant.relay = false) (hgrants : GrantsDefrost s) (hcoil : s.plant.coilEnd = false) :
    Leads 6 [.defrostProceeds] s
      { s.withGrant .defrost .plant with plant := { s.plant with defrost := .heating c s.now } } := by
  refine .act (State.proceedDefrost_due hdue hrelay) ?_
  refine Leads.place (n := 2) (s := { s with plant := { s.plant with defrost := .claiming c } }) hgrants.waits hgrants.none
    hgrants.fits (.act (new := [.defrostTest]) rfl (.defrostTest_none ?_)) hgrants.waits.1
  exact hcoil

/-- The defrost's claim waits (R109). -/
theorem Leads.defrostProceeds_waits {s : State} {c : DefrostCause} (hdue : s.plant.defrost = .due c)
    (hrelay : s.plant.relay = false) (hwaits : NothingWaits s) (hnone : ∀ g ∈ s.load.granted, g.kind ≠ .defrost)
    (hfull : s.load.table.budget < s.load.drawn + s.load.table.defrost) :
    Leads 3 [.defrostProceeds] s
      { s.withClaim .defrost .plant with plant := { s.plant with defrost := .claiming c } } :=
  .act (State.proceedDefrost_due hdue hrelay)
    (.place_waits (s := { s with plant := { s.plant with defrost := .claiming c } }) hwaits hnone hfull (.inl hnone))

/-! ### The defrost becomes DUE (R108) -/

/-- DUE with its notice. -/
def State.defrostDue (s : State) (c : DefrostCause) : State :=
  State.raise { s with plant := { s.plant with defrost := .due c } } .defrost none [1, c.code]

theorem State.makeDue_eq {s : State} (c : DefrostCause) (h : s.plant.defrost = .idle) :
    s.makeDue c =
      match s.plant.compressor with
      | .startWait =>
        ((s.defrostDue c).setCompressor .offReady, [.withdraw .compressorStart .plant, .defrostProceeds])
      | .offMin | .offReady | .protecting => (s.defrostDue c, [.defrostProceeds])
      | .running _ => (s.defrostDue c, [.stopTest])
      | .starting _ => (s.defrostDue c, []) := by
  rw [State.makeDue, h]
  rfl

/-- A compressor at rest lets the defrost proceed. -/
theorem Leads.defrostDue_rest {n : Nat} {s t : State} {c : DefrostCause} (hidle : s.plant.defrost = .idle)
    (hrest : s.plant.compressor = .offMin ∨ s.plant.compressor = .offReady ∨ s.plant.compressor = .protecting)
    (h : Leads n [.defrostProceeds] (s.defrostDue c) t) : Leads (n + 1) [.defrostDue c] s t := by
  refine .act ?_ h
  change s.makeDue c = _
  rw [State.makeDue_eq c hidle]
  obtain h | h | h := hrest <;> rw [h]

/-- A compressor that is STARTING, or RUNNING inside Min Run, leaves the defrost DUE. -/
theorem Leads.defrostDue_stays {s : State} {c : DefrostCause} {since : Nat} (hidle : s.plant.defrost = .idle)
    (hstays : s.plant.compressor = .starting since
      ∨ s.plant.compressor = .running since ∧ s.now - since < s.plant.cooling.minRun * 1000) :
    Leads 2 [.defrostDue c] s (s.defrostDue c) := by
  obtain hstarting | ⟨hrunning, hinside⟩ := hstays
  · refine (Leads.done ?_).mono (by decide)
    change s.makeDue c = _
    rw [State.makeDue_eq c hidle, hstarting]
  · have hstop : Leads 1 [.stopTest] (s.defrostDue c) (s.defrostDue c) := by
      refine .stopTest_none fun since' h => Bool.eq_false_iff.2 fun hstops => ?_
      have hrun : (s.defrostDue c).plant.compressor = .running since := hrunning
      obtain ⟨hmin, -⟩ := (PlantUnit.stops_running hrun _).1 hstops
      exact absurd hmin (Nat.not_le.2 hinside)
    refine .act ?_ hstop
    change s.makeDue c = _
    rw [State.makeDue_eq c hidle, hrunning]

/-- A compressor that waits for its claim gives it up. -/
theorem Leads.defrostDue_startWait {n : Nat} {s t : State} {c : DefrostCause} {x : Claim} (hidle : s.plant.defrost = .idle)
    (hwait : s.plant.compressor = .startWait) (hqueue : s.load.queue = [x]) (hkind : x.kind = .compressorStart)
    (howner : x.owner = .plant) (hheld : s.load.held = [])
    (h : Leads n [.defrostProceeds]
      { (s.defrostDue c).setCompressor .offReady with load := { s.load with queue := [] } } t) :
    Leads (n + 3) [.defrostDue c] s t := by
  have hdue : perform (.defrostDue c) s =
      ((s.defrostDue c).setCompressor .offReady, [.withdraw .compressorStart .plant, .defrostProceeds]) := by
    change s.makeDue c = _
    rw [State.makeDue_eq c hidle, hwait]
  have hwithdraw := Leads.withdraw (s := (s.defrostDue c).setCompressor .offReady) hheld hqueue
  rw [hkind, howner] at hwithdraw
  exact (Leads.act hdue (hwithdraw.andThen h)).mono (by omega)

/-- A compressor past Min Run stops for the defrost. -/
theorem Leads.defrostDue_stops {n : Nat} {s t : State} {c : DefrostCause} {since : Nat} (hidle : s.plant.defrost = .idle)
    (hrunning : s.plant.compressor = .running since) (hpast : s.plant.cooling.minRun * 1000 ≤ s.now - since)
    (hwaits : NothingWaits s) (h : Leads n [.defrostProceeds] (s.defrostDue c).runHalted t) :
    Leads (n + 4) [.defrostDue c] s t := by
  have hrun : (s.defrostDue c).plant.compressor = .running since := hrunning
  refine .act (new := [.stopTest]) ?_
    (.stopTest_stops hrun ((PlantUnit.stops_running hrun _).2 ⟨hpast, .inr (.inl rfl)⟩) hwaits h)
  change s.makeDue c = _
  rw [State.makeDue_eq c hidle, hrunning]

/-- The run halted for a defrost that is DUE, and the heater on. -/
theorem Leads.defrostDue_stops_heats {s : State} {c : DefrostCause} {since : Nat} (hidle : s.plant.defrost = .idle)
    (hrunning : s.plant.compressor = .running since) (hpast : s.plant.cooling.minRun * 1000 ≤ s.now - since)
    (hwaits : NothingWaits s) (hnone : ∀ g ∈ s.load.granted, g.kind ≠ .defrost) (hcoil : s.plant.coilEnd = false)
    (hfits : 10 + grantedUnits (s.load.granted.filter fun g => !(g.kind = .compressorRun && g.owner = .plant))
      + s.load.table.defrost ≤ s.load.table.budget) :
    Leads 10 [.defrostDue c] s
      (State.raise
        { s with
          plant :=
            { s.plant with
              compressor := .offMin, offSince := s.now, runMs := min 86400000 (s.plant.runMs + (s.now - since))
              demand := if s.plant.cab.state = .failed then false else s.plant.demand
              defrost := .heating c s.now }
          load :=
            { s.load with
              granted :=
                (s.load.granted.filter fun g => !(g.kind = .compressorRun && g.owner = .plant))
                  ++ [grantNow s .defrost .plant] } }
        .defrost none [1, c.code]) := by
  have hheats := Leads.defrostProceeds_heats (s := (s.defrostDue c).runHalted) (c := c) rfl rfl
    ⟨hwaits, fun g hg => hnone g (List.mem_of_mem_filter hg), hfits⟩ hcoil
  have hdue := Leads.defrostDue_stops hidle hrunning hpast hwaits hheats
  have hhalt := PlantUnit.halt_eq (p := (s.defrostDue c).plant) (.inr hrunning) s.now .offMin
  have hplant : (s.defrostDue c).runHalted.plant = _ := hhalt
  rw [hplant] at hdue
  exact hdue

/-! ### The commands of a beginning -/

theorem exec_defrostNow {n : Nat} {s t : State} {seq : Byte} (p : List Byte) (hidle : s.plant.defrost = .idle)
    (h : Leads n [.defrostDue .request] s.frameTaken t) (hn : n ≤ 4095) :
    exec (.defrostNow seq p) s = .next (t.accept seq [u8 t.plant.defrost.code]).conclude := by
  have hrun := (h.andThen (.done (a := .replyDefrost seq) (t := t.accept seq [u8 t.plant.defrost.code]) rfl)).run_eq
    (Nat.succ_le_succ hn)
  change execDefrostNow seq p s = _
  rw [← hrun]
  exact if_pos hidle

theorem exec_defrostIntervalReached {s : State} {since : Nat} (hidle : s.plant.defrost = .idle)
    (hon : s.plant.compressor = .starting since ∨ s.plant.compressor = .running since) :
    exec .defrostIntervalReached s =
      .next (run (s.reach (since + (s.plant.cooling.defrostInterval * 1000 - s.plant.runMs))) [.defrostDue .interval]) := by
  change execDefrostIntervalReached s = _
  rw [execDefrostIntervalReached, hidle]
  obtain h | h := hon <;> rw [h] <;> rfl

/-- Settles O42, by what the compressor does when the defrost becomes DUE. -/
theorem defrostStarts : Obligations.DefrostStarts := by
  refine ⟨?_, ?_, ?_, ?_, ?_, ?_, ?_⟩
  · intro s seq p hbusy
    change execDefrostNow seq p s = _
    exact if_neg hbusy
  · intro s seq p since hidle hstays
    rw [exec_defrostNow p hidle (.defrostDue_stays (s := s.frameTaken) hidle hstays) (by decide)]
    rfl
  · intro s seq p hidle hwaits hnone hrest fits
    have hrelay : s.plant.relay = false := by
      rw [PlantUnit.relay]
      obtain h | h | h := hrest <;> rw [h]
    constructor
    · intro hfits hcoil
      rw [exec_defrostNow p hidle
        (.defrostDue_rest (s := s.frameTaken) hidle hrest
          (.defrostProceeds_heats rfl hrelay ⟨hwaits, hnone, hfits⟩ hcoil)) (by decide)]
      rfl
    · intro hfull
      rw [exec_defrostNow p hidle
        (.defrostDue_rest (s := s.frameTaken) hidle hrest
          (.defrostProceeds_waits rfl hrelay hwaits hnone (Nat.not_le.1 hfull))) (by decide)]
      rfl
  · intro s seq p c hidle hwait hqueue hkind howner hheld hnone hfits hcoil
    rw [exec_defrostNow p hidle
      (.defrostDue_startWait (s := s.frameTaken) hidle hwait hqueue hkind howner hheld
        (.defrostProceeds_heats rfl rfl ⟨⟨rfl, hheld⟩, hnone, hfits⟩ hcoil)) (by decide)]
    rfl
  · intro s since hrunning hidle hwaits hnone hcoil p left stopped hfits
    constructor
    · intro seq b hpast
      rw [exec_defrostNow b hidle
        (.defrostDue_stops_heats (s := s.frameTaken) hidle hrunning hpast hwaits hnone hcoil hfits) (by decide)]
      rfl
    · intro now hnow hpast
      subst hnow
      rw [exec_defrostIntervalReached hidle (.inr hrunning),
        (Leads.defrostDue_stops_heats (s := s.reach (since + (s.plant.cooling.defrostInterval * 1000 - s.plant.runMs)))
          hidle hrunning hpast hwaits hnone hcoil hfits).run_eq (by decide)]
      rfl
  · intro s since now hidle hnow hstays
    subst hnow
    have hon : s.plant.compressor = .starting since ∨ s.plant.compressor = .running since := hstays.imp_right And.left
    rw [exec_defrostIntervalReached hidle hon,
      (Leads.defrostDue_stays (s := s.reach (since + (s.plant.cooling.defrostInterval * 1000 - s.plant.runMs))) hidle
        hstays).run_eq (by decide)]
    rfl
  · intro s hno
    change execDefrostIntervalReached s = _
    rw [execDefrostIntervalReached]
    split
    · next since hidle hstarting =>
      obtain h | h := hno
      · exact absurd hidle h
      · simp [PlantUnit.relay, hstarting] at h
    · next since hidle hrunning =>
      obtain h | h := hno
      · exact absurd hidle h
      · simp [PlantUnit.relay, hrunning] at h
    · rfl

end Sys2Proof.Machine

/-! ## The sensors' records (06, sections 6.1 and 6.2) -/

namespace Sys2Proof.Machine

/-! ### One sample (R96, R97) -/

/-- A sensor after a good sample. -/
def Sensor.validAt (t : Int) : Sensor := { state := .valid, temp := some t, badRun := 0, lastFault := none }

theorem sampleFault_of_good {c : Nat} (h : 16 ≤ c ∧ c ≤ 4079) : sampleFault c = none := by
  rw [sampleFault, if_neg (Nat.not_lt.2 h.1), if_neg (Nat.not_lt.2 h.2)]

theorem bad_of_not_good {c : Nat} (h : ¬ (16 ≤ c ∧ c ≤ 4079)) : c < 16 ∨ 4079 < c := by omega

theorem Sensor.sampled_good (x : Sensor) (curve : List CurvePoint) {c : Nat} (h : 16 ≤ c ∧ c ≤ 4079) :
    x.sampled curve c = .validAt (convert curve c) := by
  rw [Sensor.sampled, sampleFault_of_good h]
  rfl

theorem Sensor.sampled_bad (x : Sensor) (curve : List CurvePoint) {c : Nat} (h : c < 16 ∨ 4079 < c) :
    x.sampled curve c =
      { state := if x.state = .failed ∨ min 60 (x.badRun + 1) = 60 then .failed else .holding
        temp := some (x.temp.getD (pointZero curve))
        badRun := min 60 (x.badRun + 1)
        lastFault := some (if c < 16 then .short else .opened) } := by
  rw [Sensor.sampled, sampleFault_of_bad h]
  rfl

theorem Sensor.sampled_after (x : Sensor) (curve : List CurvePoint) (c : Nat) : SensorAfter x curve c (x.sampled curve c) := by
  refine ⟨fun h => x.sampled_good curve h, fun h => ?_⟩
  rw [x.sampled_bad curve h]
  exact ⟨rfl, rfl, rfl, rfl⟩

/-- The sixtieth bad sample in a row. -/
theorem Sensor.sampled_sixtieth (x : Sensor) (curve : List CurvePoint) {c : Nat} (h : ¬ (16 ≤ c ∧ c ≤ 4079))
    (hrun : 59 ≤ x.badRun) :
    x.sampled curve c =
      { state := .failed, temp := some (x.temp.getD (pointZero curve)), badRun := 60
        lastFault := some (if c < 16 then .short else .opened) } := by
  have hsixty : min 60 (x.badRun + 1) = 60 := by omega
  rw [x.sampled_bad curve (bad_of_not_good h), hsixty, if_pos (.inr rfl)]

theorem Sensor.sampled_failed (x : Sensor) (curve : List CurvePoint) {c : Nat} (h : ¬ (16 ≤ c ∧ c ≤ 4079))
    (hfailed : x.state = .failed) : (x.sampled curve c).state = .failed := by
  rw [x.sampled_bad curve (bad_of_not_good h), if_pos (.inl hfailed)]

/-! ### Its notice -/

theorem sensorNotice_none {x y : Sensor} (h : x.state = .failed ∧ y.state ≠ .valid ∨ x.state ≠ .failed ∧ y.state ≠ .failed) :
    sensorNotice x y = none := by
  rw [sensorNotice]
  obtain ⟨hx, hy⟩ | ⟨hx, hy⟩ := h <;> simp [hx, hy]

theorem sensorNotice_recovers {x : Sensor} (t : Int) (h : x.state = .failed) :
    sensorNotice x (.validAt t) = some [0, signed16 t] := by
  rw [sensorNotice, if_pos ⟨h, rfl⟩]
  rfl

theorem sensorNotice_fails {x y : Sensor} {t : Int} {f : SensorFault} (h : x.state ≠ .failed) (hy : y.state = .failed)
    (ht : y.temp = some t) (hf : y.lastFault = some f) : sensorNotice x y = some [1, f.code, signed16 t] := by
  rw [sensorNotice, if_neg (fun h' => h h'.1), if_pos ⟨h, hy⟩, ht, hf]
  rfl

/-! ### Between two samples the records stay -/

/-- The sensors' records and the moment of their next samples are as they were, and so is the clock. -/
structure SensorsStay (s t : State) : Prop where
  now : t.now = s.now
  due : t.plant.sampleAt = s.plant.sampleAt
  cab : t.plant.cab = s.plant.cab
  coil : t.plant.coil = s.plant.coil
  cond : t.plant.cond = s.plant.cond

theorem SensorsStay.trans {s t u : State} (h : SensorsStay s t) (h' : SensorsStay t u) : SensorsStay s u :=
  ⟨h'.now.trans h.now, h'.due.trans h.due, h'.cab.trans h.cab, h'.coil.trans h.coil, h'.cond.trans h.cond⟩

theorem SensorsStay.of_plant {s t : State} (hnow : t.now = s.now) (hplant : t.plant = s.plant) : SensorsStay s t := by
  constructor
  · exact hnow
  all_goals rw [hplant]

/-- An operation whose touched parts are named by an equation. -/
theorem SensorsStay.of_touched {s t u : State} (h : t = u) (hnow : u.now = s.now) (hplant : u.plant = s.plant) :
    SensorsStay s t :=
  .of_plant (h ▸ hnow) (h ▸ hplant)

section Plant

variable (s : State)

theorem SensorsStay.testDemand : SensorsStay s s.testDemand.1 := by
  unfold State.testDemand State.setCompressor
  dsimp only
  repeat' split
  all_goals exact ⟨rfl, rfl, rfl, rfl, rfl⟩

theorem SensorsStay.testStop : SensorsStay s s.testStop.1 := by
  unfold State.testStop PlantUnit.halt
  repeat' split
  all_goals exact ⟨rfl, rfl, rfl, rfl, rfl⟩

theorem SensorsStay.testCondenser : SensorsStay s s.testCondenser.1 := by
  unfold State.testCondenser State.setCompressor PlantUnit.halt
  dsimp only
  repeat' split
  all_goals exact ⟨rfl, rfl, rfl, rfl, rfl⟩

theorem SensorsStay.testProtect : SensorsStay s s.testProtect.1 := by
  unfold State.testProtect
  split <;> exact ⟨rfl, rfl, rfl, rfl, rfl⟩

theorem SensorsStay.startGranted : SensorsStay s s.startGranted.1 := by
  unfold State.startGranted
  split <;> exact ⟨rfl, rfl, rfl, rfl, rfl⟩

theorem SensorsStay.proceedDefrost : SensorsStay s s.proceedDefrost.1 := by
  unfold State.proceedDefrost
  repeat' split
  all_goals exact ⟨rfl, rfl, rfl, rfl, rfl⟩

theorem SensorsStay.makeDue (c : DefrostCause) : SensorsStay s (s.makeDue c).1 := by
  unfold State.makeDue
  dsimp only
  repeat' split
  all_goals exact ⟨rfl, rfl, rfl, rfl, rfl⟩

theorem SensorsStay.defrostGranted : SensorsStay s s.defrostGranted.1 := by
  unfold State.defrostGranted
  split <;> exact ⟨rfl, rfl, rfl, rfl, rfl⟩

theorem SensorsStay.endHeating (n : Nat) : SensorsStay s (s.endHeating n).1 := by
  unfold State.endHeating
  split <;> exact ⟨rfl, rfl, rfl, rfl, rfl⟩

theorem SensorsStay.testDefrost : SensorsStay s s.testDefrost.1 := by
  unfold State.testDefrost
  split
  · exact .endHeating s 1
  · exact ⟨rfl, rfl, rfl, rfl, rfl⟩

theorem SensorsStay.endDrip : SensorsStay s s.endDrip.1 := by
  unfold State.endDrip
  split <;> exact ⟨rfl, rfl, rfl, rfl, rfl⟩

theorem SensorsStay.activateLockout (n : Nat) : SensorsStay s (s.activateLockout n).1 := by
  unfold State.activateLockout
  split <;> exact ⟨rfl, rfl, rfl, rfl, rfl⟩

theorem SensorsStay.testExposure : SensorsStay s s.testExposure.1 := by
  unfold State.testExposure
  split
  · exact .activateLockout s 1
  · exact ⟨rfl, rfl, rfl, rfl, rfl⟩

theorem SensorsStay.shrinkStart : SensorsStay s s.shrinkStart.1 :=
  .of_touched s.shrinkStart_touches rfl rfl

theorem SensorsStay.endIntervals (n : Nat) : SensorsStay s (s.endIntervals n).1 := by
  unfold State.endIntervals
  dsimp only
  split
  · split
    · next since _ _ =>
      exact .trans (t := s.setCompressor (.running since)) ⟨rfl, rfl, rfl, rfl, rfl⟩ (.shrinkStart _)
    · exact ⟨rfl, rfl, rfl, rfl, rfl⟩
  · have hready : SensorsStay s (s.setCompressor .offReady) := ⟨rfl, rfl, rfl, rfl, rfl⟩
    split <;> split
    · exact hready.trans (.endHeating _ 2)
    · exact hready
    · exact .endHeating s 2
    · exact ⟨rfl, rfl, rfl, rfl, rfl⟩

theorem SensorsStay.decideHead : SensorsStay s s.decideHead.1 := by
  unfold State.decideHead
  repeat' split
  all_goals first | exact ⟨rfl, rfl, rfl, rfl, rfl⟩ | skip
  dsimp only [State.modPlant, State.modLoad]
  unfold PlantUnit.suspend
  split <;> exact ⟨rfl, rfl, rfl, rfl, rfl⟩

theorem SensorsStay.commitPolicy (es : List (Nat × List Byte)) :
    SensorsStay s (es.foldl (fun s e => s.modCredit fun c => { c with policy := (policyOf e.2).getD c.policy }) s) := by
  induction es generalizing s with
  | nil => exact ⟨rfl, rfl, rfl, rfl, rfl⟩
  | cons e es ih => exact .trans (t := s.modCredit _) ⟨rfl, rfl, rfl, rfl, rfl⟩ (ih _)

theorem SensorsStay.commitCooling (es : List (Nat × List Byte)) :
    SensorsStay s (es.foldl (fun s e => s.modPlant fun p => { p with cooling := coolingBytes e.2 }) s) := by
  induction es generalizing s with
  | nil => exact ⟨rfl, rfl, rfl, rfl, rfl⟩
  | cons e es ih =>
    exact .trans (t := s.modPlant fun p => { p with cooling := coolingBytes e.2 }) ⟨rfl, rfl, rfl, rfl, rfl⟩ (ih _)

theorem SensorsStay.commitLoad (es : List (Nat × List Byte)) :
    SensorsStay s (es.foldl (fun s e => s.modLoad fun l => l.renew (loadBytes e.2)) s) := by
  induction es generalizing s with
  | nil => exact ⟨rfl, rfl, rfl, rfl, rfl⟩
  | cons e es ih => exact .trans (t := s.modLoad _) ⟨rfl, rfl, rfl, rfl, rfl⟩ (ih _)

theorem SensorsStay.triggerAssurance : SensorsStay s s.triggerAssurance :=
  .of_touched s.triggerAssurance_touches rfl rfl

theorem SensorsStay.applyChannels (es : List (Nat × List Byte)) : SensorsStay s (s.applyChannels es).1 := by
  unfold State.applyChannels State.rehomeSettlements
  dsimp only
  split <;> exact ⟨rfl, rfl, rfl, rfl, rfl⟩

theorem SensorsStay.applyLoad (k : TableKind) (es : List (Nat × List Byte)) : SensorsStay s (s.applyLoad k es).1 := by
  cases k with
  | coin => exact .trans (t := s.modCoin _) ⟨rfl, rfl, rfl, rfl, rfl⟩ (.triggerAssurance _)
  | tube => exact .trans (t := s.modTubes _) ⟨rfl, rfl, rfl, rfl, rfl⟩ (.triggerAssurance _)
  | note => exact ⟨rfl, rfl, rfl, rfl, rfl⟩
  | policy => exact .trans (.commitPolicy s es) (.triggerAssurance _)
  | selection => exact ⟨rfl, rfl, rfl, rfl, rfl⟩
  | cooling => exact .commitCooling s es
  | curve => exact ⟨rfl, rfl, rfl, rfl, rfl⟩
  | load => exact .commitLoad s es
  | channel => exact .applyChannels s es

theorem SensorsStay.applyPendingLoad : SensorsStay s s.applyPendingLoad.1 := by
  unfold State.applyPendingLoad
  split
  · exact .applyLoad s _ _
  all_goals exact ⟨rfl, rfl, rfl, rfl, rfl⟩

theorem SensorsStay.dropVendClaims (ends : List (Nat × VendResult)) : SensorsStay s (s.dropVendClaims ends).1 := by
  induction ends generalizing s with
  | nil => exact ⟨rfl, rfl, rfl, rfl, rfl⟩
  | cons e es ih => exact .trans (.of_touched (s.dropVendClaim_touches e.1) rfl rfl) (ih _)

theorem SensorsStay.endTogether (ends : List (Nat × VendResult)) (d : Bool) : SensorsStay s (s.endTogether ends d).1 :=
  .trans (t := s.modSales _) ⟨rfl, rfl, rfl, rfl, rfl⟩ (.dropVendClaims _ ends)

theorem SensorsStay.handGrant (k : LoadKind) (o : Claimant) : SensorsStay s (s.handGrant k o).1 := by
  cases k with
  | payout => exact ⟨rfl, rfl, rfl, rfl, rfl⟩
  | motor g =>
    cases o with
    | test => exact .of_touched (s.testGranted_touches g) rfl rfl
    | vend | change | plant => exact .of_touched (s.vendGranted_touches g) rfl rfl
  | compressorStart => exact .startGranted s
  | defrost => exact .defrostGranted s
  | compressorRun => exact ⟨rfl, rfl, rfl, rfl, rfl⟩

end Plant

/-- No act changes a sensor's record. -/
theorem SensorsStay.perform (a : Act) (s : State) : SensorsStay s (perform a s).1 := by
  cases a with
  | notice k u vs => exact ⟨rfl, rfl, rfl, rfl, rfl⟩
  | decide => exact .decideHead s
  | place k o => exact .of_touched (s.placeClaim_touches k o) rfl rfl
  | withdraw k o => exact .of_touched (s.withdrawClaim_touches k o) rfl rfl
  | release k o => exact .of_touched (s.releaseClaim_touches k o) rfl rfl
  | granted k o => exact .handGrant s k o
  | dispatch => exact .of_touched s.dispatchOne_touches rfl rfl
  | endVends ends d => exact .endTogether s ends d
  | endVend id r d => exact .of_touched (s.recordEnd_touches id r d) rfl rfl
  | leaveList id r d => exact .of_touched (s.takeFromList_touches id r d) rfl rfl
  | reprice => exact ⟨rfl, rfl, rfl, rfl, rfl⟩
  | jamPosition p => exact ⟨rfl, rfl, rfl, rfl, rfl⟩
  | turnEnded g o => exact .of_touched (s.reportTurn_touches g o) rfl rfl
  | turnFaulted g o => exact .of_touched (s.reportFault_touches g o) rfl rfl
  | vendTurned g => exact .of_touched (s.turnDone_touches g) rfl rfl
  | vendJammed g => exact .of_touched (s.turnJammed_touches g) rfl rfl
  | startHeld g => exact .of_touched (s.startHeldRequest_touches g) rfl rfl
  | vendReported r n f => exact .of_touched (s.takeVendEnd_touches r n f) rfl rfl
  | closeRequest => exact .of_touched s.requestClose_touches rfl rfl
  | closeRest => exact .of_touched s.goOnClosing_touches rfl rfl
  | completeClose => exact .of_touched s.finishClose_touches rfl rfl
  | handOver n => exact .of_touched (s.takeHandOver_touches n) rfl rfl
  | closeCash n => exact .of_touched (s.endCash_touches n) rfl rfl
  | applyPending => exact .applyPendingLoad s
  | applied k a b c => exact ⟨rfl, rfl, rfl, rfl, rfl⟩
  | startRun n => exact .of_touched (s.beginRun_touches n) rfl rfl
  | nextCoin => exact .of_touched s.payNext_touches rfl rfl
  | runEnded => exact .of_touched s.closeRun_touches rfl rfl
  | dispenseEnded => exact .of_touched s.closeDispense_touches rfl rfl
  | demandTest => exact .testDemand s
  | stopTest => exact .testStop s
  | defrostTest => exact .testDefrost s
  | condenserTest => exact .testCondenser s
  | protectTest => exact .testProtect s
  | defrostProceeds => exact .proceedDefrost s
  | defrostDue c => exact .makeDue s c
  | dripEntered r n => exact ⟨rfl, rfl, rfl, rfl, rfl⟩
  | dripDone => exact .endDrip s
  | exposureTest => exact .testExposure s
  | lockOut n => exact .activateLockout s n
  | intervalsEnd n => exact .endIntervals s n
  | becameReady n => exact .of_touched (s.channelReady_touches n) rfl rfl
  | moveSettlement n => exact .of_touched (s.moveHead_touches n) rfl rfl
  | look => exact .of_touched s.lookForWork_touches rfl rfl
  | handOn n k p => exact .of_touched (s.takeReport_touches n k p) rfl rfl
  | guardLine => exact ⟨rfl, rfl, rfl, rfl, rfl⟩
  | replySession q => exact ⟨rfl, rfl, rfl, rfl, rfl⟩
  | replyDefrost q => exact ⟨rfl, rfl, rfl, rfl, rfl⟩

theorem SensorsStay.runDoing (d : Doing) : SensorsStay d.1 (runDoing d) :=
  runDoing_keeps (P := SensorsStay d.1) (fun a s h => h.trans (.perform a s))
    (fun s h => h.trans (.of_plant s.conclude_now s.conclude_plant)) d ⟨rfl, rfl, rfl, rfl, rfl⟩

/-! ### SENSOR_SAMPLE -/

/-- The three samples of one second stored (R96). -/
def State.sampledBy (s : State) (x y z : Sensor) : State :=
  { s with
    now := max s.now s.plant.sampleAt
    plant := { s.plant with cab := x, coil := y, cond := z, sampleAt := s.plant.sampleAt + 1000 } }

theorem State.raiseSensor_of {s : State} {k : Nat} {x y : Sensor} {vs : List Nat} (h : sensorNotice x y = some vs) :
    s.raiseSensor k x y = s.raise .sensorFailed (some k) vs := by
  rw [State.raiseSensor, h]

theorem State.raiseSensor_none {s : State} {k : Nat} {x y : Sensor} (h : sensorNotice x y = none) :
    s.raiseSensor k x y = s := by
  rw [State.raiseSensor, h]

theorem SensorsStay.raiseSensor (s : State) (k : Nat) (x y : Sensor) : SensorsStay s (s.raiseSensor k x y) := by
  unfold State.raiseSensor
  split <;> exact ⟨rfl, rfl, rfl, rfl, rfl⟩

/-- What a second's samples raise is what each record's change raises, in the order of the sensors. -/
def State.reportSensors (s : State) (p : PlantUnit) : State :=
  ((s.raiseSensor 0 p.cab s.plant.cab).raiseSensor 1 p.coil s.plant.coil).raiseSensor 2 p.cond s.plant.cond

theorem SensorsStay.reportSensors (s : State) (p : PlantUnit) : SensorsStay s (s.reportSensors p) :=
  .trans (.raiseSensor s 0 _ _) (.trans (.raiseSensor _ 1 _ _) (.raiseSensor _ 2 _ _))

theorem PlantUnit.sampled_fields (p : PlantUnit) (now cab coil cond : Nat) :
    (p.sampled now cab coil cond).sampleAt = p.sampleAt + 1000
      ∧ (p.sampled now cab coil cond).cab = p.cab.sampled (p.curve.take 8) cab
      ∧ (p.sampled now cab coil cond).coil = p.coil.sampled ((p.curve.drop 8).take 8) coil
      ∧ (p.sampled now cab coil cond).cond = p.cond.sampled ((p.curve.drop 16).take 8) cond := by
  unfold PlantUnit.sampled PlantUnit.fallbackBegins
  dsimp only
  split <;> exact ⟨rfl, rfl, rfl, rfl⟩

/-- The samples of a second are stored by their records, whatever the tests bring about (R96, R97). -/
theorem exec_sensorSample_records (s : State) (cab coil cond : Nat) :
    ∃ t, exec (.sensorSample cab coil cond) s = .next t
      ∧ t.now = max s.now s.plant.sampleAt ∧ t.plant.sampleAt = s.plant.sampleAt + 1000
      ∧ SensorAfter s.plant.cab (s.plant.curve.take 8) cab t.plant.cab
      ∧ SensorAfter s.plant.coil ((s.plant.curve.drop 8).take 8) coil t.plant.coil
      ∧ SensorAfter s.plant.cond ((s.plant.curve.drop 16).take 8) cond t.plant.cond := by
  obtain ⟨u, hu⟩ : ∃ u : State, u = (s.reach s.plant.sampleAt).modPlant fun p => p.sampled (s.reach s.plant.sampleAt).now cab coil cond :=
    ⟨_, rfl⟩
  have hstay : SensorsStay u (Sys2Proof.Machine.runDoing ((s.reach s.plant.sampleAt).takeSamples cab coil cond)) := by
    refine .trans (.reportSensors u s.plant) ?_
    rw [hu]
    exact .runDoing ((s.reach s.plant.sampleAt).takeSamples cab coil cond)
  obtain ⟨hdue, hcab, hcoil, hcond⟩ := s.plant.sampled_fields (max s.now s.plant.sampleAt) cab coil cond
  refine ⟨_, rfl, ?_, ?_, ?_, ?_, ?_⟩
  · rw [hstay.now, hu]
    rfl
  · rw [hstay.due, hu]
    exact hdue
  · rw [hstay.cab, hu]
    exact hcab ▸ Sensor.sampled_after _ _ _
  · rw [hstay.coil, hu]
    exact hcoil ▸ Sensor.sampled_after _ _ _
  · rw [hstay.cond, hu]
    exact hcond ▸ Sensor.sampled_after _ _ _

end Sys2Proof.Machine

/-! ## The tests of a second's samples (06, sections 6.1, 6.4 and 6.6) -/

namespace Sys2Proof.Machine

/-! ### The samples and their tests -/

theorem State.reportSensors_plant (s : State) (p : PlantUnit) : (s.reportSensors p).plant = s.plant := by
  have hraise : ∀ (s : State) (k : Nat) (x y : Sensor), (s.raiseSensor k x y).plant = s.plant := by
    intro s k x y
    rw [State.raiseSensor]
    split <;> rfl
  rw [State.reportSensors, hraise, hraise, hraise]

theorem sensorNotice_good {x : Sensor} (t : Int) (h : x.state ≠ .failed) : sensorNotice x (.validAt t) = none :=
  sensorNotice_none (.inr ⟨h, nofun⟩)

theorem sensorNotice_sixtieth {x : Sensor} (t : Int) (c : Nat) (h : x.state ≠ .failed) :
    sensorNotice x
        { state := .failed, temp := some t, badRun := 60, lastFault := some (if c < 16 then .short else .opened) } =
      some [1, if c < 16 then 1 else 2, signed16 t] := by
  rw [sensorNotice_fails h rfl rfl rfl, apply_ite SensorFault.code]
  rfl

section Reports

variable {s : State} {p : PlantUnit} {vs : List Nat}

theorem State.reportSensors_none (h0 : sensorNotice p.cab s.plant.cab = none) (h1 : sensorNotice p.coil s.plant.coil = none)
    (h2 : sensorNotice p.cond s.plant.cond = none) : s.reportSensors p = s := by
  rw [State.reportSensors, State.raiseSensor_none h0, State.raiseSensor_none h1, State.raiseSensor_none h2]

theorem State.reportSensors_cab (h0 : sensorNotice p.cab s.plant.cab = some vs)
    (h1 : sensorNotice p.coil s.plant.coil = none) (h2 : sensorNotice p.cond s.plant.cond = none) :
    s.reportSensors p = s.raise .sensorFailed (some 0) vs := by
  rw [State.reportSensors, State.raiseSensor_of h0, State.raiseSensor_none h1, State.raiseSensor_none h2]

theorem State.reportSensors_coil (h0 : sensorNotice p.cab s.plant.cab = none)
    (h1 : sensorNotice p.coil s.plant.coil = some vs) (h2 : sensorNotice p.cond s.plant.cond = none) :
    s.reportSensors p = s.raise .sensorFailed (some 1) vs := by
  rw [State.reportSensors, State.raiseSensor_none h0, State.raiseSensor_of h1, State.raiseSensor_none h2]

theorem State.reportSensors_cond (h0 : sensorNotice p.cab s.plant.cab = none)
    (h1 : sensorNotice p.coil s.plant.coil = none) (h2 : sensorNotice p.cond s.plant.cond = some vs) :
    s.reportSensors p = s.raise .sensorFailed (some 2) vs := by
  rw [State.reportSensors, State.raiseSensor_none h0, State.raiseSensor_none h1, State.raiseSensor_of h2]

end Reports

/-- A second's samples whose CAB does not become FAILED. -/
theorem exec_sensorSample_of {s : State} {cab coil cond : Nat} {x y z : Sensor}
    (hx : s.plant.cab.sampled (s.plant.curve.take 8) cab = x)
    (hy : s.plant.coil.sampled ((s.plant.curve.drop 8).take 8) coil = y)
    (hz : s.plant.cond.sampled ((s.plant.curve.drop 16).take 8) cond = z) (hkeeps : s.plant.cab.state = .failed ∨ x.state ≠ .failed) :
    exec (.sensorSample cab coil cond) s =
      .next (run ((s.sampledBy x y z).reportSensors s.plant) (sampleActs false)) := by
  subst hx hy hz
  have hnot : ¬ (s.plant.cab.state ≠ .failed ∧ (s.plant.cab.sampled (s.plant.curve.take 8) cab).state = .failed) := by
    rintro ⟨hbefore, hafter⟩
    exact hkeeps.elim hbefore fun h => h hafter
  have hsampled : s.plant.sampled (max s.now s.plant.sampleAt) cab coil cond = (s.sampledBy _ _ _).plant := if_neg hnot
  have hacts : sampleActs (decide (s.plant.cab.state ≠ .failed ∧ (s.plant.cab.sampled (s.plant.curve.take 8) cab).state = .failed))
      = sampleActs false := congrArg sampleActs (decide_eq_false hnot)
  have htake : (s.reach s.plant.sampleAt).takeSamples cab coil cond =
      (State.reportSensors { s.reach s.plant.sampleAt with plant := s.plant.sampled (max s.now s.plant.sampleAt) cab coil cond }
        s.plant,
        sampleActs (decide (s.plant.cab.state ≠ .failed ∧
          (State.reportSensors { s.reach s.plant.sampleAt with plant := s.plant.sampled (max s.now s.plant.sampleAt) cab coil cond }
            s.plant).plant.cab.state = .failed))) := rfl
  change Host.Outcome.next (runDoing ((s.reach s.plant.sampleAt).takeSamples cab coil cond)) = _
  rw [htake, State.reportSensors_plant, hsampled]
  exact congrArg (fun acts => Host.Outcome.next (run _ acts)) hacts

/-- A second's samples whose CAB becomes FAILED: fallback duty begins, and the lockout comes first (R107, R115). -/
theorem exec_sensorSample_cabFails {s : State} {cab coil cond : Nat} {x y z : Sensor}
    (hx : s.plant.cab.sampled (s.plant.curve.take 8) cab = x)
    (hy : s.plant.coil.sampled ((s.plant.curve.drop 8).take 8) coil = y)
    (hz : s.plant.cond.sampled ((s.plant.curve.drop 16).take 8) cond = z) (hbefore : s.plant.cab.state ≠ .failed)
    (hafter : x.state = .failed) :
    exec (.sensorSample cab coil cond) s =
      .next
        (run
          (State.reportSensors
            { s.sampledBy x y z with plant := (s.sampledBy x y z).plant.fallbackBegins (max s.now s.plant.sampleAt) } s.plant)
          (sampleActs true)) := by
  subst hx hy hz
  have hboth : s.plant.cab.state ≠ .failed ∧ (s.plant.cab.sampled (s.plant.curve.take 8) cab).state = .failed := ⟨hbefore, hafter⟩
  have hsampled : s.plant.sampled (max s.now s.plant.sampleAt) cab coil cond =
      (s.sampledBy _ _ _).plant.fallbackBegins (max s.now s.plant.sampleAt) := if_pos hboth
  have hacts : sampleActs (decide (s.plant.cab.state ≠ .failed ∧ (s.plant.cab.sampled (s.plant.curve.take 8) cab).state = .failed))
      = sampleActs true := congrArg sampleActs (decide_eq_true hboth)
  have htake : (s.reach s.plant.sampleAt).takeSamples cab coil cond =
      (State.reportSensors { s.reach s.plant.sampleAt with plant := s.plant.sampled (max s.now s.plant.sampleAt) cab coil cond }
        s.plant,
        sampleActs (decide (s.plant.cab.state ≠ .failed ∧
          (State.reportSensors { s.reach s.plant.sampleAt with plant := s.plant.sampled (max s.now s.plant.sampleAt) cab coil cond }
            s.plant).plant.cab.state = .failed))) := rfl
  change Host.Outcome.next (runDoing ((s.reach s.plant.sampleAt).takeSamples cab coil cond)) = _
  rw [htake, State.reportSensors_plant, hsampled]
  exact congrArg (fun acts => Host.Outcome.next (run _ acts)) hacts

/-- Three good samples of sensors that had not failed raise nothing. -/
theorem exec_sensorSample_good {s : State} {cab coil cond : Nat} (hcab : 16 ≤ cab ∧ cab ≤ 4079) (hcoil : 16 ≤ coil ∧ coil ≤ 4079)
    (hcond : 16 ≤ cond ∧ cond ≤ 4079) (hcab' : s.plant.cab.state ≠ .failed) (hcoil' : s.plant.coil.state ≠ .failed)
    (hcond' : s.plant.cond.state ≠ .failed) :
    exec (.sensorSample cab coil cond) s =
      .next
        (run
          (s.sampledBy (.validAt (convert (s.plant.curve.take 8) cab)) (.validAt (convert ((s.plant.curve.drop 8).take 8) coil))
            (.validAt (convert ((s.plant.curve.drop 16).take 8) cond)))
          (sampleActs false)) := by
  rw [exec_sensorSample_of (Sensor.sampled_good _ _ hcab) (Sensor.sampled_good _ _ hcoil) (Sensor.sampled_good _ _ hcond)
    (.inr nofun)]
  refine congrArg (fun w => Host.Outcome.next (run w (sampleActs false))) (State.reportSensors_none ?_ ?_ ?_)
  · exact sensorNotice_good _ hcab'
  · exact sensorNotice_good _ hcoil'
  · exact sensorNotice_good _ hcond'

/-! ### What the condenser and the coil read -/

theorem PlantUnit.limitApplies_valid {p : PlantUnit} {t : Int} (h : p.cond = .validAt t) :
    p.limitApplies = decide (p.cooling.condCutout < t) := by
  rw [PlantUnit.limitApplies, h]
  rfl

theorem PlantUnit.limitApplies_failed {p : PlantUnit} (h : p.cond.state = .failed) : p.limitApplies = false := by
  rw [PlantUnit.limitApplies, Sensor.reading, if_pos h]

theorem PlantUnit.leavesProtect_of_ne {p : PlantUnit} (h : p.compressor ≠ .protecting) : p.leavesProtect = false := by
  simp [PlantUnit.leavesProtect, h]

theorem PlantUnit.leavesProtect_valid {p : PlantUnit} {t : Int} (h : p.cond = .validAt t) (hp : p.compressor = .protecting) :
    p.leavesProtect = decide (t ≤ p.cooling.condReset) := by
  rw [PlantUnit.leavesProtect, h, hp]
  rfl

theorem Leads.condenserTest_none {s : State} (h : s.plant.limitApplies = false ∨ s.plant.compressor = .protecting) :
    Leads 1 [.condenserTest] s s := by
  refine .done ?_
  change s.testCondenser = _
  rw [State.testCondenser]
  obtain h | h := h
  · rw [if_neg (by simp [h])]
  · rw [h]
    exact ite_self _

theorem Leads.protectTest_none {s : State} (h : s.plant.leavesProtect = false) : Leads 1 [.protectTest] s s := by
  refine .done ?_
  change s.testProtect = _
  rw [State.testProtect, if_neg (by simp [h])]

/-- Without a defrost under way the defrost end test has nothing to end. -/
theorem Leads.defrostTest_idle {s : State} (h : s.plant.defrost = .idle) : Leads 1 [.defrostTest] s s := by
  refine .done ?_
  change s.testDefrost = _
  rw [State.testDefrost, State.endHeating, h]
  exact ite_self _

/-- Demand as a test leaves it. -/
def State.demanding (s : State) (d : Bool) : State := { s with plant := { s.plant with demand := d } }

/-- The tests of a second's samples where nothing is to be started or stopped. -/
theorem Leads.sampleTests_rest {s : State} {d : Bool} (hidle : s.plant.defrost = .idle) (hlimit : s.plant.limitApplies = false)
    (hdemand : s.plant.demandNow s.now = d)
    (hcompressor : s.plant.compressor = .offMin
      ∨ ∃ since, s.plant.compressor = .running since ∧ (s.demanding d).plant.stops s.now = false) :
    Leads 5 (sampleActs false) s (s.demanding d) := by
  have hwith : s.withDemand = s.demanding d := by rw [State.withDemand, hdemand, State.demanding]
  have hnoted : Leads 1 [.demandTest] s (s.demanding d) := by
    rw [← hwith]
    refine .demandTest_noted ?_
    obtain h | ⟨since, h, -⟩ := hcompressor
    · exact .inl h
    · exact .inr (.inr (.inl ⟨since, .inr h⟩))
  have hstop : Leads 1 [.stopTest] (s.demanding d) (s.demanding d) := by
    refine .stopTest_none fun since' hrunning => ?_
    obtain h | ⟨since, -, hstops⟩ := hcompressor
    · exact nomatch (h.symm.trans hrunning)
    · exact hstops
  have hleave : (s.demanding d).plant.leavesProtect = false := by
    refine PlantUnit.leavesProtect_of_ne fun hprotecting => ?_
    obtain h | ⟨since, h, -⟩ := hcompressor <;> exact nomatch (h.symm.trans hprotecting)
  exact hnoted.andThen (hstop.andThen ((Leads.defrostTest_idle (s := s.demanding d) hidle).andThen
    ((Leads.condenserTest_none (s := s.demanding d) (.inl hlimit)).andThen (.protectTest_none hleave))))

/-- A second's samples in a plant at rest: `w` is what they have stored and raised. -/
theorem exec_sensorSample_rest {s w : State} {cab coil cond : Nat} {x y z : Sensor} {d : Bool}
    (hx : s.plant.cab.sampled (s.plant.curve.take 8) cab = x)
    (hy : s.plant.coil.sampled ((s.plant.curve.drop 8).take 8) coil = y)
    (hz : s.plant.cond.sampled ((s.plant.curve.drop 16).take 8) cond = z) (hkeeps : s.plant.cab.state = .failed ∨ x.state ≠ .failed)
    (hreport : (s.sampledBy x y z).reportSensors s.plant = w) (hoff : s.plant.compressor = .offMin)
    (hidle : s.plant.defrost = .idle) (hlimit : (s.sampledBy x y z).plant.limitApplies = false)
    (hdemand : (s.sampledBy x y z).plant.demandNow (max s.now s.plant.sampleAt) = d) :
    exec (.sensorSample cab coil cond) s = .next (w.demanding d).conclude := by
  have hplant : w.plant = (s.sampledBy x y z).plant := by rw [← hreport, State.reportSensors_plant]
  have hnow : w.now = max s.now s.plant.sampleAt := by
    rw [← hreport]
    exact (SensorsStay.reportSensors (s.sampledBy x y z) s.plant).now
  have htests := Leads.sampleTests_rest (s := w) (d := d) (by rw [hplant]; exact hidle) (by rw [hplant]; exact hlimit)
    (by rw [hplant, hnow]; exact hdemand) (.inl (by rw [hplant]; exact hoff))
  rw [exec_sensorSample_of hx hy hz hkeeps, hreport, htests.run_eq (by decide)]

/-- The thermostat at a good CAB sample (R101). -/
theorem State.demandNow_sampledBy (s : State) (t : Int) (y z : Sensor) (now : Nat) :
    (s.sampledBy (.validAt t) y z).plant.demandNow now =
      if s.plant.cooling.setpoint + s.plant.cooling.band ≤ t then true
      else if t ≤ s.plant.cooling.setpoint then false else s.plant.demand :=
  PlantUnit.demandNow_thermostat (p := (s.sampledBy (.validAt t) y z).plant) (t := t) nofun rfl now

/-- Fallback duty decides demand as it begins, and the test that follows finds it so (R107). -/
theorem PlantUnit.demandNow_fallbackBegins {p : PlantUnit} (now : Nat) (h : p.cab.state = .failed) :
    (p.fallbackBegins now).demandNow now =
      if p.resting then decide (p.cooling.fallbackOff * 1000 ≤ now - p.offSince) else true := by
  rw [PlantUnit.demandNow, if_pos (by exact h)]
  change ((if p.resting = true then _ else true) || (p.resting && decide (p.cooling.fallbackOff * 1000 ≤ now - p.offSince))) = _
  cases p.resting <;> simp

/-- The lockout becomes active; `m` is the highest price still on sale (R115, R50). -/
def State.lockedOut (s : State) (cause m : Nat) : State :=
  State.raise { s with change := { s.change with maxPrice := m }, plant := { s.plant with lockout := true } }
    .coldLockout none [1, s.plant.exposure, cause]

theorem perform_lockOut {s : State} (cause : Nat) (h : s.plant.lockout = false) :
    perform (.lockOut cause) s =
      ((s.modPlant fun p => { p with lockout := true }).raise .coldLockout none [1, s.plant.exposure, cause],
        [.reprice, s.holdChilled]) := by
  change s.activateLockout cause = _
  rw [State.activateLockout, if_neg (by simp [h])]
  rfl

/-- The lockout with no vend that it ends. -/
theorem Leads.lockOut_endsNone {s : State} (cause : Nat) (hlockout : s.plant.lockout = false)
    (hnone : ∀ v ∈ s.sales.vends, (v.waits && decide ((s.selection v.position).health = .chilled)) = false) :
    Leads 3 [.lockOut cause] s (s.lockedOut cause (highestPrice s.sales.selections true)) :=
  have hhold := State.endTogether_of_none (s := s.lockedOut cause (highestPrice s.sales.selections true)) hnone .heldCold true
  (Leads.act (perform_lockOut cause hlockout) ((Leads.done (a := .reprice) rfl).andThen hhold) :)

/-- Settles O38, by what the records' change raises and what the tests find. -/
theorem sensorsSampled : Obligations.SensorsSampled := by
  refine ⟨exec_sensorSample_records, ?_⟩
  intro s cab coil cond p good air ice hot valid now demand u fault code failed
  have hwants : ∀ y z, (s.sampledBy (.validAt air) y z).plant.demandNow now = demand :=
    fun y z => s.demandNow_sampledBy air y z now
  have hwithin : ∀ x y, hot ≤ p.cooling.condCutout → (s.sampledBy x y (.validAt hot)).plant.limitApplies = false :=
    fun _ _ h => (PlantUnit.limitApplies_valid rfl).trans (decide_eq_false (not_lt.2 h))
  refine ⟨?_, ?_, ?_, ?_⟩
  · intro hidle hcab hcoil hcab' hcoil' hoff
    constructor
    · intro hcond hfailed hlow
      rw [exec_sensorSample_rest (Sensor.sampled_good _ _ hcab) (Sensor.sampled_good _ _ hcoil) (Sensor.sampled_good _ _ hcond)
        (.inr nofun)
        (State.reportSensors_cond (sensorNotice_good air hcab') (sensorNotice_good ice hcoil') (sensorNotice_recovers hot hfailed))
        hoff hidle (hwithin _ _ hlow) (hwants _ _)]
      rfl
    · intro hbad hcond' hrun held
      rw [exec_sensorSample_rest (Sensor.sampled_good _ _ hcab) (Sensor.sampled_good _ _ hcoil)
        (s.plant.cond.sampled_sixtieth ((p.curve.drop 16).take 8) hbad hrun) (.inr nofun)
        (State.reportSensors_cond (sensorNotice_good air hcab') (sensorNotice_good ice hcoil')
          (sensorNotice_sixtieth held cond hcond'))
        hoff hidle (PlantUnit.limitApplies_failed rfl) (hwants _ _)]
      rfl
  · intro hidle hcab hcoil hcond hfailed hcoil' hcond' hoff hlow
    rw [exec_sensorSample_rest (Sensor.sampled_good _ _ hcab) (Sensor.sampled_good _ _ hcoil) (Sensor.sampled_good _ _ hcond)
      (.inr nofun)
      (State.reportSensors_cab (sensorNotice_recovers air hfailed) (sensorNotice_good ice hcoil') (sensorNotice_good hot hcond'))
      hoff hidle (hwithin _ _ hlow) (hwants _ _)]
    rfl
  · intro hidle hbad hcoil hcond hcab' hrun hcoil' hcond' hlow hlockout hvends d hd held
    have hnone : ∀ v ∈ s.sales.vends, (v.waits && decide ((s.selection v.position).health = .chilled)) = false := by
      rw [hvends]
      exact fun v hv => nomatch hv
    obtain ⟨w, hw⟩ : ∃ w, w =
        State.raise
          { s.sampledBy { state := .failed, temp := some held, badRun := 60, lastFault := some (fault cab) } (valid ice) (valid hot)
            with
            plant :=
              (s.sampledBy { state := .failed, temp := some held, badRun := 60, lastFault := some (fault cab) } (valid ice)
                (valid hot)).plant.fallbackBegins now }
          .sensorFailed (some 0) [1, code cab, signed16 held] := ⟨_, rfl⟩
    have hdemand : w.plant.demandNow w.now = d := by
      rw [hw]
      refine (PlantUnit.demandNow_fallbackBegins now rfl).trans ?_
      obtain ⟨hoff, rfl⟩ | ⟨⟨since, hrunning, -⟩, rfl⟩ := hd
      · exact if_pos (by rw [PlantUnit.resting]; exact hoff ▸ rfl)
      · exact if_neg (by rw [PlantUnit.resting]; exact hrunning ▸ nofun)
    have hcompressor : w.plant.compressor = p.compressor := by rw [hw]; rfl
    have hdefrost : w.plant.defrost = .idle := by rw [hw]; exact hidle
    have hcooling : w.plant.cooling = p.cooling := by rw [hw]; rfl
    have hnow : w.now = now := by rw [hw]; rfl
    have hlock := Leads.lockOut_endsNone (s := w) 2 (by rw [hw]; exact hlockout) (by rw [hw]; exact hnone)
    have htests : Leads 5 (sampleActs false) (w.lockedOut 2 (highestPrice w.sales.selections true))
        ((w.lockedOut 2 (highestPrice w.sales.selections true)).demanding d) := by
      refine Leads.sampleTests_rest hdefrost (by rw [hw]; exact hwithin (valid air) (valid ice) hlow) hdemand ?_
      obtain ⟨hoff, -⟩ | ⟨⟨since, hrunning, hshort⟩, rfl⟩ := hd
      · exact .inl (hcompressor.trans hoff)
      · refine .inr ⟨since, hcompressor.trans hrunning, Bool.eq_false_iff.2 fun hstops => ?_⟩
        obtain ⟨hmin, hwhy⟩ := (PlantUnit.stops_running (p := (State.demanding (w.lockedOut 2 _) true).plant)
          (hcompressor.trans hrunning) w.now).1 hstops
        obtain h | h | ⟨-, hon⟩ := hwhy
        · exact nomatch h
        · exact nomatch (congrArg Defrost.isDue hdefrost).symm.trans h
        · refine hshort.elim (fun h => absurd ?_ (Nat.not_le.2 h)) fun h => absurd ?_ (Nat.not_le.2 h)
          · rw [← hcooling, ← hnow]
            exact hmin
          · rw [← hcooling, ← hnow]
            exact hon
    have hexec : exec (.sensorSample cab coil cond) s = .next (run w (.lockOut 2 :: sampleActs false)) := by
      rw [exec_sensorSample_cabFails (s.plant.cab.sampled_sixtieth (p.curve.take 8) hbad hrun) (Sensor.sampled_good _ _ hcoil)
        (Sensor.sampled_good _ _ hcond) hcab' rfl,
        State.reportSensors_cab (sensorNotice_sixtieth held cab hcab') (sensorNotice_good ice hcoil') (sensorNotice_good hot hcond')]
      exact congrArg (fun w => Host.Outcome.next (run w (.lockOut 2 :: sampleActs false))) hw.symm
    refine ⟨highestPrice s.sales.selections true, highestPrice_spec _ _, ?_⟩
    rw [hexec, (hlock.andThen htests).run_eq (by decide), hw]
    rfl
  · intro hoff hidle hcab hcond hcab' hcond' hlow
    refine ⟨?_, ?_, ?_⟩
    · intro hcoil hcoil'
      rw [exec_sensorSample_rest (Sensor.sampled_good _ _ hcab) (Sensor.sampled_good _ _ hcoil) (Sensor.sampled_good _ _ hcond)
        (.inr nofun)
        (State.reportSensors_none (sensorNotice_good air hcab') (sensorNotice_good ice hcoil') (sensorNotice_good hot hcond'))
        hoff hidle (hwithin _ _ hlow) (hwants _ _)]
      rfl
    · intro hcoil hfailed
      rw [exec_sensorSample_rest (Sensor.sampled_good _ _ hcab) (Sensor.sampled_good _ _ hcoil) (Sensor.sampled_good _ _ hcond)
        (.inr nofun)
        (State.reportSensors_coil (sensorNotice_good air hcab') (sensorNotice_recovers ice hfailed) (sensorNotice_good hot hcond'))
        hoff hidle (hwithin _ _ hlow) (hwants _ _)]
      rfl
    · intro hbad hcoil' hrun held
      rw [exec_sensorSample_rest (Sensor.sampled_good _ _ hcab)
        (s.plant.coil.sampled_sixtieth ((p.curve.drop 8).take 8) hbad hrun) (Sensor.sampled_good _ _ hcond) (.inr nofun)
        (State.reportSensors_coil (sensorNotice_good air hcab') (sensorNotice_sixtieth held coil hcoil')
          (sensorNotice_good hot hcond'))
        hoff hidle (hwithin _ _ hlow) (hwants _ _)]
      rfl

end Sys2Proof.Machine

/-! ## How the compressor stops (06, sections 6.3 and 6.4) -/

namespace Sys2Proof.Machine

/-! ### The condenser limit (R106) -/

/-- PROTECT entered with its notice. -/
def State.protected (s : State) : State :=
  (s.setCompressor .protecting).raise .compressorProtect none [1, s.plant.condValue]

theorem State.testCondenser_eq {s : State} (h : s.plant.limitApplies = true) :
    s.testCondenser =
      match s.plant.compressor with
      | .starting _ =>
        (s.modPlant fun p => p.halt s.now .protecting,
          [.release .compressorStart .plant, .notice .compressorProtect none [1, s.plant.condValue], .defrostProceeds])
      | .running _ =>
        (s.modPlant fun p => p.halt s.now .protecting,
          [.release .compressorRun .plant, .notice .compressorProtect none [1, s.plant.condValue], .defrostProceeds])
      | .startWait =>
        (s.setCompressor .protecting,
          [.withdraw .compressorStart .plant, .notice .compressorProtect none [1, s.plant.condValue]])
      | .offMin | .offReady => (s.setCompressor .protecting, [.notice .compressorProtect none [1, s.plant.condValue]])
      | .protecting => (s, []) :=
  if_pos h

/-- A compressor at rest enters PROTECT. -/
theorem Leads.condenserTest_rest {s : State} (hlimit : s.plant.limitApplies = true)
    (hrest : s.plant.compressor = .offMin ∨ s.plant.compressor = .offReady) : Leads 2 [.condenserTest] s s.protected := by
  refine .act (u := s.setCompressor .protecting) ?_
    (.done (a := .notice .compressorProtect none [1, s.plant.condValue]) rfl)
  change s.testCondenser = _
  rw [State.testCondenser_eq hlimit]
  obtain h | h := hrest <;> rw [h]

/-- A compressor that waits for its claim gives it up for PROTECT. -/
theorem Leads.condenserTest_startWait {s : State} {c : Claim} (hlimit : s.plant.limitApplies = true)
    (hwait : s.plant.compressor = .startWait) (hqueue : s.load.queue = [c]) (hkind : c.kind = .compressorStart)
    (howner : c.owner = .plant) (hheld : s.load.held = []) :
    Leads 4 [.condenserTest] s { s.protected with load := { s.load with queue := [] } } := by
  have hwithdraw := Leads.withdraw (s := s.setCompressor .protecting) hheld hqueue
  rw [hkind, howner] at hwithdraw
  refine Leads.act (n := 3) ?_
    (hwithdraw.andThen (.done (a := .notice .compressorProtect none [1, s.plant.condValue]) rfl))
  change s.testCondenser = _
  rw [State.testCondenser_eq hlimit, hwait]

/-- A compressor whose relay is on stops for PROTECT, even inside Min Run. -/
theorem Leads.condenserTest_halts {s : State} {since : Nat} {k : LoadKind} (hlimit : s.plant.limitApplies = true)
    (hon : s.plant.compressor = .starting since ∧ k = .compressorStart ∨ s.plant.compressor = .running since ∧ k = .compressorRun)
    (hwaits : NothingWaits s) (hdue : s.plant.defrost.isDue = false) :
    Leads 5 [.condenserTest] s
      (State.raise { s with plant := s.plant.halt s.now .protecting, load := s.load.released k .plant } .compressorProtect none
        [1, s.plant.condValue]) := by
  have hhalt : perform .condenserTest s =
      (s.modPlant fun p => p.halt s.now .protecting,
        [.release k .plant, .notice .compressorProtect none [1, s.plant.condValue], .defrostProceeds]) := by
    change s.testCondenser = _
    rw [State.testCondenser_eq hlimit]
    obtain ⟨h, rfl⟩ | ⟨h, rfl⟩ := hon <;> rw [h]
  exact .act hhalt ((Leads.release (s := s.modPlant fun p => p.halt s.now .protecting) hwaits k .plant).andThen
    (.andThen (.done (a := .notice .compressorProtect none [1, s.plant.condValue]) rfl) (.defrostProceeds_none hdue)))

/-- A COND sample brings the compressor out of PROTECT. -/
theorem Leads.protectTest_leaves {s : State} (h : s.plant.leavesProtect = true) :
    Leads 1 [.protectTest] s
      (State.raise
        { s with
          plant :=
            { s.plant with
              compressor := .offMin, offSince := s.now
              demand := if s.plant.cab.state = .failed then false else s.plant.demand } }
        .compressorProtect none [0, s.plant.condValue]) := by
  refine .done ?_
  change s.testProtect = _
  exact if_pos h

/-- The tests of a second's samples without a defrost under way, one by one. -/
theorem Leads.sampleTests {a b c d : Nat} {s u v w t : State} (hdemand : Leads a [.demandTest] s u)
    (hstop : Leads b [.stopTest] u v) (hidle : v.plant.defrost = .idle) (hcondenser : Leads c [.condenserTest] v w)
    (hprotect : Leads d [.protectTest] w t) : Leads (a + (b + (1 + (c + d)))) (sampleActs false) s t :=
  hdemand.andThen (hstop.andThen ((Leads.defrostTest_idle hidle).andThen (hcondenser.andThen hprotect)))

/-- The stop test leaves a compressor that is not RUNNING as it is. -/
theorem Leads.stopTest_notRunning {s : State} (h : ∀ since, s.plant.compressor ≠ .running since) : Leads 1 [.stopTest] s s :=
  .stopTest_none fun since hrunning => absurd hrunning (h since)

/-- The condenser limit at a second's samples: PROTECT from every other state. `r` is the plant as read, `d` its demand. -/
theorem Leads.sampleTests_protects {r : State} {d : Bool} {hot : Int} (hidle : r.plant.defrost = .idle)
    (hcond : r.plant.cond = .validAt hot) (hcab : r.plant.cab.state ≠ .failed) (hreset : r.plant.cooling.condReset < hot)
    (hcutout : r.plant.cooling.condCutout < hot) (hdemand : r.plant.demandNow r.now = d) :
    (r.plant.compressor = .offMin ∨ r.plant.compressor = .offReady →
        Leads 100 (sampleActs false) r (r.demanding d).protected)
      ∧ (∀ c, r.plant.compressor = .startWait → r.load.queue = [c] → c.kind = .compressorStart → c.owner = .plant →
          r.load.held = [] →
          Leads 100 (sampleActs false) r { (r.demanding d).protected with load := { r.load with queue := [] } })
      ∧ ∀ since k, (r.plant.compressor = .starting since ∧ k = .compressorStart
            ∨ r.plant.compressor = .running since ∧ k = .compressorRun) →
          NothingWaits r →
          Leads 100 (sampleActs false) r
            (State.raise
              { r with
                plant :=
                  { r.plant with
                    demand := d, compressor := .protecting, offSince := r.now
                    runMs := min 86400000 (r.plant.runMs + (r.now - since)) }
                load := r.load.released k .plant }
              .compressorProtect none [1, r.plant.condValue]) := by
  have hlimit : r.plant.limitApplies = true := (PlantUnit.limitApplies_valid hcond).trans (decide_eq_true hcutout)
  have hwith : r.withDemand = r.demanding d := by rw [State.withDemand, hdemand, State.demanding]
  have hstays : ∀ q : PlantUnit, q.cond = r.plant.cond → q.cooling = r.plant.cooling → q.compressor = .protecting →
      q.leavesProtect = false := by
    intro q hq hcooling hprotecting
    rw [PlantUnit.leavesProtect_valid (hq.trans hcond) hprotecting, hcooling]
    exact decide_eq_false (not_le.2 hreset)
  refine ⟨?_, ?_, ?_⟩
  · intro hrest
    have hnoted : Leads 1 [.demandTest] r (r.demanding d) := by
      rw [← hwith]
      exact .demandTest_noted (hrest.imp_right fun h => .inr (.inr (.inl ⟨h, .inr (.inr hlimit)⟩)))
    have hstop : Leads 1 [.stopTest] (r.demanding d) (r.demanding d) := .stopTest_notRunning fun since hrunning => by
      obtain h | h := hrest <;> exact nomatch (h.symm.trans hrunning)
    exact (Leads.sampleTests hnoted hstop hidle (.condenserTest_rest hlimit hrest)
      (.protectTest_none (hstays _ rfl rfl rfl))).mono (by decide)
  · intro c hwait hqueue hkind howner hheld
    cases hd : d with
    | true =>
      have hnoted : Leads 1 [.demandTest] r (r.demanding true) := by
        rw [← hd, ← hwith]
        exact .demandTest_noted (.inr (.inr (.inr (.inr ⟨hwait, hdemand.trans hd⟩))))
      have hstop : Leads 1 [.stopTest] (r.demanding true) (r.demanding true) :=
        .stopTest_notRunning fun since hrunning => nomatch (hwait.symm.trans hrunning)
      exact (Leads.sampleTests hnoted hstop hidle (.condenserTest_startWait hlimit hwait hqueue hkind howner hheld)
        (.protectTest_none (hstays _ rfl rfl rfl))).mono (by decide)
    | false =>
      obtain ⟨v, hv⟩ : ∃ v : State, v = { (r.demanding false).setCompressor .offReady with load := { r.load with queue := [] } } :=
        ⟨_, rfl⟩
      have hlapses : Leads 3 [.demandTest] r v := by
        have hwithdraw := Leads.withdraw (s := (r.demanding false).setCompressor .offReady) hheld hqueue
        rw [hkind, howner] at hwithdraw
        refine .act (new := [.withdraw .compressorStart .plant]) ?_ (hv ▸ hwithdraw)
        change r.testDemand = _
        rw [State.testDemand_eq, hwait]
        dsimp only
        rw [hdemand, hd, hwith, hd]
        rfl
      have hstop : Leads 1 [.stopTest] v v := .stopTest_notRunning fun since hrunning => by
        rw [hv] at hrunning
        exact nomatch hrunning
      have htests := Leads.sampleTests hlapses hstop (by rw [hv]; exact hidle)
        (.condenserTest_rest (by rw [hv]; exact hlimit) (.inr (by rw [hv]; rfl)))
        (.protectTest_none (hstays _ (by rw [hv]; rfl) (by rw [hv]; rfl) rfl))
      rw [hv] at htests
      exact htests.mono (by decide)
  · intro since k hon hwaits
    have hstate : r.plant.compressor = .starting since ∨ r.plant.compressor = .running since :=
      hon.imp And.left And.left
    have hnoted : Leads 1 [.demandTest] r (r.demanding d) := by
      rw [← hwith]
      exact .demandTest_noted (.inr (.inr (.inl ⟨since, hstate⟩)))
    have hhalt : ∀ c, (r.demanding d).plant.halt r.now c =
        { r.plant with
          demand := d, compressor := c, offSince := r.now, runMs := min 86400000 (r.plant.runMs + (r.now - since)) } := by
      intro c
      rw [PlantUnit.halt_eq (p := (r.demanding d).plant) hstate, if_neg (by exact hcab)]
      rfl
    by_cases hstops : ∃ since, (r.demanding d).plant.compressor = .running since ∧ (r.demanding d).plant.stops r.now = true
    · obtain ⟨since', hrunning, hstops⟩ := hstops
      obtain rfl : k = .compressorRun := by
        obtain ⟨h, -⟩ | ⟨-, h⟩ := hon
        · exact nomatch h.symm.trans hrunning
        · exact h
      have hstop := Leads.stopTest_stops hrunning hstops hwaits
        (.defrostProceeds_none (s := (r.demanding d).runHalted) (congrArg Defrost.isDue hidle))
      have htests := Leads.sampleTests hnoted hstop hidle
        (.condenserTest_rest (s := (r.demanding d).runHalted) hlimit (.inl rfl)) (.protectTest_none (hstays _ rfl rfl rfl))
      have hplant : (r.demanding d).runHalted.plant = _ := hhalt .offMin
      rw [State.protected, State.setCompressor, State.modPlant, hplant] at htests
      exact htests.mono (by decide)
    · have hstop : Leads 1 [.stopTest] (r.demanding d) (r.demanding d) :=
        .stopTest_none fun since' hrunning => Bool.eq_false_iff.2 fun h => hstops ⟨since', hrunning, h⟩
      have htests := Leads.sampleTests hnoted hstop hidle
        (.condenserTest_halts hlimit hon hwaits (congrArg Defrost.isDue hidle)) (.protectTest_none (hstays _ rfl rfl rfl))
      rw [show (r.demanding d).now = r.now from rfl, hhalt .protecting] at htests
      exact htests.mono (by decide)

/-- In PROTECT only a COND sample counts. -/
theorem Leads.sampleTests_protecting {n : Nat} {r t : State} (hidle : r.plant.defrost = .idle)
    (hprotecting : r.plant.compressor = .protecting)
    (h : Leads n [.protectTest] (r.demanding (r.plant.demandNow r.now)) t) : Leads (1 + (1 + (1 + (1 + n)))) (sampleActs false) r t :=
  .sampleTests (.demandTest_noted (.inr (.inl hprotecting)))
    (.stopTest_notRunning fun _ hrunning => nomatch (hprotecting.symm.trans hrunning)) hidle
    (.condenserTest_none (s := r.demanding (r.plant.demandNow r.now)) (.inr hprotecting)) h

/-! ### Min Run and Fallback On (R105, R107) -/

/-- At a deadline the interval it ends has passed. -/
theorem le_reached_sub (now since interval : Nat) : interval ≤ max now (since + interval) - since := by omega

theorem exec_minRunReached {s : State} {since : Nat} (h : s.plant.compressor = .running since) :
    exec .minRunReached s = .next (run (s.reach (since + s.plant.cooling.minRun * 1000)) [.stopTest]) := by
  change execMinRunReached s = _
  rw [execMinRunReached, h]
  rfl

theorem exec_fallbackOnElapsed {s : State} {since : Nat} (h : s.plant.compressor = .running since)
    (hfailed : s.plant.cab.state = .failed) :
    exec .fallbackOnElapsed s = .next (run (s.reach (since + s.plant.cooling.fallbackOn * 1000)) [.stopTest]) := by
  change execFallbackOnElapsed s = _
  rw [execFallbackOnElapsed, h]
  exact if_pos hfailed

/-- A run stopped without a defrost that waits for it. -/
theorem Leads.stopTest_halts {s : State} {since : Nat} (hrunning : s.plant.compressor = .running since)
    (hstops : s.plant.stops s.now = true) (hwaits : NothingWaits s) (hdue : s.plant.defrost.isDue = false) :
    Leads 4 [.stopTest] s
      { s with
        plant :=
          { s.plant with
            compressor := .offMin, offSince := s.now, runMs := min 86400000 (s.plant.runMs + (s.now - since))
            demand := if s.plant.cab.state = .failed then false else s.plant.demand }
        load := s.load.released .compressorRun .plant } := by
  have hstop := Leads.stopTest_stops hrunning hstops hwaits (.defrostProceeds_none (s := s.runHalted) hdue)
  rw [State.runHalted, PlantUnit.halt_eq (.inr hrunning)] at hstop
  exact hstop

/-- Settles O41, by the tests of a second's samples and by the stop test. -/
theorem compressorStops : Obligations.CompressorStops := by
  refine ⟨?_, ?_, ?_⟩
  · intro s cab coil cond p good air ice hot valid now read out protects hcoil hcond hcoil' hcond' hidle
    refine ⟨?_, ?_, ?_⟩
    · intro hcab hcab' hreset hcutout
      have hexec : out = .next (run (s.sampledBy (valid air) (valid ice) (valid hot)) (sampleActs false)) :=
        exec_sensorSample_good hcab hcoil hcond hcab' hcoil' hcond'
      obtain ⟨hrest, hwait, hon⟩ := Leads.sampleTests_protects (r := s.sampledBy (valid air) (valid ice) (valid hot)) hidle rfl
        nofun (hreset.trans hcutout) hcutout (s.demandNow_sampledBy air (valid ice) (valid hot) now)
      refine ⟨?_, ?_, ?_⟩
      · intro h
        rw [hexec, (hrest h).run_eq (by decide)]
        rfl
      · intro c h hqueue hkind howner hheld
        rw [hexec, (hwait c h hqueue hkind howner hheld).run_eq (by decide)]
        rfl
      · intro since k h hwaits
        rw [hexec, (hon since k h hwaits).run_eq (by decide)]
        rfl
    · intro hcab hcab' hprotecting
      have hexec : out = .next (run (s.sampledBy (valid air) (valid ice) (valid hot)) (sampleActs false)) :=
        exec_sensorSample_good hcab hcoil hcond hcab' hcoil' hcond'
      have hdemand := s.demandNow_sampledBy air (valid ice) (valid hot) now
      have hleaves := PlantUnit.leavesProtect_valid (p := read) (t := hot) rfl hprotecting
      constructor
      · intro habove
        have htests := Leads.sampleTests_protecting (r := s.sampledBy (valid air) (valid ice) (valid hot)) hidle hprotecting
          (.protectTest_none ?_)
        · rw [hexec, htests.run_eq (by decide)]
          exact congrArg (fun d => Host.Outcome.next (State.conclude (State.demanding _ d))) hdemand
        · exact hleaves.trans (decide_eq_false (not_le.2 habove))
      · intro hbelow
        have htests := Leads.sampleTests_protecting (r := s.sampledBy (valid air) (valid ice) (valid hot)) hidle hprotecting
          (.protectTest_leaves (hleaves.trans (decide_eq_true hbelow)))
        rw [hexec, htests.run_eq (by decide)]
        exact congrArg (fun d => Host.Outcome.next (State.conclude (State.raise
          { s with now := now, plant := { read with demand := d, compressor := .offMin, offSince := now } } .compressorProtect none
            [0, signed16 hot]))) hdemand
    · intro hbad hfailed hprotecting hbelow
      obtain ⟨y, hy⟩ : ∃ y, p.cab.sampled (p.curve.take 8) cab = y := ⟨_, rfl⟩
      have hstill : y.state = .failed := hy ▸ Sensor.sampled_failed _ _ hbad hfailed
      refine ⟨y, hy ▸ Sensor.sampled_after _ _ _, ?_⟩
      have hexec : out = .next (run (s.sampledBy y (valid ice) (valid hot)) (sampleActs false)) := by
        refine (exec_sensorSample_of hy (Sensor.sampled_good _ _ hcoil) (Sensor.sampled_good _ _ hcond) (.inl hfailed)).trans ?_
        refine congrArg (fun w => Host.Outcome.next (run w (sampleActs false))) (State.reportSensors_none ?_ ?_ ?_)
        · exact sensorNotice_none (.inl ⟨hfailed, fun h => nomatch hstill.symm.trans h⟩)
        · exact sensorNotice_good ice hcoil'
        · exact sensorNotice_good hot hcond'
      have hleaves := PlantUnit.leavesProtect_valid (p := (s.sampledBy y (valid ice) (valid hot)).plant) (t := hot) rfl hprotecting
      have htests := Leads.sampleTests_protecting (r := s.sampledBy y (valid ice) (valid hot)) hidle hprotecting
        (.protectTest_leaves (hleaves.trans (decide_eq_true hbelow)))
      rw [hexec, htests.run_eq (by decide)]
      exact congrArg (fun d => Host.Outcome.next (State.conclude (State.raise
          { s with now := now, plant := { read with cab := y, demand := d, compressor := .offMin, offSince := now } }
            .compressorProtect none [0, signed16 hot]))) (if_pos hstill)
  · intro s since hrunning hwaits p failed halted left minRun onTime stops
    have hpast : p.cooling.minRun * 1000 ≤ minRun - since := le_reached_sub _ _ _
    obtain ⟨v, hv⟩ : ∃ v, v = s.reach (since + p.cooling.minRun * 1000) := ⟨_, rfl⟩
    have hexec : exec .minRunReached s = .next (run v [.stopTest]) := hv ▸ exec_minRunReached hrunning
    have hrunningV : v.plant.compressor = .running since := by rw [hv]; exact hrunning
    have hwaitsV : NothingWaits v := by rw [hv]; exact hwaits
    have hplant : v.plant = p := by rw [hv]; rfl
    have hnow : v.now = minRun := by rw [hv]; rfl
    have hiff : v.plant.stops v.now = true ↔ stops ∨ p.defrost.isDue = true := by
      rw [PlantUnit.stops_running hrunningV, hplant, hnow]
      constructor
      · rintro ⟨-, h | h | h⟩
        · exact .inl (.inl h)
        · exact .inr h
        · exact .inl (.inr h)
      · rintro ((h | h) | h)
        · exact ⟨hpast, .inl h⟩
        · exact ⟨hpast, .inr (.inr h)⟩
        · exact ⟨hpast, .inr (.inl h)⟩
    refine ⟨?_, ?_, ?_, ?_⟩
    · intro hstops hdue
      rw [hexec, (Leads.stopTest_halts hrunningV (hiff.2 (.inl hstops)) hwaitsV (by rw [hplant]; exact hdue)).run_eq (by decide),
        hv]
      rfl
    · intro hruns hdue
      have hno : v.plant.stops v.now = false := Bool.eq_false_iff.2 fun h =>
        (hiff.1 h).elim hruns fun h => by rw [hdue] at h; exact nomatch h
      rw [hexec, (Leads.stopTest_none fun _ _ => hno).run_eq (by decide), hv]
      rfl
    · intro c hdefrost hcoil hnone hfits
      have hheats := Leads.defrostProceeds_heats (s := v.runHalted) (c := c) (by rw [hv]; exact hdefrost) rfl
        ⟨hwaitsV, fun g hg => hnone g (List.mem_of_mem_filter (by rw [hv] at hg; exact hg)), by rw [hv]; exact hfits⟩
        (by rw [hv]; exact hcoil)
      have hstop := Leads.stopTest_stops hrunningV (hiff.2 (.inr (by rw [hdefrost]; rfl))) hwaitsV hheats
      rw [State.runHalted, PlantUnit.halt_eq (.inr hrunningV)] at hstop
      rw [hexec, hstop.run_eq (by decide), hv]
      rfl
    · intro hfailed hmin hdue
      have hon : p.cooling.fallbackOn * 1000 ≤ onTime - since := le_reached_sub _ _ _
      have hhalts := Leads.stopTest_halts (s := s.reach (since + p.cooling.fallbackOn * 1000)) hrunning
        ((PlantUnit.stops_running hrunning onTime).2 ⟨hmin, .inr (.inr ⟨hfailed, hon⟩)⟩) hwaits hdue
      rw [exec_fallbackOnElapsed hrunning hfailed, hhalts.run_eq (by decide)]
      rfl
  · intro s
    constructor
    · intro hnone
      constructor
      · change execMinRunReached s = _
        rw [execMinRunReached]
        split
        · next since h => exact absurd h (hnone since)
        all_goals rfl
      · change execFallbackOnElapsed s = _
        rw [execFallbackOnElapsed]
        split
        · next since h => exact absurd h (hnone since)
        all_goals rfl
    · intro hgood
      change execFallbackOnElapsed s = _
      rw [execFallbackOnElapsed]
      split
      · exact if_neg hgood
      all_goals rfl

end Sys2Proof.Machine

/-! ## How a defrost ends (06, section 6.5) -/

namespace Sys2Proof.Machine

/-! ### Heating ends, and DRIP (R110 to R112) -/

/-- DRIP begun with its heating time. -/
def State.dripping (s : State) (c : DefrostCause) (heated : Nat) : State :=
  { s with plant := { s.plant with defrost := .drip c s.now, heatMs := heated } }

theorem State.endHeating_eq {s : State} {c : DefrostCause} (reason : Nat) (h : s.plant.defrost.meltCause = some c) :
    s.endHeating reason =
      (s.dripping c (s.plant.heatingMs s.now),
        [.release .defrost .plant, .dripEntered reason (s.plant.heatingMs s.now / 1000)]) := by
  rw [State.endHeating, h]
  rfl

/-- A release of the only claim that waits withdraws it (R126). -/
theorem Leads.release_waiting {s : State} {c : Claim} (hheld : s.load.held = []) (hqueue : s.load.queue = [c])
    (hnone : ∀ g ∈ s.load.granted, g.kind ≠ c.kind) :
    Leads 2 [.release c.kind c.owner] s { s with load := { s.load with queue := [] } } := by
  have hrelease : perform (.release c.kind c.owner) s = ({ s with load := { s.load with queue := [] } }, [.decide]) := by
    have hno : (s.load.granted.any fun g => decide (g.kind = c.kind) && decide (g.owner = c.owner)) = false := by
      rw [List.any_eq_false]
      intro g hg
      simp [hnone g hg]
    change s.releaseClaim c.kind c.owner = _
    rw [State.releaseClaim, if_neg (by rw [hno]; nofun), State.withdrawClaim, hqueue, if_pos (by simp)]
    simp only [State.modLoad]
    rw [LoadUnit.letIn_of_held_nil (by exact hheld)]
    simp [hqueue]
  exact .act hrelease (.decide_nil rfl)

theorem Leads.dripEntered {s : State} (reason heated : Nat) (h : s.plant.cooling.drip ≠ 0) :
    Leads 1 [.dripEntered reason heated] s (s.raise .defrost none [2, reason, heated]) := by
  refine .done ?_
  change s.beginDrip reason heated = _
  rw [State.beginDrip, if_neg h]

/-- A Drip of 0 ends in the step that enters it. -/
theorem Leads.dripEntered_over {n : Nat} {s t : State} (reason heated : Nat) (h : s.plant.cooling.drip = 0)
    (hdone : Leads n [.dripDone] (s.raise .defrost none [2, reason, heated]) t) :
    Leads (n + 1) [.dripEntered reason heated] s t := by
  refine .act ?_ hdone
  change s.beginDrip reason heated = _
  rw [State.beginDrip, if_pos h]

/-- The plant dried: the run-time total and the heating time are cleared (R112). -/
def State.dried (s : State) : State :=
  State.raise { s with plant := { s.plant with runMs := 0, heatMs := 0, defrost := .idle } } .defrost none [3]

theorem State.endDrip_eq {s : State} {c : DefrostCause} {since : Nat} (h : s.plant.defrost = .drip c since) :
    s.endDrip = (s.dried, [.demandTest]) := by
  rw [State.endDrip, h]
  rfl

/-- The COIL end of a defrost that heats or is suspended (R110, R111). -/
theorem Leads.defrostTest_ends {n : Nat} {s t : State} {c : DefrostCause} (hcoil : s.plant.coilEnd = true)
    (hmelts : s.plant.defrost.meltCause = some c)
    (h : Leads n [.release .defrost .plant, .dripEntered 1 (s.plant.heatingMs s.now / 1000)]
      (s.dripping c (s.plant.heatingMs s.now)) t) :
    Leads (n + 1) [.defrostTest] s t := by
  refine .act ?_ h
  change s.testDefrost = _
  rw [State.testDefrost, if_pos hcoil, State.endHeating_eq 1 hmelts]

/-! ### The commands -/

theorem exec_defrostMaxReached {s : State} {c : DefrostCause} {since : Nat} (h : s.plant.defrost = .heating c since) :
    exec .defrostMaxReached s =
      .next (runDoing ((s.reach (since + (s.plant.cooling.defrostMax * 1000 - s.plant.heatMs))).endHeating 2)) := by
  change execDefrostMaxReached s = _
  rw [execDefrostMaxReached, h]

theorem exec_dripEnd {s : State} {c : DefrostCause} {since : Nat} (h : s.plant.defrost = .drip c since) :
    exec .dripEnd s = .next (run (s.reach (since + s.plant.cooling.drip * 1000)).dried [.demandTest]) := by
  change execDripEnd s = _
  rw [execDripEnd, h]
  dsimp only
  rw [State.endDrip_eq (c := c) (since := since) (by exact h)]
  rfl

theorem PlantUnit.heatingMs_heating {p : PlantUnit} {c : DefrostCause} {since : Nat} (h : p.defrost = .heating c since)
    (now : Nat) : p.heatingMs now = p.heatMs + (now - since) := by
  rw [PlantUnit.heatingMs, h]

theorem PlantUnit.heatingMs_suspended {p : PlantUnit} {c : DefrostCause} (h : p.defrost = .suspended c) (now : Nat) :
    p.heatingMs now = p.heatMs := by
  rw [PlantUnit.heatingMs, h]

/-- The tests of a second's samples with the COIL end met; `r` is the plant as read, `d` its demand. -/
theorem Leads.sampleTests_melts {n : Nat} {r t : State} {d : Bool} {c : DefrostCause} {heated : Nat}
    (hoff : r.plant.compressor = .offMin) (hlimit : r.plant.limitApplies = false) (hdemand : r.plant.demandNow r.now = d)
    (hcoil : r.plant.coilEnd = true) (hmelts : r.plant.defrost.meltCause = some c) (hheated : r.plant.heatingMs r.now = heated)
    (h : Leads n [.release .defrost .plant, .dripEntered 1 (heated / 1000)] ((r.demanding d).dripping c heated) t)
    (hkeeps : t.plant.compressor = .offMin ∧ t.plant.cond = r.plant.cond ∧ t.plant.cooling = r.plant.cooling) :
    Leads (n + 5) (sampleActs false) r t := by
  obtain ⟨hoff', hcond, hcooling⟩ := hkeeps
  have hwith : r.withDemand = r.demanding d := by rw [State.withDemand, hdemand, State.demanding]
  have hnoted : Leads 1 [.demandTest] r (r.demanding d) := hwith ▸ Leads.demandTest_noted (.inl hoff)
  have hstop : Leads 1 [.stopTest] (r.demanding d) (r.demanding d) :=
    .stopTest_notRunning fun _ hrunning => nomatch hoff.symm.trans hrunning
  have hends : Leads (n + 1) [.defrostTest] (r.demanding d) t := by
    subst hheated
    exact Leads.defrostTest_ends (s := r.demanding d) hcoil hmelts h
  have hlimit' : t.plant.limitApplies = false := by
    rw [PlantUnit.limitApplies, hcond, hcooling]
    exact hlimit
  exact (hnoted.andThen (hstop.andThen (hends.andThen ((Leads.condenserTest_none (.inl hlimit')).andThen
    (.protectTest_none (PlantUnit.leavesProtect_of_ne fun h => nomatch hoff'.symm.trans h)))))).mono (by omega)

/-- Settles O43, by what ends the heating and by the demand test behind the drip. -/
theorem defrostEnds : Obligations.DefrostEnds := by
  refine ⟨?_, ?_, ?_⟩
  · intro s c hdrip p ended heated released
    constructor
    · intro since hheating hwaits now
      obtain ⟨v, hv⟩ : ∃ v, v = s.reach (since + (p.cooling.defrostMax * 1000 - p.heatMs)) := ⟨_, rfl⟩
      have hmelts : v.plant.defrost.meltCause = some c := by
        rw [hv]
        exact congrArg Defrost.meltCause hheating
      have hheated : v.plant.heatingMs v.now = heated since now := by
        rw [hv]
        exact PlantUnit.heatingMs_heating hheating _
      have hends := (Leads.release (s := v.dripping c (heated since now)) (by rw [hv]; exact hwaits) .defrost .plant).andThen
        (Leads.dripEntered 2 (heated since now / 1000) (by rw [hv]; exact hdrip))
      rw [exec_defrostMaxReached hheating, ← hv, State.endHeating_eq 2 hmelts, hheated]
      refine (congrArg Host.Outcome.next (hends.run_eq (by decide))).trans ?_
      rw [hv]
      rfl
    · intro cab coil cond air ice hot valid now read hcab hcoil hcond hcab' hcoil' hcond' hoff hlow hend
      have hexec : exec (.sensorSample cab coil cond) s =
          .next (run (s.sampledBy (valid air) (valid ice) (valid hot)) (sampleActs false)) :=
        exec_sensorSample_good hcab hcoil hcond hcab' hcoil' hcond'
      have hlimit : (s.sampledBy (valid air) (valid ice) (valid hot)).plant.limitApplies = false :=
        (PlantUnit.limitApplies_valid rfl).trans (decide_eq_false (not_lt.2 hlow))
      have hdemand := s.demandNow_sampledBy air (valid ice) (valid hot) now
      have hcoilEnd : (s.sampledBy (valid air) (valid ice) (valid hot)).plant.coilEnd = true := decide_eq_true hend
      obtain ⟨r, hr⟩ : ∃ r, r = s.sampledBy (valid air) (valid ice) (valid hot) := ⟨_, rfl⟩
      have hmelts : ∀ heatMs u n, p.defrost.meltCause = some c → r.plant.heatingMs r.now = heatMs →
          Leads n [.release .defrost .plant, .dripEntered 1 (heatMs / 1000)] ((r.demanding read.demand).dripping c heatMs) u →
          u.plant.compressor = .offMin ∧ u.plant.cond = r.plant.cond ∧ u.plant.cooling = r.plant.cooling → n ≤ 100 →
          exec (.sensorSample cab coil cond) s = .next u.conclude := by
        intro heatMs u n hcause hheated hends hkeeps hn
        have htests := Leads.sampleTests_melts (by rw [hr]; exact hoff) (by rw [hr]; exact hlimit) (by rw [hr]; exact hdemand)
          (by rw [hr]; exact hcoilEnd) (by rw [hr]; exact hcause) hheated hends hkeeps
        rw [hexec, ← hr, htests.run_eq (by omega)]
      constructor
      · intro since hheating hwaits
        have hends := (Leads.release (s := (r.demanding read.demand).dripping c (heated since now)) (by rw [hr]; exact hwaits)
          .defrost .plant).andThen (Leads.dripEntered 1 (heated since now / 1000) (by rw [hr]; exact hdrip))
        refine (hmelts (heated since now) _ _ (congrArg Defrost.meltCause hheating) ?_ hends ?_ (by decide)).trans ?_
        · rw [hr]
          exact PlantUnit.heatingMs_heating hheating _
        · exact ⟨by rw [hr]; exact hoff, rfl, rfl⟩
        · rw [hr]
          rfl
      · intro d hsuspended hqueue hkind howner hheld hnone
        have hrelease := Leads.release_waiting (s := (r.demanding read.demand).dripping c p.heatMs) (c := d)
          (by rw [hr]; exact hheld) (by rw [hr]; exact hqueue) (by rw [hr, hkind]; exact hnone)
        rw [hkind, howner] at hrelease
        have hends := hrelease.andThen (Leads.dripEntered 1 (p.heatMs / 1000) (by rw [hr]; exact hdrip))
        refine (hmelts p.heatMs _ _ (congrArg Defrost.meltCause hsuspended) ?_ hends ?_ (by decide)).trans ?_
        · rw [hr]
          exact PlantUnit.heatingMs_suspended hsuspended _
        · exact ⟨by rw [hr]; exact hoff, rfl, rfl⟩
        · rw [hr]
          rfl
  · intro s c since t hgood ht p wants dry now max'
    have hwants : ∀ v : State, v.plant.cab = p.cab → v.plant.cooling = p.cooling → v.plant.demand = p.demand →
        v.plant.demandNow v.now = wants := by
      intro v hcab hcooling hsame
      rw [PlantUnit.demandNow_thermostat (by rw [hcab]; exact hgood) (by rw [hcab]; exact ht), hcooling, hsame]
    refine ⟨?_, ?_, ?_⟩
    · intro hdefrost hstate
      obtain ⟨v, hv⟩ : ∃ v, v = (s.reach (since + p.cooling.drip * 1000)).dried := ⟨_, rfl⟩
      have hdemand : v.plant.demandNow v.now = wants := hwants v (by rw [hv]; rfl) (by rw [hv]; rfl) (by rw [hv]; rfl)
      have hlead : Leads 1 [.demandTest] v (v.demanding wants) := by
        rw [State.demanding, ← hdemand]
        refine .demandTest_noted ?_
        obtain h | h | ⟨h, hno⟩ := hstate
        · exact .inl (by rw [hv]; exact h)
        · exact .inr (.inl (by rw [hv]; exact h))
        · exact .inr (.inr (.inr (.inl ⟨by rw [hv]; exact h, .inl (hdemand.trans hno)⟩)))
      rw [exec_dripEnd hdefrost, ← hv, hlead.run_eq (by decide), hv]
      rfl
    · intro hdefrost hready hyes hlimit hwaits hnone hfits
      obtain ⟨v, hv⟩ : ∃ v, v = (s.reach (since + p.cooling.drip * 1000)).dried := ⟨_, rfl⟩
      have hdemand : v.plant.demandNow v.now = true :=
        (hwants v (by rw [hv]; rfl) (by rw [hv]; rfl) (by rw [hv]; rfl)).trans hyes
      have hlead := Leads.demandTest_starts (s := v) (by rw [hv]; exact hready) hdemand (by rw [hv]; rfl)
        (by rw [hv]; exact hlimit) ⟨by rw [hv]; exact hwaits, by rw [hv]; exact hnone, by rw [hv]; exact hfits⟩
      rw [exec_dripEnd hdefrost, ← hv, hlead.run_eq (by decide), hv]
      refine congrArg (fun d => Host.Outcome.next (State.conclude (State.raise
        { s with
          now := now
          plant := { dry with compressor := .starting now, demand := d }
          load := { s.load with granted := s.load.granted ++ [grantNow { s with now := now } .compressorStart .plant] } }
        .defrost none [3]))) hyes.symm
    · intro hheating hdrip hoff hwaits
      obtain ⟨v, hv⟩ : ∃ v, v = s.reach (since + (p.cooling.defrostMax * 1000 - p.heatMs)) := ⟨_, rfl⟩
      obtain ⟨heated, hheated⟩ : ∃ n, n = p.heatMs + (max' - since) := ⟨_, rfl⟩
      obtain ⟨w, hw⟩ : ∃ w, w = (State.raise
          { v.dripping c heated with load := v.load.released .defrost .plant } .defrost none [2, 2, heated / 1000]) := ⟨_, rfl⟩
      have hnoted : Leads 1 [.demandTest] w.dried (w.dried.demanding wants) := by
        rw [State.demanding, ← hwants w.dried (by rw [hw, hv]; rfl) (by rw [hw, hv]; rfl) (by rw [hw, hv]; rfl)]
        exact .demandTest_noted (.inl (by rw [hw, hv]; exact hoff))
      have hdone : Leads 2 [.dripDone] w (w.dried.demanding wants) := by
        refine .act ?_ hnoted
        change w.endDrip = _
        exact State.endDrip_eq (c := c) (since := v.now) (by rw [hw]; rfl)
      have hends := (Leads.release (s := v.dripping c heated) (by rw [hv]; exact hwaits) .defrost .plant).andThen
        (Leads.dripEntered_over 2 (heated / 1000) (by rw [hv]; exact hdrip) (hw ▸ hdone))
      have hmelts : v.plant.defrost.meltCause = some c := by
        rw [hv]
        exact congrArg Defrost.meltCause hheating
      have hmoment : v.plant.heatingMs v.now = heated := by
        rw [hv, hheated]
        exact PlantUnit.heatingMs_heating hheating _
      rw [exec_defrostMaxReached hheating, ← hv, State.endHeating_eq 2 hmelts, hmoment]
      refine (congrArg Host.Outcome.next (hends.run_eq (by decide))).trans ?_
      rw [← hw, hw, hv, hheated]
      rfl
  · intro s
    constructor
    · intro hnone
      change execDefrostMaxReached s = _
      rw [execDefrostMaxReached]
      split
      · next c since h => exact absurd h (hnone c since)
      all_goals rfl
    · intro hnone
      change execDripEnd s = _
      rw [execDripEnd]
      split
      · next c since h => exact absurd h (hnone c since)
      all_goals rfl

end Sys2Proof.Machine

/-! ## The Exposure step (06, section 6.6) -/

namespace Sys2Proof.Machine

/-! ### Exposure (R114) -/

theorem PlantUnit.stepExposure_eq {p : PlantUnit} {a : Int} (ha : p.cab.temp = some a) :
    p.stepExposure =
      if p.heater = true ∨ p.cab.state = .failed then p.exposure
      else
        match p.defrost with
        | .drip _ _ => p.exposure
        | _ =>
          if p.cooling.safeLimit < a then min 65535 (p.exposure + (a - p.cooling.safeLimit).toNat)
          else p.exposure - p.cooling.recovery := by
  rw [PlantUnit.stepExposure, Sensor.reading, ha]
  by_cases hfailed : p.cab.state = .failed
  · rw [if_pos hfailed, if_pos (Or.inr hfailed)]
    cases p.defrost <;> rfl
  · cases hdefrost : p.defrost <;> simp [PlantUnit.heater, hdefrost, hfailed] <;> rfl

/-- The record of a step: Exposure as it leaves it, and the next step due (R114). -/
def State.exposed (s : State) : State :=
  { s with
    now := max s.now s.plant.stepAt
    plant := { s.plant with exposure := s.plant.stepExposure, stepAt := s.plant.stepAt + 60000 } }

theorem State.takeStep_stays {s : State} (h : s.exposed.plant.unlocks = false) :
    (s.reach s.plant.stepAt).takeStep =
      (s.exposed, [.exposureTest, .notice .temperature none s.exposed.plant.temperatures]) :=
  if_neg fun hunlocks => Bool.false_ne_true (h.symm.trans hunlocks)

theorem State.takeStep_unlocks {s : State} (h : s.exposed.plant.unlocks = true) :
    (s.reach s.plant.stepAt).takeStep =
      (State.raise { s.exposed with plant := { s.exposed.plant with lockout := false } } .coldLockout none
        [0, s.exposed.plant.exposure, 0],
        [.reprice, .notice .temperature none s.exposed.plant.temperatures]) :=
  if_pos h

/-- A step's command, by what its acts lead to. -/
theorem exec_exposureStep {n : Nat} {s u t : State} {acts : List Act}
    (hstep : (s.reach s.plant.stepAt).takeStep = (u, acts)) (h : Leads n acts u t) (hn : n ≤ 4096) :
    exec .exposureStep s = .next t.conclude := by
  change Host.Outcome.next (runDoing ((s.reach s.plant.stepAt).takeStep)) = _
  rw [hstep, h.runDoing_eq hn]

/-! ### The cold lockout (R115) -/

theorem Leads.exposureTest_below {s : State} (h : s.plant.exposure < s.plant.cooling.lockoutThreshold ∨ s.plant.lockout = true) :
    Leads 1 [.exposureTest] s s := by
  refine .done ?_
  change s.testExposure = _
  rw [State.testExposure]
  obtain h | h := h
  · exact if_neg (Nat.not_le.2 h)
  · rw [State.activateLockout, if_pos h]
    exact ite_self _

/-- At the threshold the test does what the lockout does. -/
theorem perform_exposureTest {s : State} (h : s.plant.cooling.lockoutThreshold ≤ s.plant.exposure) :
    perform .exposureTest s = perform (.lockOut 1) s := if_pos h

theorem Leads.exposureTest_reaches {n : Nat} {s t : State} (h : s.plant.cooling.lockoutThreshold ≤ s.plant.exposure)
    (hlock : Leads n [.lockOut 1] s t) : Leads n [.exposureTest] s t := by
  obtain ⟨k, hk, hruns⟩ := hlock
  refine ⟨k, hk, fun m rest => ?_⟩
  rw [← hruns m rest]
  cases k + m with
  | zero => rfl
  | succ j => exact congrArg (fun d : Doing => settle j (d.2 ++ rest) d.1) (perform_exposureTest h)

/-- The lockout ends the only vend, which waits and whose position is CHILLED, HELD_COLD (R74). -/
theorem Leads.lockOut_endsOnly {s : State} {v : Vend} {load : LoadUnit} (cause : Nat) (hlockout : s.plant.lockout = false)
    (halone : WaitsAlone s v load) (hchilled : (s.selection v.position).health = .chilled) :
    Leads 8 [.lockOut cause] s
      (State.raise
        { s.lockedOut cause (highestPrice s.sales.selections true) with sales := s.sales.without v, load := load }
        .vendResult (some v.position) (resultValues v 4)) := by
  have hends := Leads.waitsAlone_ends (s := s.lockedOut cause (highestPrice s.sales.selections true)) (r := .heldCold)
    (f := fun v => v.waits && decide ((s.selection v.position).health = .chilled)) (d := true) halone
    (by simp [halone.waits, hchilled]) rfl
  rw [State.onlyVendGone_leaves rfl] at hends
  exact (Leads.act (perform_lockOut cause hlockout) ((Leads.done (a := .reprice) rfl).andThen hends) :)

theorem PlantUnit.unlocks_iff {p : PlantUnit} {a : Int} (ha : p.cab.temp = some a) :
    p.unlocks = true ↔ p.lockout = true ∧ p.exposure = 0 ∧ p.cab.state = .valid ∧ a ≤ p.cooling.safeLimit := by
  simp [PlantUnit.unlocks, ha, and_assoc]

/-- Settles O44, by what the step's lockout test finds. -/
theorem exposureSteps : Obligations.ExposureSteps := by
  intro s a b c ha hb hc p after stepped now log unlocks
  have hafter : s.plant.stepExposure = after := PlantUnit.stepExposure_eq ha
  have hexposed : s.exposed = { s with now := now, plant := stepped } :=
    congrArg (fun n => ({ s with now := now, plant := { p with exposure := n, stepAt := p.stepAt + 60000 } } : State)) hafter
  have hlog : s.exposed.plant.temperatures = log := by
    rw [hexposed]
    simp only [PlantUnit.temperatures, Sensor.shown]
    rw [show stepped.cab.temp = some a from ha, show stepped.coil.temp = some b from hb, show stepped.cond.temp = some c from hc]
  have hunlocks : s.exposed.plant.unlocks = true ↔ unlocks := by
    rw [hexposed]
    exact PlantUnit.unlocks_iff (p := stepped) ha
  have hnotice : ∀ u : State, Leads 1 [.notice .temperature none log] u (u.raise .temperature none log) := fun u => .done rfl
  have hstays : ¬ unlocks → (s.reach s.plant.stepAt).takeStep =
      ({ s with now := now, plant := stepped }, [.exposureTest, .notice .temperature none log]) := by
    intro h
    rw [State.takeStep_stays (Bool.eq_false_iff.2 fun h' => h (hunlocks.1 h')), hexposed, ← hlog, hexposed]
  have hlocks : p.lockout = false → ¬ unlocks := fun h hunlocks => Bool.false_ne_true (h.symm.trans hunlocks.1)
  refine ⟨?_, ?_, ?_, ?_⟩
  · intro hno hbelow
    exact exec_exposureStep (hstays hno) ((Leads.exposureTest_below hbelow).andThen (hnotice _)) (by decide)
  · intro v load hlockout hreached halone hchilled
    refine ⟨highestPrice s.sales.selections true, highestPrice_spec _ _, ?_⟩
    have hlock := Leads.lockOut_endsOnly (s := { s with now := now, plant := stepped }) (v := v) (load := load) 1 hlockout halone
      hchilled
    exact exec_exposureStep (hstays (hlocks hlockout)) ((Leads.exposureTest_reaches hreached hlock).andThen (hnotice _)) (by decide)
  · intro hlockout hreached hnone
    refine ⟨highestPrice s.sales.selections true, highestPrice_spec _ _, ?_⟩
    have hlock := Leads.lockOut_endsNone (s := { s with now := now, plant := stepped }) 1 hlockout fun v hv => by
      by_cases hwaits : v.waits = true
      · exact Bool.and_eq_false_imp.2 fun _ => decide_eq_false (hnone v hv hwaits)
      · exact Bool.and_eq_false_imp.2 fun h => absurd h hwaits
    exact exec_exposureStep (hstays (hlocks hlockout)) ((Leads.exposureTest_reaches hreached hlock).andThen (hnotice _)) (by decide)
  · intro hyes
    refine ⟨highestPrice s.sales.selections false, highestPrice_spec _ _, ?_⟩
    have hstep := State.takeStep_unlocks (hunlocks.2 hyes)
    rw [hlog, hexposed] at hstep
    have hzero : ([0, stepped.exposure, 0] : List Nat) = [0, 0, 0] := congrArg (fun n => [0, n, 0]) hyes.2.1
    rw [show ({ s with now := now, plant := stepped } : State).plant.exposure = stepped.exposure from rfl, hzero] at hstep
    have hreprice := Leads.done (a := .reprice) (s := State.raise { s with now := now, plant := { stepped with lockout := false } }
      .coldLockout none [0, 0, 0]) rfl
    exact exec_exposureStep hstep (hreprice.andThen (hnotice _)) (by decide)

end Sys2Proof.Machine

/-! ## The arbiter's two moments (07, sections 7.4 and 7.5) -/

namespace Sys2Proof.Machine

/-! ### Taking back the defrost (R122, R123) -/

/-- The conditions under which a head takes back the granted DEFROST (R123). -/
theorem LoadUnit.suspension_eq {l : LoadUnit} {now : Nat} {h : Claim} {d : Grant} (hgrant : l.defrostGrant = some d) :
    l.suspension now h =
      if h.priority < 4 ∧ l.table.minResume * 1000 ≤ now - d.since ∧ l.drawn - d.units + h.units ≤ l.table.budget then some d
      else none := by
  rw [LoadUnit.suspension, hgrant, Option.filter_some]
  simp only [Bool.and_eq_true, decide_eq_true_eq, and_assoc]

/-- The defrost taken back for the head `h`, which is granted in its place. -/
def State.tookBack (s : State) (h : Claim) (rest : List Claim) (d : Grant) : State :=
  (s.modLoad fun l => (l.takeBack d rest).1.grant s.now h (l.takeBack d rest).2).modPlant fun p => p.suspend s.now

theorem Leads.decide_takesBack {n : Nat} {s t : State} {h : Claim} {rest : List Claim} {d : Grant}
    (hqueue : s.load.queue = h :: rest) (hfull : s.load.table.budget < s.load.drawn + h.units)
    (hsuspends : s.load.suspension s.now h = some d)
    (hgranted : Leads n [.granted h.kind h.owner, .decide] (s.tookBack h rest d) t) : Leads (n + 1) [.decide] s t := by
  refine .act ?_ hgranted
  change s.decideHead = _
  rw [State.decideHead, hqueue]
  dsimp only
  rw [if_neg (Nat.not_le.2 hfull), hsuspends]
  rfl

/-- The head is granted. -/
theorem Leads.decide_grants {n : Nat} {s t : State} {h : Claim} {rest : List Claim} (hqueue : s.load.queue = h :: rest)
    (hfits : s.load.drawn + h.units ≤ s.load.table.budget)
    (hgranted : Leads n [.granted h.kind h.owner, .decide] { s with load := s.load.grant s.now h rest } t) :
    Leads (n + 1) [.decide] s t := by
  refine .act ?_ hgranted
  change s.decideHead = _
  rw [State.decideHead, hqueue]
  exact if_pos hfits

theorem exec_minResumeReached {s : State} {d : Grant} {h : Claim} {rest : List Claim} (hgrant : s.load.defrostGrant = some d)
    (hqueue : s.load.queue = h :: rest) :
    exec .minResumeReached s = .next (run (s.reach (d.since + s.load.table.minResume * 1000)) [.decide]) := by
  change execMinResumeReached s = _
  rw [execMinResumeReached, hgrant, hqueue]
  rfl

theorem State.testGranted_idle {s : State} {p : Nat} {g : Group} (hp : groupOf p = g) (htest : (s.group g).test = some p)
    (hidle : (s.group g).state = .idle) :
    s.testGranted g = (s.modGroup g fun r => r.energize (energized p .test (s.pins.away.getLsbD p) s.now), []) := by
  subst hp
  rw [State.testGranted, htest]
  dsimp only
  rw [State.requestTurn_idle .test hidle]

/-- The motor claim of a test takes the defrost's place, and the defrost's claim waits on. -/
theorem Leads.decide_suspends {s : State} {h : Claim} {d : Grant} {g : Group} {p : Nat} {cause : DefrostCause} {since : Nat}
    (hqueue : s.load.queue = [h]) (hkind : h.kind = .motor g) (howner : h.owner = .test)
    (hfull : s.load.table.budget < s.load.drawn + h.units) (hsuspends : s.load.suspension s.now h = some d)
    (hheats : s.plant.defrost = .heating cause since) (hidle : (s.group g).state = .idle) (htest : (s.group g).test = some p)
    (hp : groupOf p = g)
    (hstill : s.load.table.budget
      < 10 + grantedUnits (s.load.granted.filter fun x => x.kind ≠ .defrost) + h.units + s.load.table.defrost) :
    Leads 3 [.decide] s
      (State.modGroup
        { s with
          plant := { s.plant with defrost := .suspended cause, heatMs := s.plant.heatMs + (s.now - since) }
          load :=
            { s.load with
              queue :=
                [{ kind := .defrost, owner := d.owner, units := s.load.table.defrost, priority := 4, arrival := d.arrival }]
              granted :=
                (s.load.granted.filter fun x => x.kind ≠ .defrost)
                  ++ [{ kind := .motor g, owner := .test, units := h.units, since := s.now, arrival := h.arrival }] } }
        g fun r => r.energize (energized p .test (s.pins.away.getLsbD p) s.now)) := by
  have htook : s.tookBack h [] d =
      { s with
        plant := { s.plant with defrost := .suspended cause, heatMs := s.plant.heatMs + (s.now - since) }
        load :=
          { s.load with
            queue :=
              [{ kind := .defrost, owner := d.owner, units := s.load.table.defrost, priority := 4, arrival := d.arrival }]
            granted :=
              (s.load.granted.filter fun x => x.kind ≠ .defrost)
                ++ [{ kind := .motor g, owner := .test, units := h.units, since := s.now, arrival := h.arrival }] } } := by
    have hplant : s.plant.suspend s.now =
        { s.plant with defrost := .suspended cause, heatMs := s.plant.heatMs + (s.now - since) } := by
      rw [PlantUnit.suspend, hheats]
      dsimp only
      rw [PlantUnit.heatingMs_heating hheats]
    rw [State.tookBack, State.modPlant, ← hkind, ← howner, ← hplant]
    rfl
  obtain ⟨u, hu⟩ : ∃ u, u = s.tookBack h [] d := ⟨_, rfl⟩
  rw [htook] at hu
  have hload : ∀ f, (u.modGroup g f).load = u.load := fun f => by rw [u.modGroup_touches]
  have hsum : u.load.drawn = 10 + grantedUnits (s.load.granted.filter fun x => x.kind ≠ .defrost) + h.units := by
    rw [hu, LoadUnit.drawn_eq_grantedUnits, grantedUnits, grantedUnits, List.map_append, List.sum_append, Nat.add_assoc]
    rfl
  have hgranted : Leads 2 [.granted (.motor g) .test, .decide] u
      (u.modGroup g fun r => r.energize (energized p .test (u.pins.away.getLsbD p) u.now)) := by
    refine .andThen (m := 1) (n := 1) (.done (State.testGranted_idle hp ?_ ?_)) ?_
    · rw [hu]
      exact htest
    · rw [hu]
      exact hidle
    · refine .decide_waits (rest := [])
        (h := { kind := .defrost, owner := d.owner, units := s.load.table.defrost, priority := 4, arrival := d.arrival })
        ?_ ?_ (LoadUnit.suspension_of_none (.inr (Nat.le_refl 4)))
      · rw [hload, hu]
      · rw [hload, hsum, hu]
        exact hstill
  rw [← htook] at hu
  have htaken := Leads.decide_takesBack hqueue hfull hsuspends (by rw [hkind, howner, ← hu]; exact hgranted)
  rw [hu, htook] at htaken
  exact htaken

/-! ### Start Defer Limit (R124) -/

theorem exec_startDeferLimit {s : State} {c : Claim} (h : s.load.agingStart = some c) :
    exec .startDeferLimit s =
      .next
        (run ((s.reach (c.arrival + s.load.table.startDefer * 1000)).modLoad fun l => l.promote c) [.decide]) := by
  change execStartDeferLimit s = _
  rw [execStartDeferLimit, h]
  rfl

/-- Settles O45, by what the arbiter decides of its head. -/
theorem arbiterMoments : Obligations.ArbiterMoments := by
  refine ⟨?_, ?_, ?_, ?_, ?_⟩
  · intro s d h rest hgrant hqueue now freed hfull
    obtain ⟨v, hv⟩ : ∃ v, v = s.reach (d.since + s.load.table.minResume * 1000) := ⟨_, rfl⟩
    have hexec : exec .minResumeReached s = .next (run v [.decide]) := hv ▸ exec_minResumeReached hgrant hqueue
    have hresume : v.load.table.minResume * 1000 ≤ v.now - d.since := by
      rw [hv]
      exact le_reached_sub _ _ _
    have hsuspension := LoadUnit.suspension_eq (l := v.load) (now := v.now) (h := h) (d := d) (by rw [hv]; exact hgrant)
    constructor
    · intro hno
      have hnone : v.load.suspension v.now h = none := by
        rw [hsuspension, if_neg]
        rintro ⟨hpriority, -, hfreed⟩
        refine hno.elim (fun h => absurd hpriority (Nat.not_lt.2 h)) fun h => h ?_
        rw [hv] at hfreed
        exact hfreed
      have hwaits := Leads.decide_waits (s := v) (h := h) (rest := rest) (by rw [hv]; exact hqueue) (by rw [hv]; exact hfull) hnone
      rw [hexec, hwaits.run_eq (by decide), hv]
      rfl
    · rintro g p cause since hkind howner hpriority rfl hfreed hheats hidle htest hp left hstill
      have hsome : v.load.suspension v.now h = some d := by
        rw [hsuspension, if_pos ⟨by rw [hpriority]; decide, hresume, by rw [hv]; exact hfreed⟩]
      have hlead := Leads.decide_suspends (s := v) (by rw [hv]; exact hqueue) hkind howner (by rw [hv]; exact hfull) hsome
        (by rw [hv]; exact hheats) (by rw [hv]; exact hidle) (by rw [hv]; exact htest) hp (by rw [hv]; exact hstill)
      rw [hexec, hlead.run_eq (by decide), hv]
      rfl
  · intro s hnone
    change execMinResumeReached s = _
    rw [execMinResumeReached]
    split
    · next d h rest hgrant hqueue =>
      obtain hno | hempty := hnone
      · exact absurd (by simpa using List.find?_some hgrant) (hno d (List.mem_of_find?_eq_some hgrant))
      · exact nomatch hempty.symm.trans hqueue
    · rfl
  · intro s c hqueue hkind howner hpriority hwait hfits now
    have haging : s.load.agingStart = some c := by
      rw [LoadUnit.agingStart, hqueue]
      simp [hkind, hpriority]
    obtain ⟨v, hv⟩ : ∃ v, v = (s.reach (c.arrival + s.load.table.startDefer * 1000)).modLoad fun l => l.promote c := ⟨_, rfl⟩
    have hqueueV : v.load.queue = [{ c with priority := 0 }] := by
      rw [hv]
      change enqueue _ (List.filter _ s.load.queue) = _
      rw [hqueue]
      simp [enqueue]
    have hgranted : Leads 2 [.granted c.kind c.owner, .decide] { v with load := v.load.grant v.now { c with priority := 0 } [] }
        { v with
          plant := { v.plant with compressor := .starting v.now }
          load := v.load.grant v.now { c with priority := 0 } [] } := by
      rw [hkind, howner]
      refine .andThen (m := 1) (n := 1) (.done ?_) (.decide_nil rfl)
      change State.startGranted _ = _
      rw [State.startGranted, show v.plant.compressor = .startWait by rw [hv]; exact hwait]
      rfl
    have hlead := Leads.decide_grants hqueueV (by rw [hv]; exact hfits) hgranted
    rw [exec_startDeferLimit haging, ← hv, hlead.run_eq (by decide), LoadUnit.grant]
    dsimp only
    rw [hkind, howner, hv]
    rfl
  · rintro s h c hqueue hkind hpriority ⟨g, hmotor⟩ hhead hfull hnone
    have haging : s.load.agingStart = some c := by
      rw [LoadUnit.agingStart, hqueue]
      simp [hkind, hmotor, hpriority]
    have hpromoted : (s.load.promote c).queue = [{ c with priority := 0 }, h] := by
      change enqueue _ (List.filter _ s.load.queue) = _
      rw [hqueue]
      simp [enqueue, Claim.before, hkind, hmotor, hhead]
    obtain ⟨v, hv⟩ : ∃ v, v = (s.reach (c.arrival + s.load.table.startDefer * 1000)).modLoad fun l => l.promote c := ⟨_, rfl⟩
    have hwaits := Leads.decide_waits (s := v) (h := { c with priority := 0 }) (rest := [h]) (by rw [hv]; exact hpromoted)
      (by rw [hv]; exact hfull) (LoadUnit.suspension_of_none (.inl (by rw [hv]; exact hnone)))
    rw [exec_startDeferLimit haging, ← hv, hwaits.run_eq (by decide), hv]
    exact congrArg (fun q => Host.Outcome.next (State.conclude
      { s with
        now := max s.now (c.arrival + s.load.table.startDefer * 1000)
        load := { s.load with queue := q } })) hpromoted
  · intro s hnone
    change execStartDeferLimit s = _
    rw [execStartDeferLimit]
    split
    · next c hc =>
      have hfound := List.find?_some hc
      simp only [Bool.and_eq_true, decide_eq_true_eq] at hfound
      exact absurd (hnone c (List.mem_of_find?_eq_some hc) hfound.1) (by simpa using hfound.2)
    · rfl

end Sys2Proof.Machine

/-! ## The bus scheduler (08, sections 8.3 and 8.5) -/

namespace Sys2Proof.Machine

/-! ### A channel changed -/

theorem State.modChannel_eq_set (s : State) (n : Nat) (f : Channel → Channel) :
    s.modChannel n f =
      { s with bridge := { s.bridge with channels := s.bridge.channels.set n (f (s.channel n)) } } := by
  rw [State.modChannel, State.modBridge, editAt_eq_set_getD f Channel.reset]
  rfl

/-! ### The work of a channel (R134) -/

theorem Channel.serves_iff (c : Channel) : c.serves = true ↔ c.state = .ready ∨ c.state = .suspect := by
  rw [Channel.serves]
  cases c.state <;> simp

theorem Channel.pollAt_eq (c : Channel) : c.pollAt = c.lastActivity + 50 * c.cfg.pollInterval := by
  rw [Channel.pollAt, Nat.mul_comm]
  rfl

theorem Channel.work_serves {c : Channel} {now : Nat} (h : c.serves = true) :
    c.work now =
      match c.slot, c.queue with
      | some x, _ => some { work := .internal, kind := x.wire.1, payload := x.wire.2 }
      | none, f :: _ => some { work := .host, kind := f.kind, payload := f.payload }
      | none, [] =>
        if c.pollAt ≤ now then some { work := .poll, kind := Kind.poll, payload := c.lastEvent.toList } else none :=
  if_pos h

theorem Channel.work_away {c : Channel} {now : Nat} (h : c.serves = false) :
    c.work now =
      match c.state.probeInterval with
      | some d => if c.lastProbe + d ≤ now then some { work := .probe, kind := Kind.probe, payload := [] } else none
      | none => none :=
  if_neg (by simp [h])

theorem Channel.work_of_hasWork {c : Channel} {now : Nat} {j : WorkItem} (h : HasWork c now j) : c.work now = some j := by
  cases h with
  | slot x hserves hslot => rw [Channel.work_serves (c.serves_iff.2 hserves), hslot]
  | queue f fs hserves hslot hqueue => rw [Channel.work_serves (c.serves_iff.2 hserves), hslot, hqueue]
  | poll hserves hslot hqueue hdue =>
    rw [Channel.work_serves (c.serves_iff.2 hserves), hslot, hqueue]
    exact if_pos (c.pollAt_eq ▸ hdue)
  | probe haway =>
    have hnot : c.serves = false := by
      rw [Channel.serves]
      obtain ⟨h, -⟩ | ⟨h, -⟩ := haway <;> rw [h]
    rw [Channel.work_away hnot]
    obtain ⟨h, hdue⟩ | ⟨h, hdue⟩ := haway
    · rw [h]
      exact if_pos hdue
    · rw [h]
      exact if_pos hdue

theorem Channel.hasWork_of_work {c : Channel} {now : Nat} {j : WorkItem} (h : c.work now = some j) : HasWork c now j := by
  cases hserves : c.serves with
  | true =>
    have hstate := c.serves_iff.1 hserves
    rw [Channel.work_serves hserves] at h
    split at h
    · next x hslot =>
      cases h
      exact .slot x hstate hslot
    · next f fs hslot hqueue =>
      cases h
      exact .queue f fs hstate hslot hqueue
    · next hslot hqueue =>
      split at h
      · next hdue =>
        cases h
        exact .poll hstate hslot hqueue (c.pollAt_eq ▸ hdue)
      · exact nomatch h
  | false =>
    rw [Channel.work_away hserves] at h
    split at h
    · next d hinterval =>
      split at h
      · next hdue =>
        cases h
        refine .probe ?_
        unfold ChannelState.probeInterval at hinterval
        split at hinterval
        · next hstate =>
          cases hinterval
          exact .inl ⟨hstate, hdue⟩
        · next hstate =>
          cases hinterval
          exact .inr ⟨hstate, hdue⟩
        all_goals exact nomatch hinterval
      · exact nomatch h
    · exact nomatch h

theorem Channel.work_eq_none_iff {c : Channel} {now : Nat} : c.work now = none ↔ ∀ j, ¬ HasWork c now j := by
  rw [Option.eq_none_iff_forall_ne_some]
  exact forall_congr' fun j => not_congr ⟨Channel.hasWork_of_work, Channel.work_of_hasWork⟩

/-! ### The order of the channels (R134) -/

theorem State.nextWork_none {s : State} (h : ∀ n, n < 4 → ∀ j, ¬ HasWork (s.channel n) s.now j) : s.nextWork = none := by
  rw [State.nextWork, List.findSome?_eq_none_iff]
  intro n hn
  obtain ⟨i, -, rfl⟩ := List.mem_map.1 hn
  rw [Channel.work_eq_none_iff.2 (h _ (Nat.mod_lt _ (by decide)))]
  rfl

theorem State.nextWork_first {s : State} {i : Nat} {j : WorkItem} (hi : i < 4)
    (hbefore : ∀ k, k < i → ∀ x, ¬ HasWork (s.channel ((s.bridge.lastServed + 1 + k) % 4)) s.now x)
    (hwork : HasWork (s.channel ((s.bridge.lastServed + 1 + i) % 4)) s.now j) :
    s.nextWork = some ((s.bridge.lastServed + 1 + i) % 4, j) := by
  have hsplit : List.range 4 = List.range i ++ i :: (List.range' (i + 1) (3 - i)) := by
    interval_cases i <;> rfl
  rw [State.nextWork, servingOrder, hsplit, List.map_append, List.findSome?_append, List.map_cons, List.findSome?_cons,
    Channel.work_of_hasWork hwork, List.findSome?_eq_none_iff.2]
  · rfl
  · intro n hn
    obtain ⟨k, hk, rfl⟩ := List.mem_map.1 hn
    rw [Channel.work_eq_none_iff.2 (hbefore k (List.mem_range.1 hk))]
    rfl

/-! ### A transaction starts (R135) -/

theorem freshSequence_ne (last : Byte) (draws : Nat) : freshSequence last draws ≠ last := by
  intro h
  have hlt : Config.freeSequence draws % 255 < 255 := Nat.mod_lt _ (by decide)
  have hnat := congrArg BitVec.toNat h
  simp only [freshSequence, u8, BitVec.toNat_add, BitVec.toNat_ofNat, show BitVec.toNat (1 : Byte) = 1 from rfl] at hnat
  have := last.isLt
  omega

theorem airtime_eq (n : Nat) : airtime n = ((n + 7) * 10000 + 19199) / 19200 := by
  rw [airtime, show (n + Config.frameOverhead) * Config.busBits * 1000 = (n + 7) * 10000 from Nat.mul_assoc _ 10 1000]
  rfl

theorem State.started_startWork (s : State) (n : Nat) (j : WorkItem) : Started s n j (s.startWork n j) := by
  refine ⟨freshSequence (s.channel n).lastSeq s.draws, freshSequence_ne _ _, ?_⟩
  intro c state
  have hstate : (s.channel n).state.started = state := by
    cases hc : (s.channel n).state <;> simp [state, c, hc, ChannelState.started]
  constructor
  · have hlater : s.now < s.now + airtime j.payload.length := by
      rw [airtime_eq]
      omega
    exact decide_eq_true hlater
  · rw [State.startWork, State.modChannel_eq_set, ← airtime_eq, hstate]
    rfl

theorem State.looked_lookForWork (s : State) : Looked s s.lookForWork := by
  constructor
  · intro h
    rw [State.lookForWork]
    split
    · next hidle =>
      rw [State.nextWork_none (h.resolve_left fun hne => hne hidle)]
    all_goals rfl
  · intro i j hidle hi hbefore hwork
    rw [State.lookForWork, hidle]
    dsimp only
    rw [State.nextWork_first hi hbefore hwork]
    exact s.started_startWork _ j

/-- The scheduler's look as a command's only act. -/
theorem looks_of_idle {s : State} (hidle : s.bridge.line = .idle) : Looks s (.next (run s [.look])) := by
  have hlook : run s [.look] = s.lookForWork.conclude := Leads.run_eq (.done rfl) (by decide)
  obtain ⟨hnone, hfirst⟩ := s.looked_lookForWork
  rw [hlook]
  constructor
  · intro h
    rw [hnone (.inr h)]
  · intro i j hi hbefore hwork
    exact ⟨_, hfirst i j hidle hi hbefore hwork, rfl⟩

theorem run_look_of_busy {s : State} (hbusy : s.bridge.line ≠ .idle) : run s [.look] = s.conclude := by
  have hlook : run s [.look] = s.lookForWork.conclude := Leads.run_eq (.done rfl) (by decide)
  rw [hlook, s.looked_lookForWork.1 (.inl hbusy)]

end Sys2Proof.Machine

/-! ## When the scheduler looks, and host frames to peripherals (08, sections 8.3 to 8.5) -/

namespace Sys2Proof.Machine

/-- Settles O47: each command brings the clock to its deadline and has the scheduler look. -/
theorem schedulerLooks : Obligations.SchedulerLooks := by
  refine ⟨?_, ?_, ?_, ?_⟩
  · intro s since hguard
    have hexec : exec .guardEnd s =
        .next (run { s with now := max s.now (since + 2), bridge := { s.bridge with line := .idle } } [.look]) := by
      change execGuardEnd s = _
      rw [execGuardEnd, hguard]
      rfl
    rw [hexec]
    exact looks_of_idle rfl
  · intro s hnone
    change execGuardEnd s = _
    rw [execGuardEnd]
    split
    · next since h => exact absurd h (hnone since)
    all_goals rfl
  · intro s n c polled u
    have hexec : polled → exec (.pollDue n) s = .next (run u [.look]) := by
      intro h
      change execPollDue n s = _
      rw [execPollDue, if_pos (c.serves_iff.2 h), Channel.pollAt_eq]
      rfl
    refine ⟨fun h hidle => ?_, fun h hbusy => ?_, fun h => ?_⟩
    · rw [hexec h]
      exact looks_of_idle hidle
    · rw [hexec h, run_look_of_busy (by exact hbusy)]
    · change execPollDue n s = _
      rw [execPollDue, if_neg fun hserves => h (c.serves_iff.1 hserves)]
  · intro s n wait c probed u
    have hexec : probed → exec (.probeDue n) s = .next (run u [.look]) := by
      intro h
      change execProbeDue n s = _
      obtain ⟨hstate, hwait⟩ | ⟨hstate, hwait⟩ := h
      all_goals
        rw [execProbeDue, hstate]
        exact congrArg (fun d => Host.Outcome.next (run { s with now := max s.now (c.lastProbe + d) } [.look])) hwait.symm
    refine ⟨fun h hidle => ?_, fun h hbusy => ?_, fun hprobing hlost => ?_⟩
    · rw [hexec h]
      exact looks_of_idle hidle
    · rw [hexec h, run_look_of_busy (by exact hbusy)]
    · have hnone : (s.channel n).state.probeInterval = none := by
        unfold ChannelState.probeInterval
        split
        · next h => exact absurd h hprobing
        · next h => exact absurd h hlost
        all_goals rfl
      change execProbeDue n s = _
      rw [execProbeDue, hnone]

/-! ### The channel of a host node (R132) -/

theorem State.aliasChannel_none {s : State} {node : Byte} (h : ∀ n, n < 4 → (s.channel n).cfg.hostNode ≠ node.toNat) :
    s.aliasChannel node = none := by
  rw [State.aliasChannel, List.find?_eq_none]
  intro n hn
  simp [h n (List.mem_range.1 hn)]

theorem State.aliasChannel_first {s : State} {node : Byte} {n : Nat} (hn : n < 4) (hnode : 1 ≤ node.toNat)
    (halias : (s.channel n).cfg.hostNode = node.toNat) (hfirst : ∀ m, m < n → (s.channel m).cfg.hostNode ≠ node.toNat) :
    s.aliasChannel node = some n := by
  have hsplit : List.range 4 = List.range n ++ n :: List.range' (n + 1) (3 - n) := by
    interval_cases n <;> rfl
  rw [State.aliasChannel, hsplit, List.find?_append, List.find?_eq_none.2, List.find?_cons_of_pos]
  · rfl
  · simp [halias]
    omega
  · intro m hm
    simp [hfirst m (List.mem_range.1 hm)]

theorem protectedKinds_iff (kind : Byte) : protectedKinds.contains kind = true ↔ 0x60 ≤ kind.toNat ∧ kind.toNat ≤ 0x64 := by
  have hkinds : protectedKinds = [0x60, 0x61, 0x62, 0x63, 0x64] := rfl
  rw [hkinds, List.contains_iff_mem]
  simp only [List.mem_cons, List.not_mem_nil, or_false, ← BitVec.toNat_inj]
  change kind.toNat = 96 ∨ kind.toNat = 97 ∨ kind.toNat = 98 ∨ kind.toNat = 99 ∨ kind.toNat = 100 ↔ _
  omega

/-- A frame taken into its channel's queue, answered at once with early accept. -/
theorem State.queueFrame_eq (s : State) (n : Nat) (node kind seq : Byte) (p : List Byte) :
    s.queueFrame n node kind seq p =
      { (if (s.channel n).cfg.early = true then s.transmit (replyFrame node seq 0 0 []) else s) with
        bridge :=
          { s.bridge with
            channels := s.bridge.channels.set n
              { s.channel n with
                queue := (s.channel n).queue ++ [{ hostNode := node, kind := kind, seq := seq, payload := p, queuedAt := s.now }] } } } := by
  have hearly : ∀ f : Channel → Channel, (∀ c, (f c).cfg = c.cfg) → ((s.modChannel n f).channel n).cfg.early = (s.channel n).cfg.early :=
    fun f hf => State.channel_modChannel_of (P := fun c => c.cfg.early = (s.channel n).cfg.early)
      (fun _ h => (congrArg ChannelEntry.early (hf _)).trans h) rfl
  rw [State.queueFrame]
  dsimp only
  rw [hearly (fun c => { c with queue := c.queue ++ [_] }) fun c => rfl, State.modChannel_eq_set]
  split <;> rfl

/-- Settles O46: the refusals of a host frame in their order, and the scheduler's look behind a queued one. -/
theorem peripheralFrameTaken : Obligations.PeripheralFrameTaken := by
  constructor
  · intro s node kind seq p hother
    change execPeripheralFrame node kind seq p s = _
    exact if_pos hother
  · intro s node kind seq p hlow hhigh out answered
    have hexec : out =
        match s.frameTaken.aliasChannel node with
        | none => .next (s.frameTaken.transmit (replyFrame node seq 2 0 []))
        | some n =>
          match (s.frameTaken.channel n).refuses kind with
          | some why => .next (s.frameTaken.transmit (replyFrame node seq 1 why.code []))
          | none => .next (run (s.frameTaken.queueFrame n node kind seq p) [.look]) := by
      change execPeripheralFrame node kind seq p s = _
      exact if_neg (by omega)
    constructor
    · intro hnone
      rw [hexec, State.aliasChannel_none (by exact hnone)]
      rfl
    · intro n hn halias hfirst c kept c' t u
      rw [State.aliasChannel_first hn hlow (by exact halias) (by exact hfirst)] at hexec
      have hkept : kept ↔ (c.cfg.role ≠ .passive ∧ protectedKinds.contains kind) := by
        rw [protectedKinds_iff]
      have hrefuses : ∀ why, c.refuses kind = some why → out = .next (answered 1 why.code) := by
        intro why hwhy
        rw [hexec]
        dsimp only
        rw [show (s.frameTaken.channel n).refuses kind = _ from hwhy]
        rfl
      refine ⟨?_, ?_, ?_, ?_⟩
      · intro h
        exact hrefuses .guarded (if_pos (hkept.1 h))
      · intro h hlost
        exact hrefuses .channelLost ((if_neg fun h' => h (hkept.2 h')).trans (if_pos hlost))
      · intro h hlost hfull
        exact hrefuses .queueFull ((if_neg fun h' => h (hkept.2 h')).trans ((if_neg hlost).trans (if_pos hfull)))
      · intro h hlost hroom
        have hnone : c.refuses kind = none :=
          (if_neg fun h' => h (hkept.2 h')).trans ((if_neg hlost).trans (if_neg (Nat.not_le.2 hroom)))
        have hqueued : s.frameTaken.queueFrame n node kind seq p = u := State.queueFrame_eq _ _ _ _ _ _
        have hout : out = .next (run u [.look]) := by
          rw [hexec]
          dsimp only
          rw [show (s.frameTaken.channel n).refuses kind = _ from hnone]
          dsimp only
          rw [hqueued]
        constructor
        · intro hbusy
          rw [hout, run_look_of_busy (by exact hbusy)]
        · intro hidle
          rw [hout]
          exact looks_of_idle hidle

end Sys2Proof.Machine

/-! ## A missed transaction (08, sections 8.4 to 8.6) -/

namespace Sys2Proof.Machine

/-! ### A channel put in its place -/

/-- The channel `n` is now `c`. -/
def State.putChannel (s : State) (n : Nat) (c : Channel) : State :=
  { s with bridge := { s.bridge with channels := s.bridge.channels.set n c } }

theorem State.modChannel_eq_put (s : State) (n : Nat) (f : Channel → Channel) :
    s.modChannel n f = s.putChannel n (f (s.channel n)) := s.modChannel_eq_set n f

theorem State.putChannel_put (s : State) (n : Nat) (c d : Channel) : (s.putChannel n c).putChannel n d = s.putChannel n d := by
  rw [State.putChannel, State.putChannel, State.putChannel, List.set_set]

theorem State.putChannel_self (s : State) (n : Nat) : s.putChannel n (s.channel n) = s :=
  congrArg (fun l => { s with bridge := { s.bridge with channels := l } }) (List.set_getD_self _ _ _)

theorem State.channel_putChannel {s : State} {n : Nat} (h : n < s.bridge.channels.length) (c : Channel) :
    (s.putChannel n c).channel n = c := by
  rw [State.channel, State.putChannel, List.getD_eq_getElem?_getD]
  simp [h]

/-- A channel that is not DISABLED is one of the table's. -/
theorem State.channel_lt {s : State} {n : Nat} (h : (s.channel n).state ≠ .disabled) : n < s.bridge.channels.length := by
  by_contra hnot
  refine h ?_
  rw [State.channel, List.getD_eq_default _ _ (Nat.le_of_not_lt hnot)]
  rfl

/-! ### What a host receives for a frame that fails (R133) -/

/-- The Machine Link behind the failure of a host frame. -/
def LinkUnit.hostFailed (l : LinkUnit) (early : Bool) (stamp n : Nat) (why : Reason) (f : HostFrame) : LinkUnit :=
  if early then
    l.push { kind := .peripheralTimeout, stamp := stamp, subject := some n, values := [f.kind.toNat, f.seq.toNat, why.code] }
  else { l with sent := l.sent ++ [{ node := f.hostNode, kind := 0x80, seq := f.seq, payload := [1, u8 why.code] }] }

theorem hostFails_eq (s : State) (n : Nat) (f : HostFrame) (why : Reason) :
    hostFails s n f why = { s with link := s.link.hostFailed (s.channel n).cfg.early s.stamp n why f } := by
  rw [hostFails, LinkUnit.hostFailed]
  split <;> rfl

theorem State.failHost_eq_hostFails (s : State) (n : Nat) (f : HostFrame) (why : Reason) : s.failHost n f why = hostFails s n f why :=
  rfl

theorem foldl_hostFails_eq (s : State) (n : Nat) (why : Reason) (fs : List HostFrame) :
    fs.foldl (fun s f => hostFails s n f why) s =
      { s with link := fs.foldl (fun l f => l.hostFailed (s.channel n).cfg.early s.stamp n why f) s.link } := by
  induction fs generalizing s with
  | nil => rfl
  | cons f fs ih =>
    rw [List.foldl_cons, ih, hostFails_eq]
    rfl

theorem State.failAll_eq_foldl (s : State) (n : Nat) (why : Reason) (fs : List HostFrame) :
    s.failAll n why fs = fs.foldl (fun s f => hostFails s n f why) s := by
  induction fs generalizing s with
  | nil => rfl
  | cons f fs ih => exact ih _

/-! ### The channel of a miss (R137) -/

theorem Channel.missed_await {c : Channel} {y : Standing} (now : Nat) (h : c.state = .await y)
    (hbelow : min 15 (c.misses + 1) < c.cfg.missLimit) :
    c.missed now = ({ c with misses := min 15 (c.misses + 1), state := .suspect }, false) := by
  rw [Channel.missed, h]
  exact if_neg (Nat.not_le.2 hbelow)

theorem Channel.missed_probing {c : Channel} (now : Nat) (h : c.state = .probing)
    (hbelow : min 15 (c.misses + 1) < c.cfg.missLimit) :
    c.missed now = ({ c with misses := min 15 (c.misses + 1), lastProbe := now }, false) := by
  rw [Channel.missed, h]
  exact if_neg (Nat.not_le.2 hbelow)

theorem Channel.missed_lost {c : Channel} (now : Nat) (h : c.state = .lost) : c.missed now = ({ c with lastProbe := now }, false) := by
  rw [Channel.missed, h]

theorem Channel.missed_atLimit {c : Channel} (now : Nat) (h : (∃ y, c.state = .await y) ∨ c.state = .probing)
    (hlimit : c.cfg.missLimit ≤ min 15 (c.misses + 1)) :
    c.missed now = ({ c with misses := min 15 (c.misses + 1) }, true) := by
  rw [Channel.missed]
  obtain ⟨y, h⟩ | h := h
  · rw [h]
    exact if_pos hlimit
  · rw [h]
    exact if_pos hlimit

/-! ### The transaction that missed (R137, R138) -/

/-- The channel `n` is now `c` and the line in GUARD. -/
def State.guarded (s : State) (n : Nat) (c : Channel) : State :=
  { s with bridge := { s.bridge with channels := s.bridge.channels.set n c, line := .guarding s.now } }

theorem State.channel_guarded {s : State} {n : Nat} (h : n < s.bridge.channels.length) (c : Channel) :
    (s.guarded n c).channel n = c := State.channel_putChannel h c

/-- The host frame that was on the bus, taken out of its channel's queue, and the frames behind it (R137; log 25). -/
def OnBus (c : Channel) (x : Txn) (onBus : Option HostFrame) (fs : List HostFrame) : Prop :=
  x.work ≠ .host ∧ onBus = none ∧ fs = c.queue ∨ x.work = .host ∧ ∃ f, onBus = some f ∧ c.queue = f :: fs

/-- The frame that was on the bus fails last. -/
def State.failOnBus (s : State) (n : Nat) : Option HostFrame → State
  | some f => hostFails s n f .timeout
  | none => s

theorem State.failOnBus_enterGuard (s : State) (n : Nat) (onBus : Option HostFrame) :
    (s.failOnBus n onBus).enterGuard = s.enterGuard.failOnBus n onBus := by
  cases onBus with
  | none => rfl
  | some f =>
    rw [State.failOnBus, hostFails_eq, State.failOnBus, hostFails_eq]
    rfl

theorem State.missWork_eq {s : State} {x : Txn} {onBus : Option HostFrame} {fs : List HostFrame} {c : Channel} {lost : Bool}
    (hin : x.channel < s.bridge.channels.length) (hbus : OnBus (s.channel x.channel) x onBus fs)
    (hmissed : ({ s.channel x.channel with queue := fs } : Channel).missed s.now = (c, lost)) :
    s.missWork x =
      ((if lost = true then (s.putChannel x.channel c).loseChannel x.channel else s.putChannel x.channel c).failOnBus x.channel
        onBus).enterGuard := by
  rw [State.missWork]
  obtain ⟨hwork, rfl, rfl⟩ | ⟨hwork, f, rfl, hqueue⟩ := hbus
  · have hmissed' : (s.channel x.channel).missed s.now = (c, lost) := hmissed
    simp only [if_neg hwork, hmissed', State.modChannel_eq_put]
    rfl
  · have hdequeue : s.dequeue x.channel = s.putChannel x.channel { s.channel x.channel with queue := fs } := by
      rw [State.dequeue, State.modChannel_eq_put, hqueue]
      rfl
    simp only [if_pos hwork, hqueue, List.head?_cons, hdequeue, State.channel_putChannel hin,
      show (s.putChannel x.channel { s.channel x.channel with queue := fs }).now = s.now from rfl, hmissed,
      State.modChannel_eq_put, State.putChannel_put]
    rfl

/-- Below the miss limit, and in LOST, only the channel changes, and a host frame that was on the bus fails. -/
theorem State.missWork_stays {s : State} {x : Txn} {onBus : Option HostFrame} {fs : List HostFrame} {c : Channel}
    (hin : x.channel < s.bridge.channels.length) (hbus : OnBus (s.channel x.channel) x onBus fs)
    (hmissed : ({ s.channel x.channel with queue := fs } : Channel).missed s.now = (c, false)) :
    s.missWork x = (s.guarded x.channel c).failOnBus x.channel onBus := by
  rw [State.missWork_eq hin hbus hmissed, State.failOnBus_enterGuard]
  rfl

/-- What a channel that enters LOST hands back (R138). -/
def CreditUnit.channelGone (u : CreditUnit) (c : Channel) (settles : List Settlement) : CreditUnit :=
  { u with
    settlements := u.settlements ++ settles
    answer := if c.cfg.role = .noteAcceptor then none else u.answer
    deny := if c.cfg.role = .cardReader then false else u.deny }

theorem CreditUnit.discardHold_eq (u : CreditUnit) (c : Channel) (settles : List Settlement) :
    CreditUnit.discardHold { u with settlements := u.settlements ++ settles } c.cfg.role = u.channelGone c settles := by
  rw [CreditUnit.channelGone]
  cases c.cfg.role <;> rfl

/-- At the miss limit the channel is LOST (R138). -/
theorem State.missWork_loses {s : State} {x : Txn} {onBus : Option HostFrame} {fs : List HostFrame} {misses : Nat}
    (hin : x.channel < s.bridge.channels.length) (hbus : OnBus (s.channel x.channel) x onBus fs)
    (hmissed : ({ s.channel x.channel with queue := fs } : Channel).missed s.now =
      ({ s.channel x.channel with queue := fs, misses := misses }, true)) :
    s.missWork x =
      State.failOnBus
        (State.raise
          { fs.foldl (fun s f => hostFails s x.channel f .channelLost)
              (s.guarded x.channel
                { s.channel x.channel with misses := misses, state := .lost, slot := none, queue := [], lastProbe := s.now })
            with
            credit := s.credit.channelGone (s.channel x.channel) (slotSettlement (s.channel x.channel).slot) }
          .channelLost (some x.channel)
          [(s.channel x.channel).cfg.node, fs.length, slotOutcome (s.channel x.channel).slot])
        x.channel onBus := by
  rw [State.missWork_eq hin hbus hmissed, if_pos rfl, State.loseChannel, State.failOnBus_enterGuard]
  refine congrArg (fun t : State => t.failOnBus x.channel onBus) ?_
  simp only [State.channel_putChannel hin, State.modChannel_eq_put, State.putChannel_put, State.failAll_eq_foldl,
    foldl_hostFails_eq, State.channel_guarded hin, ← CreditUnit.discardHold_eq]
  rfl

/-- A miss, by what the running record of its channel says (R137, R138). -/
theorem missed_missWork {s : State} {x : Txn} {out : Host.Outcome State Fault Refusal}
    (hout : out = .next (s.missWork x).conclude) : Missed s x out := by
  have hprobe : ∀ {w : Work}, w = .probe → w ≠ .host := by
    rintro w rfl
    nofun
  have hquiet : ∀ c, (s.channel x.channel).state ≠ .disabled → x.work ≠ .host →
      (s.channel x.channel).missed s.now = (c, false) → out = .next (s.guarded x.channel c).conclude := by
    intro c hstate hwork hmissed
    rw [hout, State.missWork_stays (State.channel_lt hstate) (onBus := none) (.inl ⟨hwork, rfl, rfl⟩) hmissed]
    rfl
  refine ⟨?_, ?_, ?_, ?_, ?_⟩
  · rintro ⟨y, hstate⟩ hbelow hwork
    exact hquiet _ (by rw [hstate]; nofun) hwork (Channel.missed_await s.now hstate hbelow)
  · rintro f fs ⟨y, hstate⟩ hbelow hwork hqueue
    rw [hout, State.missWork_stays (State.channel_lt (by rw [hstate]; nofun)) (.inr ⟨hwork, f, rfl, hqueue⟩)
      (Channel.missed_await (c := { s.channel x.channel with queue := fs }) s.now hstate hbelow)]
    rfl
  · intro hstate hbelow hwork
    exact hquiet _ (by rw [hstate]; nofun) (hprobe hwork) (Channel.missed_probing s.now hstate hbelow)
  · intro hstate hwork
    exact hquiet _ (by rw [hstate]; nofun) (hprobe hwork) (Channel.missed_lost s.now hstate)
  · intro onBus fs settles slotCode hstate hlimit hbus hslot u failed lost
    have hin : x.channel < s.bridge.channels.length := State.channel_lt (by
      obtain ⟨y, h⟩ | h := hstate <;> rw [h] <;> nofun)
    have hcode : settles = slotSettlement (s.channel x.channel).slot ∧ slotCode = slotOutcome (s.channel x.channel).slot := by
      obtain ⟨h, rfl, rfl⟩ | ⟨r, h, rfl, rfl⟩ | ⟨y, h, hno, rfl, rfl⟩ := hslot
      · rw [h]
        exact ⟨rfl, rfl⟩
      · rw [h]
        exact ⟨rfl, rfl⟩
      · rw [h]
        cases y with
        | settle r => exact absurd rfl (hno r)
        | stack | giveBack | deny | acceptMask m => exact ⟨rfl, rfl⟩
    obtain ⟨rfl, rfl⟩ := hcode
    rw [hout, State.missWork_loses hin hbus (Channel.missed_atLimit (c := { s.channel x.channel with queue := fs }) s.now hstate hlimit)]
    cases onBus <;> rfl

/-! ### The commands -/

/-- Settles O50, by the miss of the transaction on the bus. -/
theorem responseMisses : Obligations.ResponseMisses := by
  refine ⟨?_, ?_, ?_, ?_⟩
  · intro s x hwaiting
    refine missed_missWork ?_
    change execResponseTimeout s = _
    rw [execResponseTimeout, hwaiting]
    dsimp only
    rw [run_nil, Nat.mul_comm]
    rfl
  · intro s hnone
    constructor
    · change execResponseTimeout s = _
      rw [execResponseTimeout]
      split
      · next x h => exact absurd h (hnone x)
      all_goals rfl
    · rw [State.de]
      split
      · next x h => exact absurd h (hnone x)
      all_goals rfl
  · intro s x hwaiting
    rw [State.de, hwaiting]
    exact decide_eq_true_iff
  · intro s heard node kind seq length
    exact ⟨rfl, rfl⟩

end Sys2Proof.Machine

/-! ## A stuck line (08, section 8.9) -/

namespace Sys2Proof.Machine

/-! ### The end of a command and the line -/

theorem State.pumpNotes_line (s : State) : s.pumpNotes.1.bridge.line = s.bridge.line := by
  unfold State.pumpNotes
  repeat' split
  all_goals rfl

theorem State.pumpCards_line (s : State) : s.pumpCards.1.bridge.line = s.bridge.line := by
  unfold State.pumpCards
  repeat' split
  all_goals rfl

/-- With the line not IDLE the end of a command starts nothing. -/
theorem State.conclude_line {s : State} (h : s.bridge.line ≠ .idle) : s.conclude.bridge.line = s.bridge.line := by
  have hmask : s.reportCredit.evaluateMask.bridge = s.bridge := by
    rw [State.evaluateMask_touches, State.reportCredit_touches]
  have hpumped : s.reportCredit.evaluateMask.pumpNotes.1.pumpCards.1.bridge.line = s.bridge.line := by
    rw [State.pumpCards_line, State.pumpNotes_line, hmask]
  unfold State.conclude
  dsimp only
  split
  · rw [(State.looked_lookForWork _).1 (.inl (by rw [hpumped]; exact h)), hpumped]
  · exact hpumped

/-! ### The channels at a recovery (R144) -/

theorem Channel.recovered_eq (c : Channel) (now : Nat) :
    c.recovered now =
      if c.state = .disabled then c
      else
        { c with
          state := .probing, misses := 0, lastEvent := none, lastProbe := now
          slot := match c.slot with
            | some (.settle r) => some (.settle r)
            | _ => none } := by
  have hslot : keepSettle c.slot = match c.slot with
      | some (.settle r) => some (.settle r)
      | _ => none := by
    cases hs : c.slot with
    | none => rfl
    | some x => cases x <;> rfl
  rw [Channel.recovered, Channel.reprobe, hslot]
  cases hstate : c.state <;> simp

theorem State.cutTransaction_none {s : State} (h : s.bridge.line = .idle ∨ ∃ since, s.bridge.line = .guarding since) :
    s.cutTransaction = (s, 4) := by
  rw [State.cutTransaction]
  obtain h | ⟨since, h⟩ := h <;> rw [h]

theorem State.cutTransaction_quiet {s : State} {x : Txn} (h : s.bridge.line = .waiting x) (hwork : x.work ≠ .host) :
    s.cutTransaction = (s, x.channel) := by
  rw [State.cutTransaction, h]
  dsimp only
  rw [if_neg hwork]

theorem State.cutTransaction_host {s : State} {x : Txn} {f : HostFrame} {fs : List HostFrame} (h : s.bridge.line = .waiting x)
    (hwork : x.work = .host) (hqueue : (s.channel x.channel).queue = f :: fs) :
    s.cutTransaction =
      (hostFails (s.putChannel x.channel { s.channel x.channel with queue := fs }) x.channel f .timeout, x.channel) := by
  rw [State.cutTransaction, h]
  dsimp only
  rw [if_pos hwork, State.failHead, hqueue, List.head?_cons]
  dsimp only
  rw [State.dequeue, State.modChannel_eq_put, hqueue]
  rfl

/-- Settles O51, by what the line was doing when the break was declared, and by which end of a recovery comes first. -/
theorem stuckLineRecovers : Obligations.StuckLineRecovers := by
  refine ⟨?_, ?_, ?_⟩
  · intro s k cut hcut now probing
    obtain ⟨v, hv⟩ : ∃ v, v = s.reach 20 := ⟨_, rfl⟩
    have hbusy : ∀ r, s.bridge.line ≠ .recovery r := by
      intro r hr
      obtain ⟨⟨h | ⟨since, h⟩, -⟩ | ⟨x, h, -⟩, -⟩ | ⟨x, f, fs, h, -⟩ := hcut <;> exact nomatch hr.symm.trans h
    have hexec : exec .busStuck s = .next v.declareStuck.conclude := by
      change execBusStuck s = _
      rw [execBusStuck]
      split
      · next r h => exact absurd h (hbusy r)
      all_goals rw [hv]; rfl
    have htransaction : v.cutTransaction = (cut, k) := by
      obtain ⟨⟨h, rfl⟩ | ⟨x, h, hwork, rfl⟩, rfl⟩ | ⟨x, f, fs, h, hwork, rfl, hqueue, rfl⟩ := hcut
      · rw [hv]
        exact State.cutTransaction_none h
      · rw [hv]
        exact State.cutTransaction_quiet h hwork
      · rw [hv]
        exact State.cutTransaction_host h hwork hqueue
    have hkept : cut.now = now ∧ cut.credit = s.credit := by
      obtain ⟨-, rfl⟩ | ⟨x, f, fs, -, -, -, -, rfl⟩ := hcut
      · exact ⟨rfl, rfl⟩
      · rw [hostFails_eq]
        exact ⟨rfl, rfl⟩
    have hprobing : (fun c : Channel => c.recovered now) = probing := funext fun c => c.recovered_eq now
    have hstuck : v.declareStuck =
        State.raise
          { cut with
            credit := { s.credit with answer := none, deny := false }
            bridge :=
              { cut.bridge with
                channels := cut.bridge.channels.map probing
                line := .recovery { breakFrom := now - 20, prstFrom := now, releasedAt := none, pulsing := true } } }
          .busStuck none [1, k] := by
      have hnow : v.now = cut.now := by rw [hv, hkept.1]; rfl
      rw [State.declareStuck, htransaction, hnow, ← hprobing, ← hkept.1, ← hkept.2]
      rfl
    refine ⟨_, hexec, ?_, by rw [hstuck]⟩
    have hline : v.declareStuck.bridge.line =
        .recovery { breakFrom := now - 20, prstFrom := now, releasedAt := none, pulsing := true } := by rw [hstuck]; rfl
    rw [State.prst, State.conclude_line (by rw [hline]; nofun), hline]
  · intro s hnone
    constructor
    · change execPrstPulseEnd s = _
      rw [execPrstPulseEnd]
      split
      · next r h => exact absurd h (hnone r)
      all_goals rfl
    · change execReceiveLineReleased s = _
      rw [execReceiveLineReleased]
      split
      · next r h => exact absurd h (hnone r)
      all_goals rfl
  · intro s r hline on ended pulse
    have hpulse : exec .prstPulseEnd s =
        if r.pulsing then .next ((s.reach (r.prstFrom + 100)).recover { r with pulsing := false }) else .next s := by
      change execPrstPulseEnd s = _
      rw [execPrstPulseEnd, hline]
      rfl
    have hreleased : exec .receiveLineReleased s =
        if r.releasedAt.isNone then .next (s.recover { r with releasedAt := some s.now }) else .next s := by
      change execReceiveLineReleased s = _
      rw [execReceiveLineReleased, hline]
    refine ⟨?_, ?_, ?_, ?_, ?_, ?_, ?_⟩
    · change execBusStuck s = _
      rw [execBusStuck, hline]
    · intro hpulsing hnone
      rw [hpulse, if_pos hpulsing, State.recover, hnone]
      rfl
    · intro y hpulsing hsome
      rw [hpulse, if_pos hpulsing, State.recover, hsome]
      rfl
    · intro hover
      rw [hpulse, if_neg (by simp [hover])]
    · intro hpulsing hnone
      rw [hreleased, if_pos (by rw [hnone]; rfl), State.recover, hpulsing]
      rfl
    · intro hover hnone
      rw [hreleased, if_pos (by rw [hnone]; rfl), State.recover, hover]
      rfl
    · intro hsome
      rw [hreleased, if_neg fun h => hsome (Option.isNone_iff_eq_none.1 h)]

end Sys2Proof.Machine

/-! ## A frame completed on the bus (08, sections 8.4 to 8.8) -/

namespace Sys2Proof.Machine

/-! ### The settlement listed first (R37) -/

/-- The settlement listed first for a channel moved to its slot, if it can be. -/
def State.headMoved (s : State) (n : Nat) : State := (s.moveHead n).1

theorem State.moveHead_eq (s : State) (n : Nat) :
    s.moveHead n =
      match s.credit.settlements.find? fun r => r.channel = n with
      | some r =>
        if (s.channel n).isReady && (s.channel n).slot.isNone && !s.credit.deny then
          ({ s.putChannel n { s.channel n with slot := some (.settle r) } with
              credit := { s.credit with settlements := s.credit.settlements.eraseP fun r => r.channel = n } },
            [.look])
        else (s, [])
      | none => (s, []) := by
  rw [State.moveHead]
  cases s.credit.settlements.find? fun r => r.channel = n with
  | none => rfl
  | some r =>
    dsimp only
    by_cases hcan : ((s.channel n).isReady && (s.channel n).slot.isNone && !s.credit.deny) = true
    · rw [if_pos hcan, if_pos hcan, State.fillSlot, State.modChannel_eq_put]
      rfl
    · rw [if_neg hcan, if_neg hcan]

theorem State.headMoved_stays {s : State} {n : Nat}
    (h : (s.channel n).slot ≠ none ∨ s.credit.deny = true ∨ ∀ y ∈ s.credit.settlements, y.channel ≠ n) :
    s.moveHead n = (s, []) := by
  rw [State.moveHead_eq]
  split
  · next r hfind =>
    refine if_neg ?_
    obtain hslot | hdeny | hnone := h
    · cases hs : (s.channel n).slot with
      | none => exact absurd hs hslot
      | some y => simp
    · simp [hdeny]
    · exact absurd (by simpa using List.find?_some hfind) (hnone r (List.mem_of_find?_eq_some hfind))
  · rfl

theorem State.headMoved_moves {s : State} {n : Nat} {r : Settlement} {ahead behind : List Settlement}
    (hready : (s.channel n).state = .ready) (hlist : s.credit.settlements = ahead ++ r :: behind) (hr : r.channel = n)
    (hahead : ∀ y ∈ ahead, y.channel ≠ n) (hslot : (s.channel n).slot = none) (hdeny : s.credit.deny = false) :
    s.moveHead n =
      ({ s.putChannel n { s.channel n with slot := some (.settle r) } with
          credit := { s.credit with settlements := ahead ++ behind } },
        [.look]) := by
  have hfind : (s.credit.settlements.find? fun r => r.channel = n) = some r := by
    rw [hlist, List.find?_append, List.find?_eq_none.2 (by simpa using hahead), List.find?_cons_of_pos (by simpa using hr)]
    rfl
  have herase : (s.credit.settlements.eraseP fun r => r.channel = n) = ahead ++ behind := by
    rw [hlist, List.eraseP_append_right _ (by simpa using hahead), List.eraseP_cons_of_pos (by simpa using hr)]
  rw [State.moveHead_eq, hfind]
  dsimp only
  rw [if_pos (by simp [Channel.isReady, hready, hslot, hdeny]), herase]

theorem headMoved_spec {s : State} {n : Nat} (hready : (s.channel n).state = .ready) : HeadMoved n s (s.headMoved n) := by
  constructor
  · intro r ahead behind hlist hr hahead hslot hdeny
    rw [State.headMoved, State.headMoved_moves hready hlist hr hahead hslot hdeny]
    rfl
  · intro h
    rw [State.headMoved, State.headMoved_stays h]

/-- The acts of a moved head find the line busy. -/
theorem Leads.moveSettlement {s : State} (n : Nat) (hbusy : s.bridge.line ≠ .idle) :
    Leads 2 [.moveSettlement n] s (s.headMoved n) := by
  have hmoved : (s.headMoved n).bridge.line = s.bridge.line := by
    rw [State.headMoved, State.moveHead_eq]
    repeat' split
    all_goals rfl
  have hlook : Leads 1 [.look] (s.headMoved n) (s.headMoved n) := by
    refine .done ?_
    change (State.lookForWork _, _) = _
    rw [(State.looked_lookForWork _).1 (.inl (by rw [hmoved]; exact hbusy))]
  have hacts : (s.moveHead n).2 = [] ∨ (s.moveHead n).2 = [.look] := by
    rw [State.moveHead_eq]
    repeat' split
    · exact .inr rfl
    all_goals exact .inl rfl
  obtain h | h := hacts
  · exact (Leads.done (a := .moveSettlement n) (Prod.ext rfl h)).mono (by decide)
  · exact .act (a := .moveSettlement n) (u := s.headMoved n) (new := [.look]) (Prod.ext rfl h) hlook

/-- A second look at the listed settlements finds nothing more to move. -/
theorem State.headMoved_headMoved {s : State} {n : Nat} (hin : n < s.bridge.channels.length) :
    (s.headMoved n).headMoved n = s.headMoved n := by
  have hstays : ∀ t : State, t.moveHead n = (t, []) → t.headMoved n = t := fun t h => by rw [State.headMoved, h]
  cases hfind : s.credit.settlements.find? fun r => r.channel = n with
  | none =>
    have h : s.headMoved n = s := hstays s (State.headMoved_stays (.inr (.inr (by simpa using List.find?_eq_none.1 hfind))))
    rw [h, h]
  | some r =>
    by_cases hcan : ((s.channel n).isReady && (s.channel n).slot.isNone && !s.credit.deny) = true
    · have hmoved : s.headMoved n =
          { s.putChannel n { s.channel n with slot := some (.settle r) } with
            credit := { s.credit with settlements := s.credit.settlements.eraseP fun r => r.channel = n } } := by
        rw [State.headMoved, State.moveHead_eq, hfind]
        exact congrArg Prod.fst (if_pos hcan)
      refine hstays _ (State.headMoved_stays (.inl ?_))
      rw [hmoved]
      change ((s.putChannel n { s.channel n with slot := some (.settle r) }).channel n).slot ≠ none
      rw [State.channel_putChannel hin]
      nofun
    · have h : s.headMoved n = s := by
        refine hstays s ?_
        rw [State.moveHead_eq, hfind]
        exact if_neg hcan
      rw [h, h]

/-! ### Becoming READY (R130) -/

/-- What the Credit Session Unit does when a channel has become READY. -/
def State.toldReady (s : State) (n : Nat) : State :=
  match (s.channel n).cfg.role with
  | .noteAcceptor => { s with credit := { s.credit with maskDue := true } }
  | .cardReader => s.headMoved n
  | .passive => s

theorem becomesReady_toldReady {s : State} {n : Nat} (hready : (s.channel n).state = .ready) :
    BecomesReady n s (s.toldReady n) := by
  unfold BecomesReady State.toldReady
  cases (s.channel n).cfg.role with
  | noteAcceptor => exact rfl
  | cardReader => exact headMoved_spec hready
  | passive => exact rfl

theorem Leads.becameReady {s : State} (n : Nat) (hbusy : s.bridge.line ≠ .idle) :
    Leads 3 [.becameReady n] s (s.toldReady n) := by
  cases hrole : (s.channel n).cfg.role with
  | noteAcceptor =>
    refine (Leads.done ?_).mono (by decide)
    change s.channelReady n = _
    rw [State.channelReady, State.toldReady, hrole]
    rfl
  | cardReader =>
    refine Leads.act (new := [.moveSettlement n]) (u := s) ?_ ?_
    · change s.channelReady n = _
      rw [State.channelReady, hrole]
    · rw [State.toldReady, hrole]
      exact .moveSettlement n hbusy
  | passive =>
    refine (Leads.done ?_).mono (by decide)
    change s.channelReady n = _
    rw [State.channelReady, State.toldReady, hrole]

theorem State.headMoved_enterGuard (s : State) (n : Nat) : s.enterGuard.headMoved n = (s.headMoved n).enterGuard := by
  rw [State.headMoved, State.headMoved, State.moveHead_eq, State.moveHead_eq, show s.enterGuard.credit = s.credit from rfl,
    show s.enterGuard.channel n = s.channel n from rfl]
  cases s.credit.settlements.find? fun r => r.channel = n with
  | none => rfl
  | some r =>
    dsimp only
    by_cases hcan : ((s.channel n).isReady && (s.channel n).slot.isNone && !s.credit.deny) = true
    · rw [if_pos hcan, if_pos hcan]
      rfl
    · rw [if_neg hcan, if_neg hcan]

theorem State.toldReady_enterGuard (s : State) (n : Nat) : s.enterGuard.toldReady n = (s.toldReady n).enterGuard := by
  rw [State.toldReady, State.toldReady, show s.enterGuard.channel n = s.channel n from rfl]
  cases (s.channel n).cfg.role with
  | noteAcceptor => rfl
  | cardReader => exact s.headMoved_enterGuard n
  | passive => rfl

/-! ### A good reply (R136, R139) -/

/-- A frame that is no reply to the transaction on the bus is discarded. -/
theorem exec_busFrame_discarded {s : State} {f : Frame} {check : Word}
    (h : ∀ x, s.bridge.line = .waiting x → f.node ≠ x.node ∨ f.seq ≠ x.seq) :
    exec (.busFrameReceived f check) s = .next s.busHunting := by
  have hnone : s.busHunting.judgeBusFrame f check = none := by
    rw [State.judgeBusFrame, show s.busHunting.bridge.line = s.bridge.line from rfl]
    split
    · next x hx => exact if_pos (h x hx)
    all_goals rfl
  change execBusFrameReceived f check s = _
  rw [execBusFrameReceived, hnone]

theorem exec_busFrame_missed {s : State} {f : Frame} {check : Word} {x : Txn} (hx : s.bridge.line = .waiting x)
    (hnode : f.node = x.node) (hseq : f.seq = x.seq) (hcheck : check ≠ checkOf f) :
    exec (.busFrameReceived f check) s = .next (s.busHunting.missWork x).conclude := by
  have hjudged : s.busHunting.judgeBusFrame f check = some (s.busHunting.missWork x, []) := by
    rw [State.judgeBusFrame, show s.busHunting.bridge.line = s.bridge.line from rfl, hx]
    dsimp only
    rw [if_neg (by simp [hnode, hseq]), if_neg hcheck]
  change execBusFrameReceived f check s = _
  rw [execBusFrameReceived, hjudged]
  rfl

theorem exec_busFrame_good {s : State} {f : Frame} {x : Txn} (hx : s.bridge.line = .waiting x)
    (hnode : f.node = x.node) (hseq : f.seq = x.seq) :
    exec (.busFrameReceived f (checkOf f)) s = .next (runDoing (s.busHunting.goodReply x f)) := by
  have hjudged : s.busHunting.judgeBusFrame f (checkOf f) = some (s.busHunting.goodReply x f) := by
    rw [State.judgeBusFrame, show s.busHunting.bridge.line = s.bridge.line from rfl, hx]
    dsimp only
    rw [if_neg (by simp [hnode, hseq]), if_pos rfl]
  change execBusFrameReceived f (checkOf f) s = _
  rw [execBusFrameReceived, hjudged]

/-- A channel in AWAIT that has its reply. -/
def Channel.replied (c : Channel) (now : Nat) : Channel := { c with state := .ready, misses := 0, lastActivity := now }

/-- What a good reply to a channel in AWAIT leaves, `w`, before the line is guarded. -/
theorem State.goodReply_await {s w : State} {x : Txn} {f : Frame} {y : Standing} (hevent : eventKinds.contains f.kind = false)
    (hstate : (s.channel x.channel).state = .await y)
    (hw : (s.putChannel x.channel ((s.channel x.channel).replied s.now)).finishWork x f = w) :
    s.goodReply x f =
      (w, (if y = .suspect then [.becameReady x.channel] else [])
        ++ (if x.work = .internal ∧ slotTold (s.channel x.channel).slot = true then [.moveSettlement x.channel] else [])
        ++ [.guardLine]) := by
  have hanswered : (s.channel x.channel).answered s.now = (s.channel x.channel).replied s.now := by
    rw [Channel.answered, hstate]
    rfl
  have haway : (s.channel x.channel).state.wasAway = false := by rw [hstate]; rfl
  have hup : (s.channel x.channel).state.comesUp = decide (y = .suspect) := by
    rw [hstate]
    cases y <;> rfl
  have hread : ∀ t : State, t.readEvent x.channel f = (t, []) :=
    fun t => if_neg fun h => Bool.false_ne_true (hevent.symm.trans h.2)
  rw [State.goodReply]
  simp only [State.modChannel_eq_put, hanswered, haway, hup, Bool.false_eq_true, if_false, hw, hread, decide_eq_true_eq,
    List.append_nil]

end Sys2Proof.Machine

/-! ## What a good reply leaves (08, sections 8.4, 8.6 and 8.8) -/

namespace Sys2Proof.Machine

/-! ### The acts behind the reply -/

theorem Leads.guardLine (s : State) : Leads 1 [.guardLine] s s.enterGuard := .done rfl

/-- A settlement that follows one told of, and the guard. -/
theorem Leads.moveSettlement_guard {s : State} (n : Nat) (hbusy : s.bridge.line ≠ .idle) :
    Leads 3 [.moveSettlement n, .guardLine] s (s.enterGuard.headMoved n) := by
  rw [State.headMoved_enterGuard]
  exact (Leads.moveSettlement n hbusy).andThen (.guardLine _)

/-- A channel that becomes READY, and the guard. -/
theorem Leads.becameReady_guard {s : State} (n : Nat) (hbusy : s.bridge.line ≠ .idle) :
    Leads 4 [.becameReady n, .guardLine] s (s.enterGuard.toldReady n) := by
  rw [State.toldReady_enterGuard]
  exact (Leads.becameReady n hbusy).andThen (.guardLine _)

/-- A card reader that becomes READY has its head moved once, a settlement told of or not. -/
theorem Leads.becameReady_moveSettlement {s : State} (n : Nat) (hbusy : s.bridge.line ≠ .idle) (hin : n < s.bridge.channels.length)
    (hrole : (s.channel n).cfg.role = .cardReader) :
    Leads 6 [.becameReady n, .moveSettlement n, .guardLine] s (s.enterGuard.toldReady n) := by
  have htold : s.toldReady n = s.headMoved n := by rw [State.toldReady, hrole]
  have hline : (s.headMoved n).bridge.line ≠ .idle := by
    intro h
    refine hbusy (Eq.trans ?_ h)
    rw [State.headMoved, State.moveHead_eq]
    repeat' split
    all_goals rfl
  have hmove := Leads.moveSettlement n hline
  rw [State.headMoved_headMoved hin, ← htold] at hmove
  rw [State.toldReady_enterGuard]
  exact (Leads.becameReady n hbusy).andThen (hmove.andThen (.guardLine _))

/-! ### The work finished (R136) -/

section Finish

variable {s : State} {x : Txn} {f : Frame}

theorem State.finishWork_poll (h : x.work = .poll ∨ x.work = .probe) : s.finishWork x f = s := by
  rw [State.finishWork]
  obtain h | h := h <;> rw [h]

theorem State.finishWork_internal (h : x.work = .internal) :
    s.finishWork x f = s.putChannel x.channel { s.channel x.channel with slot := none } := by
  rw [State.finishWork, h]
  exact State.modChannel_eq_put _ _ _

/-- The reply handed to the host of a frame (R133). -/
def State.hosted (s : State) (n : Nat) (h : HostFrame) (f : Frame) : State :=
  if (s.channel n).cfg.early = true then
    s.raise .peripheralReply (some n)
      [f.kind.toNat, h.seq.toNat, f.payload.length, wordAt f.payload 0, wordAt f.payload 2, wordAt f.payload 4]
  else s.transmit { node := h.hostNode, kind := 0x80, seq := h.seq, payload := 0 :: 0 :: f.kind :: f.payload.take 57 }

theorem State.finishWork_host {h : HostFrame} {hs : List HostFrame} (hwork : x.work = .host)
    (hqueue : (s.channel x.channel).queue = h :: hs) :
    s.finishWork x f = (s.putChannel x.channel { s.channel x.channel with queue := hs }).hosted x.channel h f := by
  rw [State.finishWork, hwork]
  dsimp only
  rw [hqueue, List.head?_cons]
  dsimp only
  rw [State.dequeue, State.modChannel_eq_put, hqueue]
  rfl

end Finish

/-- A reply leaves the bridge and the clock alone, so the guard may come before it. -/
theorem State.hosted_enterGuard (s : State) (n : Nat) (h : HostFrame) (f : Frame) :
    (s.hosted n h f).enterGuard = s.enterGuard.hosted n h f := by
  rw [State.hosted, State.hosted, show s.enterGuard.channel n = s.channel n from rfl]
  split <;> rfl

theorem State.hosted_bridge (s : State) (n : Nat) (h : HostFrame) (f : Frame) : (s.hosted n h f).bridge = s.bridge := by
  rw [State.hosted]
  split <;> rfl

/-! ### The reply to a PROBE (R139) -/

theorem State.raiseUp_eq {s : State} {n : Nat} {f : Frame} (h : f.kind = 0x41 → 2 ≤ f.payload.length) :
    s.raiseUp n f =
      s.raise .channelUp (some n)
        [(s.channel n).cfg.node, if f.kind = 0x41 then byteAt f.payload 0 else 0,
          if f.kind = 0x41 then byteAt f.payload 1 else 0] := by
  have hnone : ¬ (f.kind = Kind.ident ∧ f.payload.length < 2) := fun h' => absurd (h h'.1) (Nat.not_le.2 h'.2)
  rw [State.raiseUp, if_neg hnone]
  by_cases hident : f.kind = 0x41
  · have hbyte : ∀ i, i < 2 → replyByte s.draws f.payload i = f.payload.getD i 0 := by
      intro i hi
      have hlt : i < f.payload.length := Nat.lt_of_lt_of_le hi (h hident)
      rw [replyByte, List.getD_eq_getElem _ _ hlt, List.getD_eq_getElem _ _ hlt]
    simp only [show f.kind = Kind.ident from hident, if_true, hbyte 0 (by decide), hbyte 1 (by decide)]
    rfl
  · simp only [show ¬ f.kind = Kind.ident from hident, if_false]
    rw [if_neg hident, if_neg hident]

/-- What the reply to a PROBE leaves before the line is guarded. -/
theorem State.goodReply_probe {s : State} {x : Txn} {f : Frame} (hevent : eventKinds.contains f.kind = false)
    (hstate : (s.channel x.channel).state = .probing ∨ (s.channel x.channel).state = .lost) (hwork : x.work = .probe)
    (hident : f.kind = 0x41 → 2 ≤ f.payload.length) (hin : x.channel < s.bridge.channels.length) :
    s.goodReply x f =
      ((s.putChannel x.channel
          { (s.channel x.channel).replied s.now with lastEvent := none, lastProbe := s.now }).raise .channelUp (some x.channel)
        [(s.channel x.channel).cfg.node, if f.kind = 0x41 then byteAt f.payload 0 else 0,
          if f.kind = 0x41 then byteAt f.payload 1 else 0],
        [.becameReady x.channel, .guardLine]) := by
  have hanswered : (s.channel x.channel).answered s.now =
      { (s.channel x.channel).replied s.now with lastEvent := none, lastProbe := s.now } := by
    rw [Channel.answered]
    obtain h | h := hstate <;> rw [h] <;> rfl
  have haway : (s.channel x.channel).state.wasAway = true := by obtain h | h := hstate <;> rw [h] <;> rfl
  have hup : (s.channel x.channel).state.comesUp = true := by obtain h | h := hstate <;> rw [h] <;> rfl
  have hread : ∀ t : State, t.readEvent x.channel f = (t, []) :=
    fun t => if_neg fun h => Bool.false_ne_true (hevent.symm.trans h.2)
  rw [State.goodReply]
  simp only [State.modChannel_eq_put, hanswered, haway, hup, if_true, State.raiseUp_eq hident,
    State.finishWork_poll (.inr hwork), hread, State.channel_putChannel hin]
  rw [hwork]
  rfl

end Sys2Proof.Machine

/-! ## Settling the replies -/

namespace Sys2Proof.Machine

/-- A good reply to a channel in AWAIT whose acts are `acts` besides the guard. -/
theorem exec_reply_await {s w t : State} {x : Txn} {f : Frame} {y : Standing} {n : Nat} (hx : s.bridge.line = .waiting x)
    (hnode : f.node = x.node) (hseq : f.seq = x.seq) (hevent : eventKinds.contains f.kind = false)
    (hstate : (s.channel x.channel).state = .await y)
    (hw : (s.busHunting.putChannel x.channel ((s.channel x.channel).replied s.now)).finishWork x f = w)
    (h : Leads n ((if y = .suspect then [.becameReady x.channel] else [])
        ++ (if x.work = .internal ∧ slotTold (s.channel x.channel).slot = true then [.moveSettlement x.channel] else [])
        ++ [.guardLine]) w t) (hn : n ≤ 4096) :
    exec (.busFrameReceived f (checkOf f)) s = .next t.conclude := by
  have hreply := State.goodReply_await (s := s.busHunting) hevent hstate hw
  rw [exec_busFrame_good hx hnode hseq, hreply]
  exact congrArg Host.Outcome.next (h.runDoing_eq hn)

/-- A command in the slot whose completion the Credit Session Unit is told of (R143). -/
theorem slotTold_iff {c : Option Command} {y : Command} (h : c = some y) :
    slotTold c = true ↔ y = .deny ∨ ∃ r, y = .settle r := by
  rw [h]
  cases y <;> simp [slotTold]

/-- Settles O48, by the transaction on the bus and the work it carries. -/
theorem repliesTaken : Obligations.RepliesTaken := by
  refine ⟨?_, ?_, ?_⟩
  · intro s f check h
    exact exec_busFrame_discarded h
  · intro s f check x hx hnode hseq hcheck
    exact missed_missWork (exec_busFrame_missed hx hnode hseq hcheck)
  · intro s f x hx hnode hseq hevent n c out ready u hosted
    have hbusy : ∀ t : State, t.bridge.line = s.bridge.line → t.bridge.line ≠ .idle := by
      intro t ht h
      exact nomatch (ht.trans hx).symm.trans h
    have hin : ∀ {y}, c.state = .await y → n < s.bridge.channels.length := fun h => State.channel_lt (by
      rw [show (s.channel n).state = _ from h]
      nofun)
    have hput : ∀ {y}, c.state = .await y → ∀ d, (s.busHunting.putChannel n d).channel n = d :=
      fun h d => State.channel_putChannel (s := s.busHunting) (hin h) d
    have hinternal : ∀ {y}, c.state = .await y → x.work = .internal →
        (s.busHunting.putChannel n ready).finishWork x f = s.busHunting.putChannel n { ready with slot := none } := by
      intro y h hwork
      rw [State.finishWork_internal hwork, show x.channel = n from rfl, hput h, State.putChannel_put]
    have hhost : ∀ {y h hs}, c.state = .await y → x.work = .host → c.queue = h :: hs →
        (s.busHunting.putChannel n ready).finishWork x f =
          (s.busHunting.putChannel n { ready with queue := hs }).hosted n h f := by
      intro y h hs hy hwork hqueue
      rw [State.finishWork_host hwork (h := h) (hs := hs), show x.channel = n from rfl, hput hy, State.putChannel_put]
      rw [show x.channel = n from rfl, hput hy]
      exact hqueue
    have hhosted : ∀ {y h hs}, c.state = .await y →
        ((s.busHunting.putChannel n { ready with queue := hs }).hosted n h f).enterGuard = hosted h hs := by
      intro y h hs hy
      rw [State.hosted_enterGuard, State.hosted,
        show (s.busHunting.putChannel n { ready with queue := hs }).enterGuard.channel n = _ from hput hy _]
      rfl
    have hready : ∀ {y}, c.state = .await y → ∀ d, d.state = .ready → ((u d).channel n).state = .ready := by
      intro y hy d hd
      rw [show (u d).channel n = d from hput hy d]
      exact hd
    have hrole : ∀ {y}, c.state = .await y → ∀ d, d.cfg = c.cfg →
        ((s.busHunting.putChannel n d).channel n).cfg.role = c.cfg.role := by
      intro y hy d hd
      rw [hput hy d, hd]
    refine ⟨?_, ?_, ?_, ?_, ?_⟩
    · intro hstate hwork
      refine exec_reply_await (n := 1) hx hnode hseq hevent hstate (State.finishWork_poll (.inl hwork)) ?_ (by decide)
      rw [hwork]
      exact .guardLine _
    · intro h hs hstate hwork hqueue
      rw [← hhosted hstate]
      refine exec_reply_await (n := 1) hx hnode hseq hevent hstate (hhost hstate hwork hqueue) ?_ (by decide)
      rw [hwork]
      exact .guardLine _
    · intro y hstate hwork hslot
      constructor
      · intro htold
        refine ⟨_, headMoved_spec (hready hstate { ready with slot := none } rfl),
          exec_reply_await (n := 3) hx hnode hseq hevent hstate (hinternal hstate hwork) ?_ (by decide)⟩
        rw [if_neg (by nofun), if_pos ⟨hwork, (slotTold_iff hslot).2 htold⟩]
        exact .moveSettlement_guard n (hbusy _ rfl)
      · intro hdeny hsettle
        refine exec_reply_await (n := 1) hx hnode hseq hevent hstate (hinternal hstate hwork) ?_ (by decide)
        rw [if_neg (by nofun), if_neg fun h => ((slotTold_iff hslot).1 h.2).elim hdeny fun ⟨r, hr⟩ => hsettle r hr]
        exact .guardLine _
    · intro hstate
      refine ⟨?_, ?_, ?_⟩
      · intro hwork
        refine ⟨_, becomesReady_toldReady (hready hstate ready rfl),
          exec_reply_await (n := 4) hx hnode hseq hevent hstate (State.finishWork_poll (.inl hwork)) ?_ (by decide)⟩
        rw [if_pos rfl, hwork]
        exact .becameReady_guard n (hbusy _ rfl)
      · intro h hs hwork hqueue
        rw [← hhosted hstate]
        refine ⟨_, becomesReady_toldReady ?_,
          exec_reply_await (n := 4) hx hnode hseq hevent hstate (hhost hstate hwork hqueue) ?_ (by decide)⟩
        · rw [State.hosted_enterGuard, State.channel_of_bridge (State.hosted_bridge _ _ _ _)]
          exact hready hstate { ready with queue := hs } rfl
        · rw [if_pos rfl, hwork]
          exact .becameReady_guard n (hbusy _ (by rw [State.hosted_bridge]; rfl))
      · intro y hwork hslot hwhich
        refine ⟨_, becomesReady_toldReady (hready hstate { ready with slot := none } rfl),
          exec_reply_await (n := 6) hx hnode hseq hevent hstate (hinternal hstate hwork) ?_ (by decide)⟩
        by_cases htold : slotTold c.slot = true
        · have hreader : c.cfg.role = .cardReader := hwhich.resolve_right fun ⟨hdeny, hsettle⟩ =>
            ((slotTold_iff hslot).1 htold).elim hdeny fun ⟨r, hr⟩ => hsettle r hr
          rw [if_pos rfl, if_pos ⟨hwork, htold⟩]
          exact .becameReady_moveSettlement n (hbusy _ rfl) (by rw [State.putChannel, List.length_set]; exact hin hstate)
            ((hrole hstate { ready with slot := none } rfl).trans hreader)
        · rw [if_pos rfl, if_neg fun h => htold h.2]
          exact (Leads.becameReady_guard (s := s.busHunting.putChannel n { ready with slot := none }) n (hbusy _ rfl)).mono
            (by decide)
    · intro hstate hwork hident
      have hin : n < s.bridge.channels.length := State.channel_lt (by
        obtain h | h := hstate <;> rw [show (s.channel n).state = _ from h] <;> nofun)
      obtain ⟨w, hw⟩ : ∃ w, w = (s.busHunting.putChannel n { ready with lastEvent := none, lastProbe := s.now }).raise .channelUp
          (some n) [c.cfg.node, if f.kind = 0x41 then byteAt f.payload 0 else 0, if f.kind = 0x41 then byteAt f.payload 1 else 0] :=
        ⟨_, rfl⟩
      have hreply : s.busHunting.goodReply x f = (w, [.becameReady n, .guardLine]) :=
        (State.goodReply_probe (s := s.busHunting) hevent hstate hwork hident hin).trans (by rw [hw]; rfl)
      have hlead := Leads.becameReady_guard (s := w) n (hbusy w (by rw [hw]; rfl))
      refine ⟨_, becomesReady_toldReady ?_, ?_⟩
      · change ((s.busHunting.putChannel n { ready with lastEvent := none, lastProbe := s.now }).channel n).state = .ready
        rw [State.channel_putChannel (s := s.busHunting) hin]
      · refine (exec_busFrame_good hx hnode hseq).trans ?_
        rw [hreply]
        refine (congrArg Host.Outcome.next (hlead.runDoing_eq (d := (w, _)) (by decide))).trans ?_
        rw [hw]
        rfl

end Sys2Proof.Machine

/-! ## The end of a command (02, sections 2.6 and 2.9; 08, section 8.8) -/

namespace Sys2Proof.Machine

/-! ### The channel of a money role (R129, R130) -/

theorem Channel.isLive_iff (c : Channel) : c.isLive = true ↔ Live c := by
  rw [Channel.isLive, Live]
  cases c.state <;> simp

theorem State.roleChannel_iff {s : State} {r : Role} {n : Nat} : s.roleChannel r = some n ↔ HasRole s r n := by
  rw [State.roleChannel, List.find?_range_eq_some, HasRole]
  constructor
  · rintro ⟨hp, hn, hbefore⟩
    simp only [Bool.and_eq_true, decide_eq_true_eq] at hp
    refine ⟨⟨List.mem_range.1 hn, hp.1, hp.2⟩, fun m hm => ?_⟩
    have := hbefore m hm
    by_contra hnot
    push Not at hnot
    simp [hnot] at this
  · rintro ⟨⟨hn, hhost, hrole⟩, hbefore⟩
    refine ⟨by simp [hhost, hrole], List.mem_range.2 hn, fun m hm => ?_⟩
    obtain h | h := hbefore m hm <;> simp [h]

theorem HasRole.unique {s : State} {r : Role} {m n : Nat} (hm : HasRole s r m) (hn : HasRole s r n) : m = n :=
  Option.some.inj ((State.roleChannel_iff.2 hm).symm.trans (State.roleChannel_iff.2 hn))

theorem State.liveChannel_eq_some {s : State} {r : Role} {n : Nat} :
    ((s.roleChannel r).filter fun c => (s.channel c).isLive) = some n ↔ HasRole s r n ∧ Live (s.channel n) := by
  rw [Option.filter_eq_some_iff, State.roleChannel_iff, Channel.isLive_iff]

theorem State.liveChannel_eq_none {s : State} {r : Role} :
    ((s.roleChannel r).filter fun c => (s.channel c).isLive) = none ↔ ¬ Reachable s r := by
  rw [Option.eq_none_iff_forall_ne_some, Reachable, not_exists]
  exact forall_congr' fun n => not_congr State.liveChannel_eq_some

/-! ### A command enters the slot of a role's channel (R143) -/

/-- A command in the slot of a role's channel. -/
def State.withSlot (s : State) (r : Role) (x : Option Command) : State :=
  match x, s.roleChannel r with
  | some y, some n => s.putChannel n { s.channel n with slot := some y }
  | _, _ => s

theorem State.withSlot_none (s : State) (r : Role) : s.withSlot r none = s := rfl

theorem State.withSlot_some {s : State} {r : Role} {n : Nat} (h : HasRole s r n) (y : Command) :
    s.withSlot r (some y) = s.putChannel n { s.channel n with slot := some y } := by
  have hchannel := State.roleChannel_iff.2 h
  unfold State.withSlot
  rw [hchannel]

theorem SlotFree.intro {s : State} {r : Role} {n : Nat} (h : HasRole s r n) (hlive : Live (s.channel n))
    (hslot : (s.channel n).slot = none) : SlotFree s r := ⟨n, h, hlive, hslot⟩

theorem not_slotFree_of_slot {s : State} {r : Role} {n : Nat} (h : HasRole s r n) (hslot : (s.channel n).slot ≠ none) :
    ¬ SlotFree s r := by
  rintro ⟨m, hm, -, hnone⟩
  rw [hm.unique h] at hnone
  exact hslot hnone

/-- A slot that is left alone. -/
theorem State.withSlot_channel_of_not {s : State} {r : Role} {x : Option Command} {n : Nat} (h : HasRole s r n → x = none) :
    (s.withSlot r x).channel n = s.channel n := by
  unfold State.withSlot
  split
  · next y m hm =>
    have hne : n ≠ m := by
      rintro rfl
      exact nomatch h (State.roleChannel_iff.1 hm)
    rw [← State.modChannel_eq_put s m fun c => { c with slot := some y }]
    exact State.channel_modChannel_of_ne hne _
  · rfl

theorem State.withSlot_channel {s : State} {r : Role} {y : Command} {n : Nat} (h : HasRole s r n)
    (hin : n < s.bridge.channels.length) : (s.withSlot r (some y)).channel n = { s.channel n with slot := some y } := by
  rw [State.withSlot_some h, State.channel_putChannel hin]

theorem State.withSlot_cfg (s : State) (r : Role) (x : Option Command) (n : Nat) :
    ((s.withSlot r x).channel n).cfg = (s.channel n).cfg ∧ ((s.withSlot r x).channel n).state = (s.channel n).state := by
  unfold State.withSlot
  split
  · next y m hm =>
    rw [← State.modChannel_eq_put s m fun c => { c with slot := some y }]
    exact State.channel_modChannel_of (P := fun c => c.cfg = (s.channel n).cfg ∧ c.state = (s.channel n).state)
      (fun _ h => h) ⟨rfl, rfl⟩
  · exact ⟨rfl, rfl⟩

theorem HasRole.congr {s t : State} (h : ∀ n, (t.channel n).cfg = (s.channel n).cfg) (r : Role) (n : Nat) :
    HasRole t r n ↔ HasRole s r n := by
  simp only [HasRole, h]

/-- The other money role's slot and state are as they were. -/
theorem HasRole.withSlot_other {s : State} {r q : Role} {n : Nat} (hn : HasRole s q n) (hrq : r ≠ q) (x : Option Command) :
    (s.withSlot r x).channel n = s.channel n :=
  State.withSlot_channel_of_not fun h => absurd (h.1.2.2.symm.trans hn.1.2.2) hrq

/-! ### The holds served (R28, R29) -/

/-- What the note acceptor's hold leaves: the command `x` for its slot, and the answer and the mask in `c`. -/
structure NoteServed (s : State) (x : Option Command) (c : CreditUnit) : Prop where
  credit : c = { s.credit with answer := c.answer, maskDue := c.maskDue, maskLast := c.maskLast }
  away : ¬ Reachable s .noteAcceptor →
    x = none ∧ c.answer = none ∧ c.maskDue = s.credit.maskDue ∧ c.maskLast = s.credit.maskLast
  full : Reachable s .noteAcceptor → ¬ SlotFree s .noteAcceptor →
    x = none ∧ c.answer = s.credit.answer ∧ c.maskDue = s.credit.maskDue ∧ c.maskLast = s.credit.maskLast
  answers : SlotFree s .noteAcceptor → ∀ a, s.credit.answer = some a →
    x = some a.command ∧ c.answer = none ∧ c.maskDue = s.credit.maskDue ∧ c.maskLast = s.credit.maskLast
  masks : SlotFree s .noteAcceptor → s.credit.answer = none → s.credit.maskDue = true →
    x = some (.acceptMask s.maskFlags) ∧ c.answer = none ∧ c.maskDue = false ∧ c.maskLast = some s.maskFlags
  rests : SlotFree s .noteAcceptor → s.credit.answer = none → s.credit.maskDue = false →
    x = none ∧ c.answer = none ∧ c.maskDue = s.credit.maskDue ∧ c.maskLast = s.credit.maskLast

/-- The note acceptor's hold (R29). -/
theorem State.pumpNotes_spec (s : State) :
    ∃ x c, s.pumpNotes = ({ s.withSlot .noteAcceptor x with credit := c }, x.isSome) ∧ NoteServed s x c := by
  cases hlive : (s.roleChannel .noteAcceptor).filter fun c => (s.channel c).isLive with
  | none =>
    have haway := State.liveChannel_eq_none.1 hlive
    have hnotFree : ¬ SlotFree s .noteAcceptor := fun ⟨n, h, hl, _⟩ => haway ⟨n, h, hl⟩
    refine ⟨none, { s.credit with answer := none }, ?_, rfl, fun _ => ⟨rfl, rfl, rfl, rfl⟩, fun h => absurd h haway,
      fun h => absurd h hnotFree, fun h => absurd h hnotFree, fun h => absurd h hnotFree⟩
    rw [State.pumpNotes, hlive]
    rfl
  | some n =>
    obtain ⟨hrole, hl⟩ := State.liveChannel_eq_some.1 hlive
    have hreach : Reachable s .noteAcceptor := ⟨n, hrole, hl⟩
    cases hslot : (s.channel n).slot with
    | some y =>
      have hnotFree : ¬ SlotFree s .noteAcceptor := not_slotFree_of_slot hrole (by rw [hslot]; nofun)
      refine ⟨none, s.credit, ?_, rfl, fun h => absurd hreach h, fun _ _ => ⟨rfl, rfl, rfl, rfl⟩,
        fun h => absurd h hnotFree, fun h => absurd h hnotFree, fun h => absurd h hnotFree⟩
      rw [State.pumpNotes, hlive]
      dsimp only
      rw [hslot]
      rfl
    | none =>
      have hfree : SlotFree s .noteAcceptor := .intro hrole hl hslot
      have hpump : s.pumpNotes =
          match s.credit.answer with
          | some a => ((s.fillSlot n a.command).modCredit fun c => { c with answer := none }, true)
          | none =>
            if s.credit.maskDue then
              ((s.fillSlot n (.acceptMask s.maskFlags)).modCredit fun c =>
                { c with maskDue := false, maskLast := some s.maskFlags }, true)
            else (s, false) := by
        rw [State.pumpNotes, hlive]
        dsimp only
        rw [hslot]
        rfl
      have hfill : ∀ y, s.fillSlot n y = s.withSlot .noteAcceptor (some y) := fun y => by
        rw [State.withSlot_some hrole, State.fillSlot, State.modChannel_eq_put]
      cases hanswer : s.credit.answer with
      | some a =>
        refine ⟨some a.command, { s.credit with answer := none }, ?_, rfl, fun h => absurd hreach h, fun _ h => absurd hfree h,
          fun _ b hb => ?_, fun _ h => (nomatch hanswer.symm.trans h), fun _ h => (nomatch hanswer.symm.trans h)⟩
        · rw [hpump, hanswer]
          dsimp only
          rw [hfill, State.withSlot_some hrole]
          rfl
        · obtain rfl : a = b := Option.some.inj (hanswer.symm.trans hb)
          exact ⟨rfl, rfl, rfl, rfl⟩
      | none =>
        cases hdue : s.credit.maskDue with
        | true =>
          refine ⟨some (.acceptMask s.maskFlags), { s.credit with maskDue := false, maskLast := some s.maskFlags }, ?_, rfl,
            fun h => absurd hreach h, fun _ h => absurd hfree h, fun _ b hb => (nomatch hanswer.symm.trans hb),
            fun _ _ _ => ⟨rfl, hanswer, rfl, rfl⟩, fun _ _ h => (nomatch hdue.symm.trans h)⟩
          rw [hpump, hanswer, hdue]
          dsimp only
          rw [hfill, State.withSlot_some hrole]
          rfl
        | false =>
          refine ⟨none, s.credit, ?_, rfl, fun h => absurd hreach h, fun _ h => absurd hfree h,
            fun _ b hb => (nomatch hanswer.symm.trans hb), fun _ _ h => (nomatch hdue.symm.trans h),
            fun _ _ _ => ⟨rfl, hanswer, rfl, rfl⟩⟩
          rw [hpump, hanswer, hdue]
          rfl

theorem State.with_deny {s : State} {d : Bool} (h : s.credit.deny = d) :
    { s with credit := { s.credit with deny := d } } = s := by subst h; rfl

/-- What the card reader's hold leaves: the command `y` for its slot, and whether a DENY is still held. -/
structure CardServed (s : State) (y : Option Command) (deny : Bool) : Prop where
  free : s.credit.deny = true → SlotFree s .cardReader → y = some .deny ∧ deny = false
  full : s.credit.deny = true → Reachable s .cardReader → ¬ SlotFree s .cardReader → y = none ∧ deny = true
  away : s.credit.deny = false ∨ ¬ Reachable s .cardReader → y = none ∧ deny = false

/-- The card reader's hold (R29). -/
theorem State.pumpCards_spec (s : State) :
    ∃ y d, s.pumpCards = ({ s.withSlot .cardReader y with credit := { s.credit with deny := d } }, y.isSome) ∧ CardServed s y d := by
  cases hdeny : s.credit.deny with
  | false =>
    have hpump : s.pumpCards = (s, false) := if_neg (by rw [hdeny]; nofun)
    refine ⟨none, false, ?_, fun h => (nomatch hdeny.symm.trans h), fun h => (nomatch hdeny.symm.trans h), fun _ => ⟨rfl, rfl⟩⟩
    rw [hpump, State.withSlot_none, State.with_deny hdeny]
    rfl
  | true =>
    have hpump : s.pumpCards =
        match (s.roleChannel .cardReader).filter fun c => (s.channel c).isLive with
        | none => (s.modCredit fun c => { c with deny := false }, false)
        | some ch =>
          if (s.channel ch).slot.isSome then (s, false)
          else ((s.fillSlot ch .deny).modCredit fun c => { c with deny := false }, true) := if_pos hdeny
    cases hlive : (s.roleChannel .cardReader).filter fun c => (s.channel c).isLive with
    | none =>
      have haway := State.liveChannel_eq_none.1 hlive
      refine ⟨none, false, ?_, fun _ ⟨n, h, hl, _⟩ => absurd ⟨n, h, hl⟩ haway, fun _ h => absurd h haway, fun _ => ⟨rfl, rfl⟩⟩
      rw [hpump, hlive]
      rfl
    | some n =>
      obtain ⟨hrole, hl⟩ := State.liveChannel_eq_some.1 hlive
      have hreach : Reachable s .cardReader := ⟨n, hrole, hl⟩
      have hnot : ¬ (s.credit.deny = false ∨ ¬ Reachable s .cardReader) :=
        not_or.2 ⟨by rw [hdeny]; nofun, not_not.2 hreach⟩
      cases hslot : (s.channel n).slot with
      | some y =>
        have hnotFree : ¬ SlotFree s .cardReader := not_slotFree_of_slot hrole (by rw [hslot]; nofun)
        refine ⟨none, true, ?_, fun _ h => absurd h hnotFree, fun _ _ _ => ⟨rfl, rfl⟩, fun h => absurd h hnot⟩
        rw [hpump, hlive]
        dsimp only
        rw [hslot, State.withSlot_none, State.with_deny hdeny]
        rfl
      | none =>
        have hfree : SlotFree s .cardReader := .intro hrole hl hslot
        refine ⟨some .deny, false, ?_, fun _ _ => ⟨rfl, rfl⟩, fun _ _ h => absurd hfree h, fun h => absurd h hnot⟩
        rw [hpump, hlive]
        dsimp only
        rw [hslot, State.withSlot_some hrole, State.fillSlot, State.modChannel_eq_put]
        rfl

end Sys2Proof.Machine

/-! ## The end of a command, as R28, R29 and R38 have it (`Concluded`; log 4) -/

namespace Sys2Proof.Machine

/-! ### The acceptance mask (R26, R28) -/

theorem State.stackable_iff (s : State) (k : Nat) : s.stackable k = true ↔ Stacks s k := by
  have hfunding : (s.credit.session.funding = .unfunded ∨ s.credit.session.funding = .cash) ↔
      s.credit.session.funding ≠ .card := by
    cases s.credit.session.funding <;> simp
  have hfalling : s.pendingCoinCredit = fallingCredit s := rfl
  have hbefore : s.prospective = creditBefore s := rfl
  simp only [State.stackable, Stacks, Bool.and_eq_true, Bool.or_eq_true, decide_eq_true_eq, hfunding, hfalling, hbefore,
    and_assoc]

theorem getLsbD_flags (p : Nat → Bool) {k : Nat} (hk : k < 8) (n : Nat) :
    (((List.range n).foldl (fun (m : Byte) j => if p j then m ||| (1 <<< j) else m) 0).getLsbD k = true) ↔ k < n ∧ p k = true := by
  induction n with
  | zero => simp
  | succ n ih =>
    have hbit : (((1 <<< n : Nat) : Byte).getLsbD k) = decide (k = n) := by
      rw [BitVec.natCast_eq_ofNat, BitVec.getLsbD_ofNat, Nat.one_shiftLeft, Nat.testBit_two_pow]
      simp only [hk, decide_true, Bool.true_and, eq_comm]
    rw [List.range_succ, List.foldl_append, List.foldl_cons, List.foldl_nil]
    split
    · next hp =>
      rw [BitVec.getLsbD_or, Bool.or_eq_true, ih, hbit, decide_eq_true_eq]
      constructor
      · rintro (⟨hlt, hpk⟩ | rfl)
        exacts [⟨by omega, hpk⟩, ⟨by omega, hp⟩]
      · rintro ⟨hlt, hpk⟩
        by_cases h : k = n
        exacts [.inr h, .inl ⟨by omega, hpk⟩]
    · next hp =>
      rw [ih]
      constructor
      · rintro ⟨hlt, hpk⟩
        exact ⟨by omega, hpk⟩
      · rintro ⟨hlt, hpk⟩
        have : k ≠ n := by rintro rfl; exact hp hpk
        exact ⟨by omega, hpk⟩

theorem State.maskFlags_bit (s : State) {k : Nat} (hk : k < 8) : s.maskFlags.getLsbD k = true ↔ Stacks s k := by
  rw [State.maskFlags, getLsbD_flags _ hk, State.stackable_iff]
  exact and_iff_right hk

/-- Whether a mask is due once it has been evaluated anew (R28). -/
def State.maskDueNow (s : State) : Bool :=
  s.credit.maskDue || match s.credit.maskLast with
    | some m => decide (m ≠ s.maskFlags)
    | none => false

theorem State.maskDueNow_iff (s : State) :
    s.maskDueNow = true ↔ s.credit.maskDue = true ∨ ∃ m, s.credit.maskLast = some m ∧ m ≠ s.maskFlags := by
  rw [State.maskDueNow]
  cases s.credit.maskLast <;> simp

theorem State.evaluateMask_eq (s : State) : s.evaluateMask = { s with credit := { s.credit with maskDue := s.maskDueNow } } := by
  have hsame : ∀ b, s.credit.maskDue = b → s = { s with credit := { s.credit with maskDue := b } } := by
    rintro _ rfl
    rfl
  rw [State.evaluateMask, State.maskDueNow]
  cases hlast : s.credit.maskLast with
  | none =>
    dsimp only
    rw [Bool.or_false, ← hsame _ rfl]
  | some m =>
    dsimp only
    split
    · next h =>
      subst h
      simp only [ne_eq, not_true_eq_false, decide_false, Bool.or_false]
    · next h =>
      simp only [ne_eq, h, not_false_eq_true, decide_true, Bool.or_true]
      rfl

/-! ### The change of credit reported (R38) -/

/-- The notices of a command's end (R38). -/
def State.creditNotices (s : State) : List Notice :=
  if s.credit.changed = true then
    [s.notice .creditChanged none
      [s.credit.session.state.code, s.credit.session.funding.code, s.credit.session.cashCredit, s.credit.session.cardLeft,
       s.credit.carried]]
  else []

theorem State.reportCredit_eq (s : State) :
    s.reportCredit =
      { s with link := s.creditNotices.foldl LinkUnit.push s.link, credit := { s.credit with changed := false } } := by
  rw [State.reportCredit, State.creditNotices]
  cases hchanged : s.credit.changed with
  | true => rfl
  | false =>
    have hsame : ∀ b, s.credit.changed = b → s = { s with credit := { s.credit with changed := b } } := by
      rintro _ rfl
      rfl
    exact hsame _ hchanged

/-- The state whose holds a command's end serves. -/
def State.summed (s : State) : State :=
  { s with
    link := s.creditNotices.foldl LinkUnit.push s.link
    credit := { s.credit with changed := false, maskDue := s.maskDueNow } }

theorem State.summed_eq (s : State) : s.reportCredit.evaluateMask = s.summed := by
  rw [State.evaluateMask_eq, State.reportCredit_eq]
  rfl

/-! ### The slots filled (R29, R143) -/

theorem SlotFree.congr {s t : State} {r : Role} (hcfg : ∀ n, (t.channel n).cfg = (s.channel n).cfg)
    (hsame : ∀ n, HasRole s r n → t.channel n = s.channel n) : SlotFree t r ↔ SlotFree s r := by
  constructor
  · rintro ⟨n, hrole, hlive, hslot⟩
    have h := (HasRole.congr hcfg r n).1 hrole
    exact ⟨n, h, hsame n h ▸ hlive, hsame n h ▸ hslot⟩
  · rintro ⟨n, h, hlive, hslot⟩
    exact ⟨n, (HasRole.congr hcfg r n).2 h, (hsame n h).symm ▸ hlive, (hsame n h).symm ▸ hslot⟩

theorem Reachable.congr {s t : State} {r : Role} (hcfg : ∀ n, (t.channel n).cfg = (s.channel n).cfg)
    (hsame : ∀ n, HasRole s r n → t.channel n = s.channel n) : Reachable t r ↔ Reachable s r := by
  constructor
  · rintro ⟨n, hrole, hlive⟩
    have h := (HasRole.congr hcfg r n).1 hrole
    exact ⟨n, h, hsame n h ▸ hlive⟩
  · rintro ⟨n, h, hlive⟩
    exact ⟨n, (HasRole.congr hcfg r n).2 h, (hsame n h).symm ▸ hlive⟩

theorem State.withSlot_bridge (s : State) (r : Role) (x : Option Command) :
    (s.withSlot r x).bridge = { s.bridge with channels := (s.withSlot r x).bridge.channels }
      ∧ (s.withSlot r x).bridge.channels.length = s.bridge.channels.length := by
  unfold State.withSlot
  split
  · exact ⟨rfl, List.length_set⟩
  · exact ⟨rfl, rfl⟩

theorem State.withSlot_credit (s : State) (c : CreditUnit) (r : Role) (x : Option Command) :
    State.withSlot { s with credit := c } r x = { s.withSlot r x with credit := c } := by
  have hrole : State.roleChannel { s with credit := c } r = s.roleChannel r := rfl
  unfold State.withSlot
  rw [hrole]
  cases x <;> cases s.roleChannel r <;> rfl

theorem State.withSlot_creditUnit (s : State) (r : Role) (x : Option Command) : (s.withSlot r x).credit = s.credit := by
  unfold State.withSlot
  split <;> rfl

theorem State.withSlot_link (s : State) (r : Role) (x : Option Command) : (s.withSlot r x).link = s.link := by
  unfold State.withSlot
  split <;> rfl

theorem sameExcept_withSlot (s : State) (r : Role) (x : Option Command) : SameExcept [.bridge] s (s.withSlot r x) := by
  unfold State.withSlot
  split
  · next y n _ => exact sameExcept_modBridge s fun b => { b with channels := b.channels.set n { s.channel n with slot := some y } }
  · exact SameExcept.mono (SameExcept.refl (s := s)) (List.nil_subset _)

/-- The two holds' commands in their slots. -/
def State.bothSlots (s : State) (x y : Option Command) : State := (s.withSlot .noteAcceptor x).withSlot .cardReader y

theorem slotsFilled_bothSlots (s : State) (x y : Option Command) : SlotsFilled s (s.bothSlots x y) x y := by
  obtain ⟨hbridge, hlength⟩ := s.withSlot_bridge .noteAcceptor x
  obtain ⟨hbridge', hlength'⟩ := (s.withSlot .noteAcceptor x).withSlot_bridge .cardReader y
  have hcfg := fun n => (s.withSlot_cfg .noteAcceptor x n).1
  refine ⟨?_, hlength'.trans hlength, fun n hn => ⟨fun c hrole hx => ?_, fun c hrole hy => ?_, fun hx hy => ?_⟩⟩
  · rw [State.bothSlots, hbridge', hbridge]
  · have hother : HasRole (s.withSlot .noteAcceptor x) .noteAcceptor n := (HasRole.congr hcfg _ n).2 hrole
    rw [State.bothSlots, hother.withSlot_other (by decide), hx, State.withSlot_channel hrole hn]
  · have hrole' : HasRole (s.withSlot .noteAcceptor x) .cardReader n := (HasRole.congr hcfg _ n).2 hrole
    rw [State.bothSlots, hy, State.withSlot_channel hrole' (hlength.symm ▸ hn), hrole.withSlot_other (by decide)]
  · rw [State.bothSlots, State.withSlot_channel_of_not fun h => hy ((HasRole.congr hcfg _ n).1 h),
      State.withSlot_channel_of_not hx]

theorem State.bothSlots_cfg (s : State) (x : Option Command) (n : Nat) :
    ((s.withSlot .noteAcceptor x).channel n).cfg = (s.channel n).cfg := (s.withSlot_cfg .noteAcceptor x n).1

/-! ### The holds served, and the scheduler's look -/

theorem NoteServed.served {s : State} {x : Option Command} {c : CreditUnit} (h : NoteServed s.summed x c) {t : State}
    (hanswer : t.credit.answer = c.answer) (hdue : t.credit.maskDue = c.maskDue) (hlast : t.credit.maskLast = c.maskLast) :
    NoteHoldServed s t s.maskFlags x := by
  have hdueIff := s.maskDueNow_iff
  have kept : c.maskDue = s.maskDueNow ∧ c.maskLast = s.credit.maskLast →
      (t.credit.maskDue = true ↔ s.credit.maskDue = true ∨ ∃ m, s.credit.maskLast = some m ∧ m ≠ s.maskFlags)
        ∧ t.credit.maskLast = s.credit.maskLast := by
    rintro ⟨hd, hl⟩
    rw [hdue, hd, hlast, hl]
    exact ⟨hdueIff, rfl⟩
  refine ⟨fun haway => ?_, fun hreach hfull => ?_, fun hfree => ⟨fun ha => ?_, fun ha => ?_, fun ha hd => ?_, fun ha hd => ?_⟩⟩
  · obtain ⟨hx, hnone, hkept⟩ := h.away haway
    exact ⟨hx, hanswer.trans hnone, kept hkept⟩
  · obtain ⟨hx, hsame, hkept⟩ := h.full hreach hfull
    exact ⟨hx, hanswer.trans hsame, kept hkept⟩
  · obtain ⟨hx, hnone, hkept⟩ := h.answers hfree _ ha
    exact ⟨hx, hanswer.trans hnone, kept hkept⟩
  · obtain ⟨hx, hnone, hkept⟩ := h.answers hfree _ ha
    exact ⟨hx, hanswer.trans hnone, kept hkept⟩
  · obtain ⟨hx, hnone, hnotDue, hflags⟩ := h.masks hfree ha (hdueIff.2 hd)
    exact ⟨hx, hanswer.trans hnone, hdue.trans hnotDue, hlast.trans hflags⟩
  · obtain ⟨hx, hnone, hkept⟩ := h.rests hfree ha (Bool.eq_false_iff.2 (mt hdueIff.1 hd))
    exact ⟨hx, hanswer.trans hnone, kept hkept⟩

theorem CardServed.served {s u : State} {y : Option Command} {d : Bool} (h : CardServed u y d) {t : State}
    (hdeny : u.credit.deny = s.credit.deny) (hfree : SlotFree u .cardReader ↔ SlotFree s .cardReader)
    (hreach : Reachable u .cardReader ↔ Reachable s .cardReader) (ht : t.credit.deny = d) : CardHoldServed s t y := by
  obtain ⟨ofFree, ofFull, ofAway⟩ := h
  rw [hdeny, hfree] at ofFree
  rw [hdeny, hfree, hreach] at ofFull
  rw [hdeny, hreach] at ofAway
  subst ht
  exact ⟨ofFree, ofFull, ofAway⟩

/-- The state whose look for work ends the command: the change of credit reported, the holds served. -/
def State.served (s : State) (x y : Option Command) (c : CreditUnit) (d : Bool) : State :=
  { s.summed.bothSlots x y with credit := { c with deny := d } }

theorem State.conclude_spec (s : State) :
    ∃ x y c d, NoteServed s.summed x c ∧ CardServed { s.summed.withSlot .noteAcceptor x with credit := c } y d
      ∧ s.conclude = if x.isSome || y.isSome then (s.served x y c d).lookForWork else s.served x y c d := by
  obtain ⟨x, c, hnotes, hnoteServed⟩ := s.summed.pumpNotes_spec
  obtain ⟨y, d, hcards, hcardServed⟩ := State.pumpCards_spec { s.summed.withSlot .noteAcceptor x with credit := c }
  have hslot : State.withSlot { s.summed.withSlot .noteAcceptor x with credit := c } .cardReader y =
      { s.summed.bothSlots x y with credit := c } :=
    State.withSlot_credit _ c .cardReader y
  refine ⟨x, y, c, d, hnoteServed, hcardServed, ?_⟩
  rw [State.conclude, State.summed_eq, hnotes]
  dsimp only
  rw [hcards, hslot]
  rfl

theorem sameExcept_summed (s : State) : SameExcept [.holds, .unreported, .notices] s s.summed := by
  intro p hp
  rw [← s.summed_eq, State.evaluateMask_eq, State.reportCredit]
  split
  all_goals
    cases p
    case holds | unreported | notices => simp at hp
    all_goals simp [Part.same, State.modCredit]

theorem sameExcept_served {s : State} {x : Option Command} {c : CreditUnit} (h : NoteServed s.summed x c) (y : Option Command)
    (d : Bool) : SameExcept [.holds, .unreported, .bridge, .notices] s (s.served x y c d) := by
  have hslots : SameExcept [.bridge] s.summed (s.summed.bothSlots x y) :=
    ((sameExcept_withSlot s.summed .noteAcceptor x).trans (sameExcept_withSlot _ .cardReader y)).mono (by decide)
  have hcredit : (s.summed.bothSlots x y).credit = s.summed.credit :=
    (State.withSlot_creditUnit _ _ _).trans (State.withSlot_creditUnit _ _ _)
  have hholds : SameExcept [.holds] (s.summed.bothSlots x y) (s.served x y c d) := by
    intro p hp
    have hc := h.credit
    cases p <;> simp only [List.mem_cons, List.not_mem_nil, or_false, not_true_eq_false] at hp <;>
      simp only [Part.same, State.served, and_self] <;> rw [hcredit, hc]
  exact (sameExcept_summed s).trans (hslots.trans hholds) |>.mono (by decide)

/-- What the end of every command leaves. -/
theorem concluded_conclude (s : State) : Concluded s s.conclude := by
  obtain ⟨x, y, c, d, hnotes, hcards, hconclude⟩ := s.conclude_spec
  have hsame : ∀ n, HasRole s .cardReader n → (s.summed.withSlot .noteAcceptor x).channel n = s.channel n := fun n h =>
    HasRole.withSlot_other (s := s.summed) h (by decide) x
  have hcfg := fun n => (s.summed.withSlot_cfg .noteAcceptor x n).1
  have hcredit := hnotes.credit
  refine ⟨s.served x y c d, s.maskFlags, x, y, fun k hk => s.maskFlags_bit hk, hnotes.served rfl rfl rfl,
    hcards.served (by rw [hcredit]; rfl) (SlotFree.congr hcfg hsame) (Reachable.congr hcfg hsame) rfl,
    slotsFilled_bothSlots s.summed x y, ?_, ?_, sameExcept_served hnotes y d, ?_, ?_⟩
  · rw [State.served, hcredit]
    rfl
  · have hlink : (s.served x y c d).link = s.creditNotices.foldl LinkUnit.push s.link :=
      (State.withSlot_link _ _ _).trans (State.withSlot_link _ _ _)
    exact ⟨congrArg LinkUnit.notices hlink, congrArg LinkUnit.dropped hlink⟩
  · rintro rfl rfl
    exact hconclude
  · intro hentered
    have hsome : (x.isSome || y.isSome) = true := by
      rw [Bool.or_eq_true, Option.isSome_iff_ne_none, Option.isSome_iff_ne_none]
      exact hentered
    rw [hconclude, if_pos hsome]
    exact (s.served x y c d).looked_lookForWork

end Sys2Proof.Machine

/-! ## Money reported by a poll (02, section 2.6; 08, section 8.7) -/

namespace Sys2Proof.Machine

/-! ### Arriving cash (R21, R22, R27) -/

theorem State.takeCash_note {s : State} (h : s.credit.session.takesCash = true) (v : Nat) :
    s.takeCash .note v =
      { s with
        credit :=
          { s.credit with
            session := { s.credit.session with noteIn := s.credit.session.noteIn + s.cashRoom v }
            carried := if s.cashRoom v = v then s.credit.carried else min 20000 (s.credit.carried + (v - s.cashRoom v))
            changed := true } } := by
  have hle : s.cashRoom v ≤ v := min_le_left _ _
  unfold State.takeCash
  rw [if_pos h]
  dsimp only
  split
  · rw [if_neg (by omega)]
    rfl
  · rw [if_pos (by omega)]
    rfl

theorem State.takeCash_carries {s : State} (h : s.credit.session.takesCash = false) (k : Cash) (v : Nat) :
    s.takeCash k v = { s with credit := { s.credit with carried := min 20000 (s.credit.carried + v), changed := true } } := by
  unfold State.takeCash
  rw [if_neg (by simp [h])]
  rfl

section Stacked

variable {s : State} {n k : Nat}

/-- A STACKED note that an open session takes (R27). -/
theorem State.takeStacked_takes (hk : k ≤ 7) (hidle : s.credit.session.state ≠ .idle)
    (htakes : s.credit.session.takesCash = true) {value into carried : Nat} (hvalue : (s.noteEntry k).value = value)
    (hinto : s.cashRoom value = into)
    (hcarried : (if into = value then s.credit.carried else min 20000 (s.credit.carried + (value - into))) = carried) :
    s.takeStacked n k =
      State.raise
        { s with
          credit :=
            { s.credit with
              session := { s.credit.session with noteIn := s.credit.session.noteIn + into }, carried := carried, changed := true } }
        .noteEvent (some n) [2, k, into, carried - s.credit.carried] := by
  unfold State.takeStacked
  rw [if_pos hk, if_neg hidle]
  dsimp only
  rw [hvalue, State.takeCash_note htakes, hinto, hcarried]
  dsimp only
  rw [Nat.add_sub_cancel_left]

/-- A STACKED note that opens a session (R21, R27). -/
theorem State.takeStacked_opens (hk : k ≤ 7) (hidle : s.credit.session.state = .idle) {value into : Nat}
    (hvalue : (s.noteEntry k).value = value)
    (hinto : min value (max s.credit.policy.maxCredit s.credit.carried - s.credit.carried) = into) :
    s.takeStacked n k =
      State.raise
        { s with
          credit :=
            { s.credit with
              session :=
                { Session.reset with
                  state := .opened, funding := .cash, carriedIn := s.credit.carried, noteIn := into, openedAt := s.stamp }
              carried := min 20000 (value - into)
              changed := true } }
        .noteEvent (some n) [2, k, into, min 20000 (value - into)] := by
  have hroom : s.openCash.cashRoom value = into := hinto
  have hcarried : (if into = value then s.openCash.credit.carried
      else min 20000 (s.openCash.credit.carried + (value - into))) = min 20000 (value - into) := by
    rw [show s.openCash.credit.carried = 0 from rfl]
    split <;> omega
  unfold State.takeStacked
  rw [if_pos hk, if_pos hidle]
  dsimp only
  rw [hvalue, State.takeCash_note s.openCash_takesCash, hroom, hcarried]
  dsimp only
  rw [Nat.add_sub_cancel_left, show s.openCash.credit.carried = 0 from rfl, Nat.sub_zero]
  rw [show s.openCash.credit.session.noteIn + into = into from Nat.zero_add into]
  rfl

/-- A STACKED note that goes to Carried Credit (R27). -/
theorem State.takeStacked_carries (hk : k ≤ 7) (hidle : s.credit.session.state ≠ .idle)
    (htakes : s.credit.session.takesCash = false) {value : Nat} (hvalue : (s.noteEntry k).value = value) :
    s.takeStacked n k =
      State.raise
        { s with credit := { s.credit with carried := min 20000 (s.credit.carried + value), changed := true } }
        .noteEvent (some n) [2, k, 0, min 20000 (s.credit.carried + value) - s.credit.carried] := by
  unfold State.takeStacked
  rw [if_pos hk, if_neg hidle]
  dsimp only
  rw [hvalue, State.takeCash_carries htakes]
  dsimp only
  rw [Nat.sub_self]

theorem State.takeStacked_unknown (hk : 7 < k) : s.takeStacked n k = s.raise .noteEvent (some n) [2, k, 0, 0] :=
  if_neg (by omega)

end Stacked

/-! ### Cards (R30) -/

theorem State.approvable_iff (s : State) (n limit : Nat) :
    s.approvable n limit = true ↔
      s.tables.mode = .sales ∧ s.credit.session.state = .idle ∧ s.credit.carried = 0 ∧ s.outstanding n < 4
        ∧ 1 ≤ min limit s.credit.policy.maxCredit := by
  simp only [State.approvable, Bool.and_eq_true, decide_eq_true_eq, and_assoc]
  rfl

theorem State.cancels_iff (s : State) (n : Nat) :
    s.cancels n = true ↔
      s.credit.session.state = .opened ∧ s.credit.session.funding = .card
        ∧ ∃ y, s.credit.session.card = some y ∧ y.channel = n := by
  rw [State.cancels]
  cases s.credit.session.card <;> simp [and_assoc]

/-! ### The report handed on (R136, R140, R142) -/

/-- A poll's answer on a READY channel with the event number `number`, before the line is guarded. -/
def State.polled (s : State) (n : Nat) (number : Byte) : State :=
  s.busHunting.putChannel n { (s.channel n).replied s.now with lastEvent := some number }

section Report

variable {s : State} {x : Txn} {f : Frame} {number : Byte} {rest : List Byte}

/-- The reading of a poll's answer (R141, R142). -/
theorem State.goodReply_polled (hwork : x.work = .poll)
    (hstate : (s.channel x.channel).state = .await .ready) :
    s.busHunting.goodReply x f =
      (((s.busHunting.putChannel x.channel ((s.channel x.channel).replied s.now)).readEvent x.channel f).1,
        ((s.busHunting.putChannel x.channel ((s.channel x.channel).replied s.now)).readEvent x.channel f).2 ++ [.guardLine]) := by
  have hbefore : (s.busHunting.channel x.channel).state = .await .ready := hstate
  have hanswered : (s.busHunting.channel x.channel).answered s.now = (s.channel x.channel).replied s.now := by
    rw [Channel.answered, hbefore]
    rfl
  have haway : (s.busHunting.channel x.channel).state.wasAway = false := by rw [hbefore]; rfl
  have hup : (s.busHunting.channel x.channel).state.comesUp = false := by rw [hbefore]; rfl
  have hnow : s.busHunting.now = s.now := rfl
  rw [State.goodReply]
  simp only [State.modChannel_eq_put, hnow, hanswered, haway, hup, Bool.false_eq_true, if_false, hwork, reduceCtorEq, false_and,
    State.finishWork_poll (.inl hwork), List.nil_append]

variable (hx : s.bridge.line = .waiting x) (hnode : f.node = x.node) (hseq : f.seq = x.seq)
  (hpayload : f.payload = number :: rest) (hwork : x.work = .poll) (hstate : (s.channel x.channel).state = .await .ready)
include hx hnode hseq hpayload hwork hstate

/-- A repeat of the last event number is not handed on (R141). -/
theorem exec_poll_repeats (hlast : (s.channel x.channel).lastEvent = some number) :
    exec (.busFrameReceived f (checkOf f)) s = .next (s.polled x.channel number).enterGuard.conclude := by
  have hin : x.channel < s.bridge.channels.length := State.channel_lt (by rw [hstate]; nofun)
  have hread : (s.busHunting.putChannel x.channel ((s.channel x.channel).replied s.now)).readEvent x.channel f =
      (s.polled x.channel number, []) := by
    have hsame : s.polled x.channel number = s.busHunting.putChannel x.channel ((s.channel x.channel).replied s.now) := by
      rw [State.polled, ← hlast]
      rfl
    rw [hsame, State.readEvent, hpayload]
    dsimp only
    split
    · rw [State.channel_putChannel (s := s.busHunting) hin]
      exact if_pos hlast
    · rfl
  rw [exec_busFrame_good hx hnode hseq, State.goodReply_polled hwork hstate, hread]
  exact congrArg Host.Outcome.next ((Leads.guardLine _).runDoing_eq (by decide))

/-- A new event of the channel's role is handed on (R142). -/
theorem exec_poll_reports {n : Nat} {t : State} (hnew : (s.channel x.channel).lastEvent ≠ some number)
    (hhands : (s.channel x.channel).cfg.role.hands f.kind = true)
    (h : Leads n [.handOn x.channel f.kind (number :: rest)] (s.polled x.channel number) t) (hn : n ≤ 4000) :
    exec (.busFrameReceived f (checkOf f)) s = .next t.enterGuard.conclude := by
  have hin : x.channel < s.bridge.channels.length := State.channel_lt (by rw [hstate]; nofun)
  have hevent : (s.channel x.channel).cfg.role ≠ .passive ∧ eventKinds.contains f.kind = true := by
    rw [Role.hands.eq_def] at hhands
    split at hhands
    · next hrole =>
      simp only [Bool.or_eq_true, decide_eq_true_eq] at hhands
      refine ⟨by rw [hrole]; decide, ?_⟩
      obtain (h | h) | h := hhands <;> rw [h] <;> decide
    · next hrole =>
      simp only [Bool.or_eq_true, decide_eq_true_eq] at hhands
      refine ⟨by rw [hrole]; decide, ?_⟩
      obtain h | h := hhands <;> rw [h] <;> decide
    · exact nomatch hhands
  have hput : (s.busHunting.putChannel x.channel ((s.channel x.channel).replied s.now)).channel x.channel =
      (s.channel x.channel).replied s.now := State.channel_putChannel (s := s.busHunting) hin _
  have hread : (s.busHunting.putChannel x.channel ((s.channel x.channel).replied s.now)).readEvent x.channel f =
      (s.polled x.channel number, [.handOn x.channel f.kind (number :: rest)]) := by
    rw [State.readEvent, hpayload]
    simp only [hput, List.isEmpty_cons, Bool.false_eq_true, if_false]
    refine (if_pos hevent).trans ((if_neg hnew).trans (Prod.ext ?_ (if_pos hhands)))
    change State.modChannel _ _ _ = _
    rw [State.modChannel_eq_put, hput, State.putChannel_put]
    rfl
  rw [exec_busFrame_good hx hnode hseq, State.goodReply_polled hwork hstate, hread]
  exact congrArg Host.Outcome.next ((h.andThen (.guardLine t)).runDoing_eq (by omega))

end Report

end Sys2Proof.Machine

/-! ## Settling the money a poll reports -/

namespace Sys2Proof.Machine

/-! ### The reports by their kinds (R140) -/

section Kinds

variable (w : State) (n : Nat) (number k low : Byte) (rest : List Byte)

/-- A report that carries every byte that is read. -/
theorem State.takeReport_read {kind : Byte} {payload : List Byte} (h : reportSize kind ≤ payload.length) :
    w.takeReport n kind payload =
      if kind = Kind.escrow then (w.takeEscrow n (replyByte w.draws payload 1).toNat, [])
      else if kind = Kind.stacked then (w.takeStacked n (replyByte w.draws payload 1).toNat, [])
      else if kind = Kind.returned then (w.takeReturned n (replyByte w.draws payload 1).toNat, [])
      else if kind = Kind.approved then
        (w.takeApproved n ((replyByte w.draws payload 1).toNat * 256 + (replyByte w.draws payload 2).toNat), [])
      else if kind = Kind.cancel then w.takeCancel n
      else (w, []) := by
  have hread : (if payload.length < reportSize kind then w.draw else w) = w := if_neg (by omega)
  rw [State.takeReport]
  simp only [hread]

theorem State.takeReport_escrow :
    w.takeReport n 0x50 (number :: k :: rest) = (w.takeEscrow n k.toNat, []) :=
  (State.takeReport_read (kind := 0x50) (payload := number :: k :: rest) w n (Nat.le_add_left 2 rest.length)).trans rfl

theorem State.takeReport_stacked :
    w.takeReport n 0x51 (number :: k :: rest) = (w.takeStacked n k.toNat, []) :=
  (State.takeReport_read (kind := 0x51) (payload := number :: k :: rest) w n (Nat.le_add_left 2 rest.length)).trans rfl

theorem State.takeReport_returned :
    w.takeReport n 0x52 (number :: k :: rest) = (w.takeReturned n k.toNat, []) :=
  (State.takeReport_read (kind := 0x52) (payload := number :: k :: rest) w n (Nat.le_add_left 2 rest.length)).trans rfl

theorem State.takeReport_approved :
    w.takeReport n 0x58 (number :: k :: low :: rest) = (w.takeApproved n (k.toNat * 256 + low.toNat), []) :=
  (State.takeReport_read (kind := 0x58) (payload := number :: k :: low :: rest) w n (Nat.le_add_left 3 rest.length)).trans rfl

theorem State.takeReport_cancel : w.takeReport n 0x59 (number :: rest) = w.takeCancel n :=
  (State.takeReport_read (kind := 0x59) (payload := number :: rest) w n (Nat.le_add_left 1 rest.length)).trans rfl

end Kinds

section Reports

variable {s : State} {x : Txn} {f : Frame} {number : Byte} {rest : List Byte}
  (hx : s.bridge.line = .waiting x) (hnode : f.node = x.node) (hseq : f.seq = x.seq)
  (hpayload : f.payload = number :: rest) (hwork : x.work = .poll) (hstate : (s.channel x.channel).state = .await .ready)
  (hnew : (s.channel x.channel).lastEvent ≠ some number)
include hx hnode hseq hpayload hwork hstate hnew

/-- A report that changes `v` of the machine and raises a notice. -/
theorem exec_poll_raises {k : Byte} {v v' : State} {e : NoticeKind} {m : Option Nat} {vs : List Nat}
    (hkind : f.kind = k) (hhands : (s.channel x.channel).cfg.role.hands k = true)
    (ht : (s.polled x.channel number).takeReport x.channel k (number :: rest) = (v.raise e m vs, [])) (hv : v.enterGuard = v') :
    exec (.busFrameReceived f (checkOf f)) s = .next (v'.raise e m vs).conclude := by
  subst hkind hv
  exact exec_poll_reports (t := v.raise e m vs) hx hnode hseq hpayload hwork hstate hnew hhands (.done ht) (by decide)

/-- A CANCEL report that closes the session without vends (R31, R36). -/
theorem exec_poll_cancels {y : Card} (hrole : (s.channel x.channel).cfg.role = .cardReader) (hkind : f.kind = 0x59)
    (hopen : s.credit.session.state = .opened) (hfunding : s.credit.session.funding = .card)
    (hcard : s.credit.session.card = some y) (hchannel : y.channel = x.channel) (hvends : s.sales.vends = [])
    (hpending : NothingPending s) :
    exec (.busFrameReceived f (checkOf f)) s =
      .next (((s.polled x.channel number).raise .cardEvent (some x.channel) [2, 1]).cardClosed y).enterGuard.conclude := by
  have hcloses : (s.polled x.channel number).cancels x.channel = true :=
    (State.cancels_iff _ _).2 ⟨hopen, hfunding, y, hcard, hchannel⟩
  have hperform : perform (.handOn x.channel f.kind (number :: rest)) (s.polled x.channel number) =
      ((s.polled x.channel number).raise .cardEvent (some x.channel) [2, 1], [.closeRequest]) := by
    rw [hkind]
    refine (State.takeReport_cancel (s.polled x.channel number) x.channel number rest).trans ?_
    rw [State.takeCancel, hcloses]
    rfl
  have hleads := Leads.act hperform (.closeRequest hopen hvends (.completeClose_card (c := y) hcard hpending))
  exact exec_poll_reports hx hnode hseq hpayload hwork hstate hnew (by rw [hrole, hkind]; decide) hleads (by decide)

end Reports

/-- The settlement that a CANCEL report's close leaves (R31, R36). -/
theorem cardClosed_polled {s : State} {n : Nat} {number : Byte} {y : Card} (hin : n < s.bridge.channels.length)
    (hchannel : y.channel = n) :
    CardClosed ((s.polled n number).raise .cardEvent (some n) [2, 1])
      (((s.polled n number).raise .cardEvent (some n) [2, 1]).cardClosed y) y :=
  State.cardClosed_spec (by
    rw [hchannel]
    exact List.length_set.symm ▸ hin)

theorem settlesAtOnce_polled {s : State} {n : Nat} {number : Byte} {y : Card} (hin : n < s.bridge.channels.length)
    (hchannel : y.channel = n) :
    SettlesAtOnce ((s.polled n number).raise .cardEvent (some n) [2, 1]) y.channel ↔
      (s.channel n).slot = none ∧ s.credit.deny = false ∧ ∀ w ∈ s.credit.settlements, w.channel ≠ n := by
  have hput : ((s.polled n number).raise .cardEvent (some n) [2, 1]).channel n =
      { (s.channel n).replied s.now with lastEvent := some number } := State.channel_putChannel (s := s.busHunting) hin _
  rw [SettlesAtOnce, hchannel, hput]
  exact ⟨fun h => h.2, fun h => ⟨rfl, h⟩⟩

/-- What a CANCEL report's close leaves with the disposition `d` (R36, R38). -/
theorem cancelled_leaves {s t : State} {n d : Nat} {number : Byte} {y : Card} (hchannel : y.channel = n)
    (hclosed : CardClosed ((s.polled n number).raise .cardEvent (some n) [2, 1]) t y)
    (hheard : Heard ((s.polled n number).raise .cardEvent (some n) [2, 1]) t
      [((s.polled n number).raise .cardEvent (some n) [2, 1]).cardNotice y d]) :
    t.enterGuard.conclude.credit.session = .reset
      ∧ Raised s t.enterGuard.conclude
          [s.notice .cardEvent (some n) [2, 1],
            s.notice .sessionClosed (some n) [y.limit, s.credit.session.cardUsed, s.credit.session.delivered, d],
            s.notice .creditChanged none [0, 0, 0, 0, s.credit.carried]]
      ∧ SameExcept (([.session, .settlements] : List Part) ++ closing) s t.enterGuard.conclude := by
  have hpolled : Heard s ((s.polled n number).raise .cardEvent (some n) [2, 1]) [s.notice .cardEvent (some n) [2, 1]] :=
    ((Heard.refl s).congr (t := s.polled n number) rfl rfl rfl).raise_at rfl _ _ _
  have hboth : Heard s t.enterGuard _ := (hpolled.trans hheard).congr rfl rfl rfl
  have hsame : SameExcept [.bridge, .notices, .session, .settlements, .unreported, .draws] s t.enterGuard :=
    ((((sameExcept_modBridge s fun _ => (s.polled n number).bridge).trans (sameExcept_raise _ _ _ _)).trans hclosed.same).trans
      (sameExcept_modBridge t _)).mono (by decide)
  have hend := (hboth.conclude_reset (hsame .now (by decide)) hclosed.changed hclosed.session).1
  rw [show t.enterGuard.credit.carried = s.credit.carried from hsame .carried (by decide)] at hend
  refine ⟨?_, ?_, hsame.conclude.mono (by decide)⟩
  · rw [State.conclude_session]
    exact hclosed.session
  · rw [← hchannel] at hend ⊢
    exact hend

/-- Settles O49, by the end of the command and the kind of event reported. -/
theorem moneyReported : Obligations.MoneyReported := by
  refine ⟨concluded_conclude, ?_⟩
  intro s f x number rest hx hnode hseq hpayload hwork hstate n c z out u
  have hin : n < s.bridge.channels.length := State.channel_lt (by
    rw [show (s.channel n).state = _ from hstate]
    nofun)
  have hchannel : (s.polled n number).channel n = { c.replied s.now with lastEvent := some number } :=
    State.channel_putChannel (s := s.busHunting) hin _
  have raises : ∀ {k : Byte} {v v' : State} {e : NoticeKind} {vs : List Nat}, c.lastEvent ≠ some number → f.kind = k →
      c.cfg.role.hands k = true → (s.polled n number).takeReport n k (number :: rest) = (v.raise e (some n) vs, []) →
      v.enterGuard = v' → out = .next (v'.raise e (some n) vs).conclude :=
    fun hnew => exec_poll_raises hx hnode hseq hpayload hwork hstate hnew
  refine ⟨fun _ hlast => exec_poll_repeats hx hnode hseq hpayload hwork hstate hlast, ?_, ?_, ?_, ?_, ?_⟩
  · rintro k ks hrole hnew rfl hkind value
    have stacked : ∀ {v v' : State} {vs}, (s.polled n number).takeStacked n k.toNat = v.raise .noteEvent (some n) vs →
        v.enterGuard = v' → out = .next (v'.raise .noteEvent (some n) vs).conclude :=
      fun ht => raises hnew hkind (by rw [hrole]; decide) ((State.takeReport_stacked _ _ _ _ _).trans (congrArg (·, []) ht))
    have hopenCash : z.funding = .cash → (z.state = .opened ∨ z.state = .closeWait) → z.takesCash = true ∧ z.state ≠ .idle := by
      rintro hfunding (h | h) <;> exact ⟨by simp [Session.takesCash, hfunding, h], by rw [h]; decide⟩
    refine ⟨fun hk hfunding hopen hroom => ?_, fun hk hidle => ?_, fun hk hfunding hopen => ?_, fun hk hidle haway => ?_,
      fun hk => stacked (State.takeStacked_unknown hk) rfl⟩
    · obtain ⟨htakes, hidle⟩ := hopenCash hfunding (.inl hopen)
      have hinto : (s.polled n number).cashRoom value = value := by
        change min value (max s.credit.policy.maxCredit z.carriedIn - z.cashCredit) = value
        omega
      refine (stacked (State.takeStacked_takes (s := s.polled n number) hk hidle htakes rfl hinto (if_pos rfl)) rfl).trans ?_
      rw [show (s.polled n number).credit.carried = s.credit.carried from rfl, Nat.sub_self]
      rfl
    · exact stacked (State.takeStacked_opens (s := s.polled n number) hk hidle rfl rfl) rfl
    · obtain ⟨htakes, hidle⟩ := hopenCash hfunding hopen
      exact stacked (State.takeStacked_takes (s := s.polled n number) hk hidle htakes rfl rfl rfl) rfl
    · have htakes : z.takesCash = false := by
        obtain h | h := haway <;> simp [Session.takesCash, h]
      exact stacked (State.takeStacked_carries (s := s.polled n number) hk hidle htakes rfl) rfl
  · rintro k ks hrole hnew rfl hkind
    exact raises hnew hkind (by rw [hrole]; decide) (State.takeReport_returned _ _ _ _ _) rfl
  · intro hrole hnew hkind
    have hhands : c.cfg.role.hands f.kind = true := by rw [hrole, hkind]; decide
    constructor
    · intro hnot
      have hstays : (s.polled n number).cancels n = false :=
        Bool.eq_false_iff.2 fun h => hnot ((State.cancels_iff _ _).1 h)
      refine raises (v := s.polled n number) hnew hkind (hkind ▸ hhands) ((State.takeReport_cancel _ _ _ _).trans ?_) rfl
      rw [State.takeCancel, hstays]
      rfl
    · intro y hopen hfunding hcard hchannelOf hvends hpending _ r free
      have hclosed := cardClosed_polled (s := s) (number := number) hin hchannelOf
      have hfreeIff := settlesAtOnce_polled (s := s) (number := number) hin hchannelOf
      have hexec := exec_poll_cancels hx hnode hseq hpayload hwork hstate hnew hrole hkind hopen hfunding hcard hchannelOf hvends
        hpending
      obtain ⟨w, hw⟩ : ∃ w, w = ((s.polled n number).raise .cardEvent (some n) [2, 1]).cardClosed y := ⟨_, rfl⟩
      rw [← hw] at hclosed
      have hsettled : ((s.polled n number).raise .cardEvent (some n) [2, 1]).settled y = r := by
        change s.credit.session.settlement y = r
        rw [Session.settlement, hchannelOf]
      by_cases hfree : free
      · obtain ⟨hslot, hlist, hheard⟩ := hclosed.atOnce (hfreeIff.2 hfree)
        obtain ⟨hsession, hraised, hsame⟩ := cancelled_leaves hchannelOf hclosed hheard
        rw [hchannelOf, hsettled] at hslot
        refine ⟨_, hexec.trans (hw ▸ rfl), hsession, fun _ => ⟨State.conclude_slot hslot, ?_⟩, fun h => absurd hfree h, ?_, hsame⟩
        · rw [State.conclude_settlements]
          exact hlist
        · rintro d (⟨-, rfl⟩ | ⟨h, -⟩)
          exacts [hraised, absurd hfree h]
      · obtain ⟨hlist, hheard⟩ := hclosed.listed fun h => hfree (hfreeIff.1 h)
        obtain ⟨hsession, hraised, hsame⟩ := cancelled_leaves hchannelOf hclosed hheard
        rw [hsettled] at hlist
        refine ⟨_, hexec.trans (hw ▸ rfl), hsession, fun h => absurd h hfree, fun _ => ?_, ?_, hsame⟩
        · rw [State.conclude_settlements]
          exact hlist
        · rintro d (⟨h, -⟩ | ⟨-, rfl⟩)
          exacts [absurd h hfree, hraised]
  · rintro k ks hrole hnew rfl hkind
    have escrow : ∀ e : Escrow, (if (s.polled n number).stackable k.toNat then Escrow.stack else .giveBack) = e →
        out = .next (State.raise { u with credit := { s.credit with answer := some e } } .noteEvent (some n)
          [1, k.toNat, e.code]).conclude := by
      rintro _ rfl
      exact raises hnew hkind (by rw [hrole]; decide) (State.takeReport_escrow _ _ _ _ _) rfl
    exact ⟨fun h => escrow .stack (if_pos ((State.stackable_iff _ _).2 h)),
      fun h => escrow .giveBack (if_neg fun h' => h ((State.stackable_iff _ _).1 h'))⟩
  · rintro high low ks hrole hnew rfl hkind limit stored outstanding opens
    have hopens : (s.polled n number).approvable n limit = true ↔ opens := by
      rw [State.approvable_iff, State.outstanding, hchannel]
      rfl
    have approved : ∀ {v v' : State} {vs}, (s.polled n number).takeApproved n limit = v.raise .cardEvent (some n) vs →
        v.enterGuard = v' → out = .next (v'.raise .cardEvent (some n) vs).conclude :=
      fun ht => raises hnew hkind (by rw [hrole]; decide) ((State.takeReport_approved _ _ _ _ _ _).trans (congrArg (·, []) ht))
    exact ⟨fun h => approved (if_pos (hopens.2 h)) rfl, fun h => approved (if_neg fun h' => h (hopens.1 h')) rfl⟩

end Sys2Proof.Machine

/-! ## A commit of the buffer, and the tables it loads (10, sections 10.2 and 10.3) -/

namespace Sys2Proof.Machine

/-! ### The committed entries and their indices (R163) -/

/-- The entries of a commit: through the extent, or the first alone (R163). -/
def Buffer.taken (b : Buffer) : List (List Byte) := b.entries.take (max 1 b.extent)

/-- Entries with their indices from `first` on. -/
def indexed (first : Nat) (entries : List (List Byte)) : List (Nat × List Byte) :=
  entries.zipIdx.map fun x => (first + x.2, x.1)

theorem Buffer.committed_eq (b : Buffer) : b.committed = indexed b.first b.taken := rfl

theorem indexed_nil (first : Nat) : indexed first [] = [] := rfl

theorem indexed_cons (first : Nat) (e : List Byte) (es : List (List Byte)) :
    indexed first (e :: es) = (first, e) :: indexed (first + 1) es := by
  rw [indexed, List.zipIdx_cons', List.map_cons, List.map_map]
  refine congrArg _ (List.map_congr_left fun x _ => ?_)
  simp only [Function.comp_apply, Prod.map_fst, Prod.map_snd, id_eq]
  rw [Nat.add_right_comm, Nat.add_assoc]

theorem indexed_length (first : Nat) (entries : List (List Byte)) : (indexed first entries).length = entries.length := by
  simp [indexed]

theorem Buffer.committed_length (b : Buffer) : b.committed.length = b.taken.length := indexed_length _ _

theorem mem_indexed {first : Nat} {entries : List (List Byte)} {x : Nat × List Byte} :
    x ∈ indexed first entries ↔ first ≤ x.1 ∧ entries[x.1 - first]? = some x.2 := by
  induction entries generalizing first with
  | nil => simp [indexed_nil]
  | cons e es ih =>
    obtain ⟨i, y⟩ := x
    rw [indexed_cons, List.mem_cons, ih, Prod.mk.injEq]
    constructor
    · rintro (⟨rfl, rfl⟩ | ⟨hle, hget⟩)
      · simp
      · refine ⟨by omega, ?_⟩
        rw [show i - first = i - (first + 1) + 1 by omega, List.getElem?_cons_succ]
        exact hget
    · rintro ⟨hle, hget⟩
      by_cases hi : i = first
      · subst hi
        rw [Nat.sub_self, List.getElem?_cons_zero] at hget
        exact .inl ⟨rfl, (Option.some.inj hget).symm⟩
      · rw [show i - first = i - (first + 1) + 1 by omega, List.getElem?_cons_succ] at hget
        exact .inr ⟨by omega, hget⟩

/-! ### The first bad entry (R163) -/

theorem firstBad_eq_none {first : Nat} {entries : List (List Byte)} {ok : List Byte → Bool} (h : ∀ e ∈ entries, ok e = true) :
    firstBad (indexed first entries) ok = none := by
  rw [firstBad, Option.map_eq_none_iff, List.find?_eq_none]
  intro x hx
  have := h x.2 (List.mem_of_getElem? (mem_indexed.1 hx).2)
  simp [this]

theorem firstBad_eq_some {entries : List (List Byte)} {ok : List Byte → Bool} {j : Nat} {e : List Byte}
    (hj : entries[j]? = some e) (hbad : ok e = false) (hbefore : ∀ k x, k < j → entries[k]? = some x → ok x = true)
    (first : Nat) : firstBad (indexed first entries) ok = some (first + j) := by
  induction entries generalizing first j with
  | nil => exact nomatch hj
  | cons x xs ih =>
    rw [firstBad, indexed_cons, List.find?_cons]
    cases j with
    | zero =>
      obtain rfl : x = e := Option.some.inj hj
      simp [hbad]
    | succ j =>
      have hx : ok x = true := hbefore 0 x (Nat.succ_pos j) rfl
      have htail := ih (j := j) hj (fun k y hk hy => hbefore (k + 1) y (Nat.succ_lt_succ hk) hy) (first + 1)
      simp only [hx, Bool.not_true]
      rw [firstBad] at htail
      rw [htail, Nat.add_right_comm, Nat.add_assoc]

/-! ### Tables loaded (R164) -/

theorem putEntries_cons {α : Type} (g : List Byte → α → α) (base : Nat) (e : Nat × List Byte) (es : List (Nat × List Byte))
    (xs : List α) : putEntries g base (e :: es) xs = putEntries g base es (editAt (g e.2) (e.1 - base) xs) := rfl

/-- A table with entries put into it. -/
theorem putEntries_loaded {α : Type} {g : List Byte → α → α} {f : List Byte → α → Option α}
    (hg : ∀ e x y, f e x = some y → g e x = y) {base first : Nat} (hbase : base ≤ first) (entries : List (List Byte))
    (xs : List α) : Loaded xs (putEntries g base (indexed first entries) xs) (first - base) entries f := by
  induction entries generalizing first xs with
  | nil => exact ⟨rfl, fun j e x y h => (nomatch h), fun j _ => rfl⟩
  | cons e es ih =>
    rw [indexed_cons, putEntries_cons]
    obtain ⟨hlength, hput, hrest⟩ := ih (first := first + 1) (by omega) (editAt (g e) (first - base) xs)
    have hoff : first + 1 - base = first - base + 1 := by omega
    rw [hoff] at hput hrest
    refine ⟨hlength.trans (editAt_length _ _ _), fun j d x y hd hx hy => ?_, fun j hj => ?_⟩
    · cases j with
      | zero =>
        obtain rfl : e = d := Option.some.inj hd
        rw [Nat.add_zero] at hx
        change (putEntries g base (indexed (first + 1) es) (editAt (g e) (first - base) xs))[first - base]? = some y
        rw [hrest (first - base) (.inl (by omega)), editAt_getElem?, if_pos rfl, hx, Option.map_some, hg e x y hy]
      | succ j =>
        have hx' : (editAt (g e) (first - base) xs)[first - base + 1 + j]? = some x := by
          rw [editAt_getElem?, if_neg (by omega), ← hx]
          congr 1
          omega
        have := hput j d x y hd hx' hy
        rwa [show first - base + (j + 1) = first - base + 1 + j by omega]
    · rw [List.length_cons] at hj
      rw [hrest j (by omega), editAt_getElem?, if_neg (by omega)]

/-! ### The commit (R163, R164) -/

/-- The machine that has taken STAGE_COMMIT and answered it with a disposition. -/
def State.committing (s : State) (seq : Byte) (b : Buffer) (disposition : Nat) : State :=
  s.frameTaken.accept seq [u8 b.kind.code, u8 b.first, u8 b.taken.length, u8 disposition]

/-- The Table Manager's part of a load applied at once (R164). -/
def State.committedBy (s : State) (b : Buffer) : State :=
  { s.raise .stageApplied none [b.kind.code, b.first, b.taken.length, 0] with
    tables :=
      { s.tables with
        staging := .empty
        loadCommitted := s.tables.loadCommitted || decide (b.kind = .load)
        curveCommitted := s.tables.curveCommitted || decide (b.kind = .curve) } }

section Commit

variable {s : State} {b : Buffer}

theorem exec_stageCommit (seq : Byte) (p : List Byte) (hb : s.tables.staging = .opened b)
    (hmode : b.kind.timing = .configOnly → s.tables.mode = .config) :
    exec (.stageCommit seq p) s = .next (s.frameTaken.commitBuffer seq b) := by
  have hstaging : s.frameTaken.tables.staging = .opened b := hb
  change execStageCommit seq p s = _
  rw [execStageCommit, hstaging]
  exact if_neg fun h => h.2 (hmode h.1)

theorem exec_stageCommit_bad (seq : Byte) (p : List Byte) {i : Nat} (hb : s.tables.staging = .opened b)
    (hmode : b.kind.timing = .configOnly → s.tables.mode = .config)
    (h : s.frameTaken.validate b.kind (indexed b.first b.taken) = .bad i) :
    exec (.stageCommit seq p) s = .next (s.frameTaken.refuse seq .badArgument [u8 i]) := by
  rw [exec_stageCommit seq p hb hmode, State.commitBuffer, b.committed_eq, h]

theorem exec_stageCommit_busy (seq : Byte) (p : List Byte) (hb : s.tables.staging = .opened b)
    (hmode : b.kind.timing = .configOnly → s.tables.mode = .config)
    (h : s.frameTaken.validate b.kind (indexed b.first b.taken) = .busy) :
    exec (.stageCommit seq p) s = .next (s.frameTaken.refuse seq .busy) := by
  rw [exec_stageCommit seq p hb hmode, State.commitBuffer, b.committed_eq, h]

theorem State.loadApplied_eq (s : State) (b : Buffer) : s.loadApplied b.kind b.first b.taken.length 0 = s.committedBy b := rfl

/-- A commit that takes effect (R164): the owner's acts lead to `t`. -/
theorem exec_stageCommit_applies (seq : Byte) (p : List Byte) {n : Nat} {t : State} (hb : s.tables.staging = .opened b)
    (hmode : b.kind.timing = .configOnly → s.tables.mode = .config)
    (hpasses : s.frameTaken.validate b.kind (indexed b.first b.taken) = .passes) (heffect : s.takesEffect b.kind = true)
    (h : Leads n ((s.committing seq b 0).applyLoad b.kind (indexed b.first b.taken)).2
      ((s.committing seq b 0).applyLoad b.kind (indexed b.first b.taken)).1 t) (hn : n ≤ 4000) :
    exec (.stageCommit seq p) s = .next (t.committedBy b).conclude := by
  have heffect' : s.frameTaken.takesEffect b.kind = true := heffect
  have hdata : b.commitData 0 = [u8 b.kind.code, u8 b.first, u8 b.taken.length, u8 0] := by
    rw [Buffer.commitData, b.committed_length]
  have hleads : Leads (n + 1) ((s.committing seq b 0).applyBuffer b 0).2 ((s.committing seq b 0).applyBuffer b 0).1
      (t.committedBy b) := by
    rw [State.applyBuffer, b.committed_length]
    exact h.append (.done (by rw [← State.loadApplied_eq]; rfl))
  rw [exec_stageCommit seq p hb hmode, State.commitBuffer, b.committed_eq, hpasses]
  dsimp only
  rw [if_pos heffect', hdata]
  exact congrArg Host.Outcome.next (hleads.runDoing_eq (by omega))

/-- A deferred load that waits for the session (R163). -/
theorem exec_stageCommit_waits (seq : Byte) (p : List Byte) (hb : s.tables.staging = .opened b)
    (hmode : b.kind.timing = .configOnly → s.tables.mode = .config)
    (hpasses : s.frameTaken.validate b.kind (indexed b.first b.taken) = .passes) (heffect : s.takesEffect b.kind = false) :
    exec (.stageCommit seq p) s =
      .next { s.committing seq b 1 with tables := { s.tables with staging := .pending b } } := by
  have heffect' : s.frameTaken.takesEffect b.kind = false := heffect
  have hdata : b.commitData 1 = [u8 b.kind.code, u8 b.first, u8 b.taken.length, u8 1] := by
    rw [Buffer.commitData, b.committed_length]
  rw [exec_stageCommit seq p hb hmode, State.commitBuffer, b.committed_eq, hpasses]
  dsimp only
  rw [if_neg (by rw [heffect']; decide), hdata]
  rfl

/-- When a load takes effect (R163). -/
theorem State.takesEffect_iff (s : State) (k : TableKind) :
    s.takesEffect k = true ↔ k.timing = .atOnce ∨ s.tables.mode = .config ∨ s.credit.session.state = .idle := by
  simp [State.takesEffect, or_assoc]

end Commit

end Sys2Proof.Machine

/-! ## The commits of the coin, tube, note, policy and load tables (R1, R18, R20, R25, R119, R163, R164) -/

namespace Sys2Proof.Machine

/-- Whether an entry of a kind passes its own test (R163). -/
def TableKind.sound (k : TableKind) (e : List Byte) : Bool :=
  match k with
  | .coin => (coinOf e).isSome
  | .tube => (assignmentOf e).isSome
  | .note => (noteOf e).isSome
  | .policy => (policyOf e).isSome
  | .selection => (selectionOf e).isSome
  | .cooling => (coolingBytes e).inRange
  | .load => (loadBytes e).inRange
  | .curve | .channel => true

/-- The first entry that fails its own test is named (R163). -/
theorem State.validate_unsound (s : State) {k : TableKind} {first j : Nat} {entries : List (List Byte)} {e : List Byte}
    (hj : entries[j]? = some e) (hbad : k.sound e = false)
    (hbefore : ∀ i x, i < j → entries[i]? = some x → k.sound x = true) :
    s.validate k (indexed first entries) = .bad (first + j) := by
  have hfirst := firstBad_eq_some (ok := k.sound) hj hbad hbefore first
  cases k
  case curve | channel => exact nomatch hbad
  case load => exact congrArg (fun o => match o with
    | some i => Verdict.bad i
    | none => if (indexed first entries).any (fun e => (loadBytes e.2).budget < s.load.drawn) then .busy else .passes) hfirst
  all_goals exact congrArg Verdict.ofBad hfirst

/-- Sound entries of a kind that is judged entry by entry pass (R163). -/
theorem State.validate_sound (s : State) {k : TableKind} {first : Nat} {entries : List (List Byte)}
    (hsound : ∀ e ∈ entries, k.sound e = true) (hk : k ≠ .curve ∧ k ≠ .load ∧ k ≠ .channel) :
    s.validate k (indexed first entries) = .passes := by
  have hnone := firstBad_eq_none (first := first) hsound
  cases k
  case curve => exact absurd rfl hk.1
  case load => exact absurd rfl hk.2.1
  case channel => exact absurd rfl hk.2.2
  all_goals exact congrArg Verdict.ofBad hnone

section Clauses

variable {s : State} {b : Buffer} (seq : Byte) (p : List Byte)

theorem commit_unsound {j : Nat} {e : List Byte} (hb : s.tables.staging = .opened b)
    (hmode : b.kind.timing = .configOnly → s.tables.mode = .config) (hj : b.taken[j]? = some e) (hbad : b.kind.sound e = false)
    (hbefore : ∀ i x, i < j → b.taken[i]? = some x → b.kind.sound x = true) :
    exec (.stageCommit seq p) s = .next (s.frameTaken.refuse seq .badArgument [u8 (b.first + j)]) :=
  exec_stageCommit_bad seq p hb hmode (State.validate_unsound _ hj hbad hbefore)

/-- A deferred load while a session stands outside CONFIG (R163). -/
theorem commit_waits (hb : s.tables.staging = .opened b) (htiming : b.kind.timing = .deferred)
    (hsound : ∀ e ∈ b.taken, b.kind.sound e = true) (hnow : ¬ (s.tables.mode = .config ∨ s.credit.session.state = .idle)) :
    exec (.stageCommit seq p) s = .next { s.committing seq b 1 with tables := { s.tables with staging := .pending b } } := by
  have hkind : b.kind ≠ .curve ∧ b.kind ≠ .load ∧ b.kind ≠ .channel := by
    refine ⟨?_, ?_, ?_⟩ <;> intro h <;> rw [h] at htiming <;> exact nomatch htiming
  refine exec_stageCommit_waits seq p hb (fun h => nomatch htiming.symm.trans h) (State.validate_sound _ hsound hkind) ?_
  rw [Bool.eq_false_iff, Ne, State.takesEffect_iff, htiming]
  rintro (h | h)
  exacts [(nomatch h), hnow h]

theorem commit_note (hb : s.tables.staging = .opened b) (hkind : b.kind = .note) (hsound : ∀ e ∈ b.taken, noteOf e ≠ none)
    (hnow : s.tables.mode = .config ∨ s.credit.session.state = .idle) :
    ∃ notes, Loaded s.credit.notes notes b.first b.taken (fun e _ => noteOf e)
      ∧ exec (.stageCommit seq p) s =
        .next (State.committedBy { s.committing seq b 0 with credit := { s.credit with notes := notes } } b).conclude := by
  refine ⟨_, putEntries_loaded (base := 0) (g := fun e x => (noteOf e).getD x) (fun e x y h => by rw [h]; rfl) (Nat.zero_le _)
    _ _, ?_⟩
  refine exec_stageCommit_applies (n := 0) seq p hb (by rw [hkind]; nofun)
    (State.validate_sound _ (fun e he => ?_) (by rw [hkind]; decide)) ((s.takesEffect_iff _).2 (.inr hnow)) ?_ (by decide)
  · rw [hkind]
    exact Option.isSome_iff_ne_none.2 (hsound e he)
  · rw [hkind]
    exact .nil _

theorem commit_coin (hb : s.tables.staging = .opened b) (hkind : b.kind = .coin)
    (hsound : ∀ e ∈ b.taken, b.kind.sound e = true) (hnow : s.tables.mode = .config ∨ s.credit.session.state = .idle) :
    ∃ table, Loaded s.coin.table table b.first b.taken (fun e _ => coinOf e)
      ∧ exec (.stageCommit seq p) s =
        .next (State.committedBy (State.triggerAssurance
          { s.committing seq b 0 with coin := { s.coin with table := table } }) b).conclude := by
  refine ⟨_, putEntries_loaded (base := 0) (g := fun e x => (coinOf e).getD x) (fun e x y h => by rw [h]; rfl) (Nat.zero_le _)
    _ _, ?_⟩
  refine exec_stageCommit_applies (n := 0) seq p hb (by rw [hkind]; nofun)
    (State.validate_sound _ hsound (by rw [hkind]; decide)) ((s.takesEffect_iff _).2 (.inr hnow)) ?_ (by decide)
  rw [hkind]
  exact .nil _

theorem commit_tube (hb : s.tables.staging = .opened b) (hkind : b.kind = .tube) (hfirst : 1 ≤ b.first)
    (hsound : ∀ e ∈ b.taken, b.kind.sound e = true) (hconfig : s.tables.mode = .config) :
    ∃ tubes, Loaded s.tubes tubes (b.first - 1) b.taken (fun e x => (assignmentOf e).map fun a =>
        { x with
          entry := a.entry, capacity := a.capacity, keep := a.keep, lowMark := a.lowMark
          count := if a.entry = none then 0 else min x.count a.capacity }.derive true)
      ∧ exec (.stageCommit seq p) s =
        .next (State.committedBy (State.triggerAssurance { s.committing seq b 0 with tubes := tubes }) b).conclude := by
  refine ⟨_, putEntries_loaded (base := 1) (g := fun e t => match assignmentOf e with
    | some a => t.assign a
    | none => t) (fun e x y h => ?_) hfirst _ _, ?_⟩
  · obtain ⟨a, ha, rfl⟩ := Option.map_eq_some_iff.1 h
    rw [ha]
    simp only [Tube.assign, Option.isNone_iff_eq_none]
  · refine exec_stageCommit_applies (n := 0) seq p hb (fun _ => hconfig)
      (State.validate_sound _ hsound (by rw [hkind]; decide)) ((s.takesEffect_iff _).2 (.inr (.inl hconfig))) ?_ (by decide)
    rw [hkind]
    exact .nil _

theorem commit_policy {e : List Byte} {policy : Policy} (hb : s.tables.staging = .opened b) (hkind : b.kind = .policy)
    (hentries : b.taken = [e]) (hpolicy : policyOf e = some policy)
    (hnow : s.tables.mode = .config ∨ s.credit.session.state = .idle) :
    exec (.stageCommit seq p) s =
      .next (State.committedBy (State.triggerAssurance
        { s.committing seq b 0 with credit := { s.credit with policy := policy } }) b).conclude := by
  have hsound : ∀ e ∈ b.taken, b.kind.sound e = true := by
    rw [hentries, hkind]
    intro d hd
    obtain rfl := List.mem_singleton.1 hd
    exact Option.isSome_iff_exists.2 ⟨policy, hpolicy⟩
  refine exec_stageCommit_applies (n := 0) seq p hb (by rw [hkind]; nofun)
    (State.validate_sound _ hsound (by rw [hkind]; decide)) ((s.takesEffect_iff _).2 (.inr hnow)) ?_ (by decide)
  rw [hkind, hentries, State.applyLoad, indexed_cons, indexed_nil]
  dsimp only [List.foldl_cons, List.foldl_nil]
  rw [hpolicy]
  exact .nil _

theorem commit_load {e : List Byte} (hb : s.tables.staging = .opened b) (hkind : b.kind = .load)
    (hconfig : s.tables.mode = .config) (hentries : b.taken = [e]) (hrange : (loadBytes e).inRange = true) :
    (s.load.drawn ≤ (loadBytes e).budget → s.load.queue = [] →
        exec (.stageCommit seq p) s =
          .next (State.committedBy { s.committing seq b 0 with load := { s.load with table := loadBytes e } } b).conclude)
      ∧ ((loadBytes e).budget < s.load.drawn → exec (.stageCommit seq p) s = .next (s.frameTaken.refuse seq .busy)) := by
  have hverdict : s.frameTaken.validate b.kind (indexed b.first b.taken) =
      if (loadBytes e).budget < s.load.drawn then .busy else .passes := by
    rw [hkind, hentries, State.validate, firstBad_eq_none (by simpa using hrange), indexed_cons, indexed_nil]
    simp only [List.any_cons, List.any_nil, Bool.or_false, decide_eq_true_eq]
    rfl
  constructor
  · intro hfits hqueue
    rw [if_neg (by omega)] at hverdict
    refine exec_stageCommit_applies (n := 1) seq p hb (fun _ => hconfig) hverdict
      ((s.takesEffect_iff _).2 (.inr (.inl hconfig))) ?_ (by decide)
    have hrenew : s.load.renew (loadBytes e) = { s.load with table := loadBytes e } := by
      rw [LoadUnit.renew, hqueue, List.map_nil, ← hqueue]
    rw [hkind, hentries, State.applyLoad, indexed_cons, indexed_nil]
    dsimp only [List.foldl_cons, List.foldl_nil]
    rw [State.modLoad, show (s.committing seq b 0).load = s.load from rfl, hrenew]
    exact .decide_nil hqueue
  · intro hshort
    rw [if_pos hshort] at hverdict
    exact exec_stageCommit_busy seq p hb (fun _ => hconfig) hverdict

end Clauses

end Sys2Proof.Machine

/-! ## The commits of the selection table, and a load that waited (R62, R74, R164) -/

namespace Sys2Proof.Machine

/-! ### A load that waited for the session (R163, R164) -/

/-- The session closed with nothing owed, and the NOTE load that waited for it applied. -/
def State.closedLoading (s : State) (b : Buffer) : State :=
  let notes := putEntries (fun e x => (noteOf e).getD x) 0 (indexed b.first b.taken) s.credit.notes
  let u := s.cashClosed 0
  { u.raise .stageApplied none [3, b.first, b.taken.length, 1] with
    credit := { u.credit with notes := notes }, tables := { s.tables with staging := .empty } }

theorem State.loadApplied_other {s : State} {k : TableKind} (hload : k ≠ .load) (hcurve : k ≠ .curve) (first count d : Nat) :
    s.loadApplied k first count d =
      { s.raise .stageApplied none [k.code, first, count, d] with tables := { s.tables with staging := .empty } } := by
  simp only [State.loadApplied, State.modTables, hload, hcurve, decide_false, Bool.or_false]
  rfl

theorem Leads.closeCash_loads {s : State} {b : Buffer} (hpending : s.tables.staging = .pending b) (hkind : b.kind = .note) :
    Leads 3 [.closeCash 0] s (s.closedLoading b) := by
  refine .act (new := [.applyPending]) (u := s.cashClosed 0) rfl (.act (new := [.applied b.kind b.first b.taken.length 1])
    (u := { s.cashClosed 0 with
      credit :=
        { (s.cashClosed 0).credit with
          notes := putEntries (fun e x => (noteOf e).getD x) 0 (indexed b.first b.taken) s.credit.notes } }) ?_ (.done ?_))
  · change (s.cashClosed 0).applyPendingLoad = _
    rw [State.applyPendingLoad, s.cashClosed_tables, hpending]
    dsimp only
    rw [State.applyBuffer, b.committed_length, hkind]
    rfl
  · change ((State.loadApplied _ _ _ _ _), ([] : List Act)) = _
    rw [hkind, State.loadApplied_other (by decide) (by decide), s.cashClosed_tables]
    rfl

/-- The first clause of O57: END_SESSION of a session that owes nothing, while a NOTE load waits. -/
theorem endSession_loads {s : State} (q : Byte) (p : List Byte) {b : Buffer} (hpending : s.tables.staging = .pending b)
    (hkind : b.kind = .note) (hopen : s.credit.session.state = .opened) (hcard : s.credit.session.card = none)
    (hdue : s.credit.session.cashCredit = 0) (hvends : s.sales.vends = []) :
    ∃ t : State, exec (.endSession q p) s = .next t
      ∧ t.credit.session = .reset
      ∧ Loaded s.credit.notes t.credit.notes b.first b.taken (fun e _ => noteOf e)
      ∧ t.tables = { s.tables with staging := .empty }
      ∧ t.link.sent = s.link.sent ++ [replyFrame 0 q 0 0 [0]]
      ∧ Raised s t
          [s.sessionClosed 0, s.notice .stageApplied none [3, b.first, b.taken.length, 1],
            s.notice .creditChanged none [0, 0, 0, 0, s.credit.carried]]
      ∧ SameExcept (([.session, .notes, .tables, .replies, .receiver] : List Part) ++ closing) s t := by
  have hfinish : perform .completeClose s.frameTaken = (s.frameTaken, [.closeCash 0]) := by
    change s.frameTaken.finishClose = _
    rw [State.finishClose, State.frameTaken_credit, hcard]
    exact if_pos hdue
  have hleads : Leads 7 [.closeRequest] s.frameTaken (s.frameTaken.closedLoading b) :=
    .closeRequest hopen hvends (.act hfinish (.closeCash_loads hpending hkind))
  have hclosed := s.frameTaken.cashClosed_credit 0
  have hsame : SameExcept [.session, .unreported, .notices, .notes, .tables] s.frameTaken (s.frameTaken.closedLoading b) := by
    have hraised := s.frameTaken.sameExcept_cashClosed_zero.trans
      (sameExcept_raise (s.frameTaken.cashClosed 0) .stageApplied none [3, b.first, b.taken.length, 1])
    intro q hq
    have hpart := hraised q
    cases q
    case session | unreported | notices | notes | tables => exact absurd (by decide) hq
    all_goals exact hpart (by decide)
  have hheard : Heard s.frameTaken (s.frameTaken.closedLoading b)
      [s.sessionClosed 0, s.notice .stageApplied none [3, b.first, b.taken.length, 1]] :=
    ((Heard.cashClosed s.frameTaken 0).raise_at (s.frameTaken.sameExcept_cashClosed_zero .now (by decide)) .stageApplied none
      [3, b.first, b.taken.length, 1]).congr rfl rfl rfl
  obtain ⟨hkeeps, hall, hsent⟩ := answered_keeps hsame hheard (by decide) q [0]
  have hcredit : ((s.frameTaken.closedLoading b).accept q [0]).credit =
      { (s.frameTaken.cashClosed 0).credit with
        notes := putEntries (fun e x => (noteOf e).getD x) 0 (indexed b.first b.taken) s.credit.notes } := rfl
  refine ⟨_, (exec_endSession_of_leads p hopen hleads (by decide)).trans ?_, ?_, ?_, ?_, ?_, ?_, hkeeps.conclude.mono (by decide)⟩
  · rfl
  · rw [State.conclude_session]
    rfl
  · rw [State.conclude_noteTable]
    exact putEntries_loaded (base := 0) (g := fun e x => (noteOf e).getD x) (f := fun e _ => noteOf e)
      (fun e x y h => by rw [h]; rfl) (Nat.zero_le _) _ _
  · rw [State.conclude_tables]
    rfl
  · rw [State.conclude_sent, hsent]
  · have hend := hall.conclude_reset (hkeeps .now (by decide)) rfl rfl
    exact hend.1

/-! ### The only vend, QUEUED -/

/-- The only vend, QUEUED, ends with a result that leaves its position as it is (R74, R75), whatever claims wait. -/
theorem Leads.endVends_onlyQueued {m : Nat} {s t : State} {v : Vend} {r : VendResult} {d : Bool} (hvends : s.sales.vends = [v])
    (hqueued : v.state = .queued) (hr : r.leavesSelection = true)
    (h : Leads m [.vendReported r v.price v.funding] (s.onlyVendGone v r) t) (ht : t.sales.vends = []) :
    Leads (m + 4) [.endVends [(v.id, r)] d] s t := by
  obtain ⟨w, hw⟩ : ∃ w : Vend, w = { v with result := some r } := ⟨_, rfl⟩
  obtain ⟨u, hu⟩ : ∃ u : State, u = { s with sales := { s.sales with vends := [w] } } := ⟨_, rfl⟩
  have huvends : u.sales.vends = [w] := by rw [hu]
  have hwid : w.id = v.id := by rw [hw]
  have hmarked : (s.modSales fun x => { x with vends := x.vends.map fun y => y.endedBy [(v.id, r)] }) = u := by
    rw [hu, hw]
    simp only [State.modSales, hvends]
    simp [Vend.endedBy]
  have hclaims : u.dropVendClaims [(v.id, r)] = (u, false) := by
    refine u.dropVendClaims_queued _ fun e he x hx => ?_
    obtain rfl := List.mem_singleton.1 he
    rw [← hwid, State.vend?_of_only huvends] at hx
    rw [← Option.some.inj hx, hw]
    exact hqueued
  have hperform : perform (.endVends [(v.id, r)] d) s = (u, [.endVend w.id r d]) := by
    change s.endTogether [(v.id, r)] d = _
    rw [State.endTogether, hmarked, hclaims, hwid]
    rfl
  refine .act hperform (Leads.endVend (v := w) huvends (not_sellsOut_of_leaves hr) ?_ ht)
  rw [hu, hw]
  exact h

/-! ### The selection table (R62) -/

theorem selectionOf_fresh {e : List Byte} {y : Selection} (h : selectionOf e = some y) :
    y.state = .available ∧ y.missStreak = 0 := by
  rw [selectionOf] at h
  split at h
  · split at h
    · obtain rfl := Option.some.inj h
      exact ⟨rfl, rfl⟩
    · exact nomatch h
  · exact nomatch h

theorem State.unsellableVends_of_only {s : State} {v : Vend} (hvends : s.sales.vends = [v]) (hwaits : v.waits = true)
    (hoff : s.sellable v.position = false) : s.unsellableVends = [(v.id, s.unsellableResult v.position)] := by
  rw [State.unsellableVends, hvends, List.filter_cons_of_pos (by rw [hwaits, hoff]; rfl), List.filter_nil, List.map_cons,
    List.map_nil]

theorem selectionOf_price {e : List Byte} {y : Selection} (h : selectionOf e = some y) : y.price = wordAt e 0 := by
  rw [selectionOf] at h
  split at h
  · split at h
    · obtain rfl := Option.some.inj h
      rfl
    · exact nomatch h
  · exact nomatch h

/-- The record a selection commit leaves. -/
def loadSelection (e : List Byte) (x : Selection) : Selection :=
  match selectionOf e with
  | some new => x.commit new
  | none => x

section Clauses

variable {s : State} {b : Buffer} (seq : Byte) (p : List Byte)

/-- A selection commit, with the acts that follow it. -/
theorem commit_selection_of {n : Nat} {xs : List Selection} {t : State} (hb : s.tables.staging = .opened b)
    (hkind : b.kind = .selection) (hsound : ∀ e ∈ b.taken, b.kind.sound e = true)
    (hnow : s.tables.mode = .config ∨ s.credit.session.state = .idle)
    (hxs : putEntries loadSelection 0 (indexed b.first b.taken) s.sales.selections = xs)
    (h : Leads n [.endVends (State.unsellableVends { s with sales := { s.sales with selections := xs } }) true]
      { s.committing seq b 0 with
        sales := { s.sales with selections := xs }
        change := { s.change with maxPrice := highestPrice xs s.plant.lockout } } t) (hn : n ≤ 3000) :
    exec (.stageCommit seq p) s = .next (t.committedBy b).conclude := by
  refine exec_stageCommit_applies (n := n + 1) seq p hb (by rw [hkind]; nofun)
    (State.validate_sound _ hsound (by rw [hkind]; decide)) ((s.takesEffect_iff _).2 (.inr hnow)) ?_ (by omega)
  obtain ⟨u, hu⟩ : ∃ u, u = State.modSales (s.committing seq b 0) fun u => { u with selections := xs } := ⟨_, rfl⟩
  have hload : (s.committing seq b 0).applyLoad b.kind (indexed b.first b.taken) =
      (u, [.reprice, .endVends u.unsellableVends true]) := by
    rw [hkind, hu, ← hxs]
    rfl
  rw [hload]
  dsimp only
  have hunsellable : u.unsellableVends = State.unsellableVends { s with sales := { s.sales with selections := xs } } := by
    rw [hu]
    rfl
  rw [hunsellable, Nat.add_comm]
  refine .andThen (.done (a := .reprice) ?_) h
  rw [hu]
  rfl

theorem commit_selection (hb : s.tables.staging = .opened b) (hkind : b.kind = .selection)
    (hsound : ∀ e ∈ b.taken, b.kind.sound e = true) (hnow : s.tables.mode = .config ∨ s.credit.session.state = .idle)
    (hvends : s.sales.vends = []) :
    ∃ xs m, Loaded s.sales.selections xs b.first b.taken (fun e x => (selectionOf e).map fun y =>
        { x with price := y.price, health := y.health, addOn := y.addOn, state := .available, missStreak := 0 })
      ∧ HighestPrice xs s.plant.lockout m
      ∧ exec (.stageCommit seq p) s =
        .next (State.committedBy { s.committing seq b 0 with
          sales := { s.sales with selections := xs }, change := { s.change with maxPrice := m } } b).conclude := by
  refine ⟨_, _, putEntries_loaded (base := 0) (g := loadSelection) (fun e x y h => ?_) (Nat.zero_le _) _ _,
    highestPrice_spec _ _, commit_selection_of (n := 1) seq p hb hkind hsound hnow rfl ?_ (by decide)⟩
  · obtain ⟨z, hz, rfl⟩ := Option.map_eq_some_iff.1 h
    obtain ⟨hstate, hstreak⟩ := selectionOf_fresh hz
    rw [loadSelection, hz, ← hstate, ← hstreak]
    rfl
  · have hnone : ∀ xs, State.unsellableVends { s with sales := { s.sales with selections := xs } } = [] := by
      intro xs
      rw [State.unsellableVends]
      dsimp only
      rw [hvends]
      rfl
    rw [hnone]
    exact .done (State.endTogether_nil _ _)

/-- The only vend, QUEUED, whose position a commit prices at 0 (R74). -/
theorem commit_selection_cancels {v : Vend} {e : List Byte} {y : Selection} (hb : s.tables.staging = .opened b)
    (hkind : b.kind = .selection) (hentries : b.taken = [e]) (hconfig : s.tables.mode = .config) (honly : OnlyVend s v)
    (hqueued : v.state = .queued) (hfirst : b.first = v.position) (hprice : wordAt e 0 = 0) (hy : selectionOf e = some y)
    (hin : v.position < s.sales.selections.length) (hcold : ¬ (y.health = .chilled ∧ s.plant.lockout = true)) :
    ∃ m, HighestPrice (s.sales.selections.set v.position { y with vendCount := (s.selection v.position).vendCount })
        s.plant.lockout m
      ∧ exec (.stageCommit seq p) s =
        .next (State.committedBy
          (State.raise
            { s.committing seq b 0 with
              sales :=
                { s.sales.without v with
                  selections := s.sales.selections.set v.position { y with vendCount := (s.selection v.position).vendCount } }
              change := { s.change with maxPrice := m } }
            .vendResult (some v.position) (resultValues v 5)) b).conclude := by
  obtain ⟨xs, hxs⟩ : ∃ xs, xs = s.sales.selections.set v.position { y with vendCount := (s.selection v.position).vendCount } :=
    ⟨_, rfl⟩
  have hload : putEntries loadSelection 0 (indexed b.first b.taken) s.sales.selections = xs := by
    rw [hentries, hfirst, indexed_cons, indexed_nil, hxs]
    change editAt (loadSelection e) (v.position - 0) s.sales.selections = _
    rw [Nat.sub_zero, editAt_eq_set_getD _
      { price := 0, health := .ambient, addOn := 0, state := .available, missStreak := 0, vendCount := 0 }, loadSelection, hy]
    rfl
  have hselection : State.selection { s with sales := { s.sales with selections := xs } } v.position =
      { y with vendCount := (s.selection v.position).vendCount } := by
    rw [State.selection, hxs, List.getD_eq_getElem?_getD, List.getElem?_set_self hin, Option.getD_some]
  have hyprice : y.price = 0 := (selectionOf_price hy).trans hprice
  obtain ⟨hvends, hresult, hopen⟩ := honly
  have hunsellable : State.unsellableVends { s with sales := { s.sales with selections := xs } } = [(v.id, .cancelled)] := by
    have hwaits : v.waits = true := by simp [Vend.waits, Vend.unfinished, hresult, hqueued]
    have hoff : State.sellable { s with sales := { s.sales with selections := xs } } v.position = false := by
      rw [State.sellable, hselection, Selection.sellable]
      simp [hyprice]
    have hcancelled : State.unsellableResult { s with sales := { s.sales with selections := xs } } v.position = .cancelled := by
      rw [State.unsellableResult, hselection]
      exact if_neg hcold
    rw [State.unsellableVends_of_only (s := { s with sales := { s.sales with selections := xs } }) hvends hwaits hoff, hcancelled]
  refine ⟨_, highestPrice_spec _ _, ?_⟩
  rw [← hxs]
  refine commit_selection_of (n := 6) seq p hb hkind ?_ (.inl hconfig) hload ?_ (by decide)
  · rw [hentries, hkind]
    intro d hd
    obtain rfl := List.mem_singleton.1 hd
    exact Option.isSome_iff_exists.2 ⟨y, hy⟩
  · rw [hunsellable]
    have hends := Leads.endVends_onlyQueued (r := .cancelled) (d := true) (s := { s.committing seq b 0 with
      sales := { s.sales with selections := xs }, change := { s.change with maxPrice := highestPrice xs s.plant.lockout } })
      hvends hqueued rfl (.vendReported_open rfl hopen (by decide)) rfl
    rw [State.onlyVendGone_leaves rfl] at hends
    exact hends.mono (by decide)

end Clauses

end Sys2Proof.Machine

/-! ## The commit of the cooling table (R100) -/

namespace Sys2Proof.Machine

/-! ### The tests of a plant without a defrost whose compressor is at rest -/

section Rest

variable {u : State} {w : Nat}

theorem State.endIntervals_rest (hidle : u.plant.defrost = .idle)
    (hrest : u.plant.compressor = .protecting ∨ u.plant.compressor = .offMin)
    (hinterval : ¬ (u.plant.cooling.defrostInterval < w ∧ u.plant.cooling.defrostInterval * 1000 ≤ u.plant.runTotal u.now)) :
    u.endIntervals w =
      (if u.plant.compressor = .offMin ∧ u.plant.cooling.minOff * 1000 ≤ u.now - u.plant.offSince then u.setCompressor .offReady
        else u, []) := by
  have hover : u.plant.defrostOver u.now w = [] := by
    rw [PlantUnit.defrostOver, hidle]
    exact if_neg hinterval
  rw [State.endIntervals, hover, hidle]
  obtain h | h := hrest <;> rw [h] <;> rfl

/-- In PROTECT the tests of a commit note demand alone. -/
theorem Leads.coolingActs_protecting {d : Bool} (hidle : u.plant.defrost = .idle) (hprotecting : u.plant.compressor = .protecting)
    (hinterval : ¬ (u.plant.cooling.defrostInterval < w ∧ u.plant.cooling.defrostInterval * 1000 ≤ u.plant.runTotal u.now))
    (hdemand : u.plant.demandNow u.now = d)
    (hcold : u.plant.exposure < u.plant.cooling.lockoutThreshold ∨ u.plant.lockout = true) :
    Leads 6 (coolingActs w) u (u.demanding d) := by
  have hintervals : Leads 1 [.intervalsEnd w] u u := by
    refine .done ((State.endIntervals_rest hidle (.inl hprotecting) hinterval).trans ?_)
    rw [if_neg]
    rw [hprotecting]
    nofun
  have hnoted : Leads 1 [.demandTest] u (u.demanding d) := by
    have := Leads.demandTest_noted (s := u) (.inr (.inl hprotecting))
    rwa [State.withDemand, hdemand] at this
  have hstop : Leads 1 [.stopTest] (u.demanding d) (u.demanding d) :=
    .stopTest_notRunning fun since h => nomatch hprotecting.symm.trans h
  exact hintervals.andThen (hnoted.andThen (hstop.andThen ((Leads.defrostTest_idle (s := u.demanding d) hidle).andThen
    ((Leads.condenserTest_none (s := u.demanding d) (.inr hprotecting)).andThen
      (.exposureTest_below (s := u.demanding d) hcold)))))

/-- In OFF_MIN without demand they find Min Off over, or not. -/
theorem Leads.coolingActs_offMin (hidle : u.plant.defrost = .idle) (hoff : u.plant.compressor = .offMin)
    (hinterval : ¬ (u.plant.cooling.defrostInterval < w ∧ u.plant.cooling.defrostInterval * 1000 ≤ u.plant.runTotal u.now))
    (hdemand : ∀ c, { u.plant with compressor := c }.demandNow u.now = false) (hlimit : u.plant.limitApplies = false)
    (hcold : u.plant.exposure < u.plant.cooling.lockoutThreshold ∨ u.plant.lockout = true) :
    Leads 6 (coolingActs w) u
      (State.demanding (u.setCompressor
        (if u.plant.cooling.minOff * 1000 ≤ u.now - u.plant.offSince then .offReady else .offMin)) false) := by
  obtain ⟨c, hc⟩ : ∃ c, c = if u.plant.cooling.minOff * 1000 ≤ u.now - u.plant.offSince then Compressor.offReady else .offMin :=
    ⟨_, rfl⟩
  rw [← hc]
  have hstays : u.setCompressor .offMin = u := by
    rw [State.setCompressor, State.modPlant, ← hoff]
  have hintervals : Leads 1 [.intervalsEnd w] u (u.setCompressor c) := by
    refine .done ((State.endIntervals_rest hidle (.inr hoff) hinterval).trans ?_)
    rw [hc]
    by_cases hover : u.plant.cooling.minOff * 1000 ≤ u.now - u.plant.offSince
    · rw [if_pos hover, if_pos ⟨hoff, hover⟩]
    · rw [if_neg hover, if_neg fun h => hover h.2, hstays]
  have hrest : c = .offReady ∨ c = .offMin := by
    rw [hc]
    split
    exacts [.inl rfl, .inr rfl]
  obtain ⟨r, hr⟩ : ∃ r, r = u.setCompressor c := ⟨_, rfl⟩
  have hrcompressor : r.plant.compressor = c := by rw [hr]; rfl
  have hrdemand : r.plant.demandNow r.now = false := by
    rw [hr]
    exact hdemand c
  rw [← hr] at hintervals ⊢
  have hnoted : Leads 1 [.demandTest] r (r.demanding false) := by
    have := Leads.demandTest_noted (s := r) (by
      obtain h | h := hrest
      · exact .inr (.inr (.inr (.inl ⟨hrcompressor.trans h, .inl hrdemand⟩)))
      · exact .inl (hrcompressor.trans h))
    rwa [State.withDemand, hrdemand] at this
  have hstop : Leads 1 [.stopTest] (r.demanding false) (r.demanding false) := by
    refine .stopTest_notRunning fun since h => ?_
    have hc' := hrcompressor.symm.trans h
    obtain h | h := hrest <;> exact nomatch hc'.symm.trans h
  have hridle : r.plant.defrost = .idle := by rw [hr]; exact hidle
  have hrlimit : r.plant.limitApplies = false := by rw [hr]; exact hlimit
  have hrcold : r.plant.exposure < r.plant.cooling.lockoutThreshold ∨ r.plant.lockout = true := by rw [hr]; exact hcold
  exact hintervals.andThen (hnoted.andThen (hstop.andThen ((Leads.defrostTest_idle (s := r.demanding false) hridle).andThen
    ((Leads.condenserTest_none (s := r.demanding false) (.inl hrlimit)).andThen
      (.exposureTest_below (s := r.demanding false) hrcold)))))

end Rest

/-! ### The commit -/

section Commit

variable {s : State} {b : Buffer} (seq : Byte) (p : List Byte)

/-- The plant with a committed Cooling Table. -/
def State.cooled (s : State) (e : List Byte) : PlantUnit := { s.plant with cooling := coolingBytes e }

theorem commit_cooling_of {n : Nat} {e : List Byte} {t : State} (hb : s.tables.staging = .opened b) (hkind : b.kind = .cooling)
    (hentries : b.taken = [e]) (hrange : (coolingBytes e).inRange = true)
    (h : Leads n (coolingActs s.plant.cooling.defrostInterval) { s.committing seq b 0 with plant := s.cooled e } t)
    (hn : n ≤ 4000) : exec (.stageCommit seq p) s = .next (t.committedBy b).conclude := by
  have hsound : ∀ e ∈ b.taken, b.kind.sound e = true := by
    rw [hentries, hkind]
    intro d hd
    obtain rfl := List.mem_singleton.1 hd
    exact hrange
  refine exec_stageCommit_applies seq p hb (by rw [hkind]; nofun) (State.validate_sound _ hsound (by rw [hkind]; decide))
    ((s.takesEffect_iff _).2 (.inl (by rw [hkind]; rfl))) ?_ hn
  rw [hkind, hentries, State.applyLoad, indexed_cons, indexed_nil]
  exact h

/-- The thermostat's decision with the committed table (R101). -/
theorem demandNow_cooled {e : List Byte} {air : Int} (hcab : s.plant.cab.state ≠ .failed) (hair : s.plant.cab.temp = some air)
    (c : Compressor) (now : Nat) :
    { s.cooled e with compressor := c }.demandNow now =
      (decide ((coolingBytes e).setpoint + (coolingBytes e).band ≤ air)
        || (decide ((coolingBytes e).setpoint < air) && s.plant.demand)) := by
  rw [PlantUnit.demandNow_thermostat (p := { s.cooled e with compressor := c }) hcab hair]
  change (if (coolingBytes e).setpoint + (coolingBytes e).band ≤ air then true
    else if air ≤ (coolingBytes e).setpoint then false else s.plant.demand) = _
  split
  · next h => simp [h]
  · next h =>
    split
    · next h' => simp [h, Int.not_lt.2 h']
    · next h' => simp [h, Int.not_le.1 h']

variable {e : List Byte} {air : Int} {d : Bool} (hb : s.tables.staging = .opened b) (hkind : b.kind = .cooling)
  (hentries : b.taken = [e]) (hrange : (coolingBytes e).inRange = true) (hidle : s.plant.defrost = .idle)
  (hcab : s.plant.cab.state ≠ .failed) (hair : s.plant.cab.temp = some air)
  (hd : (decide ((coolingBytes e).setpoint + (coolingBytes e).band ≤ air)
    || (decide ((coolingBytes e).setpoint < air) && s.plant.demand)) = d)
  (hinterval : ¬ ((coolingBytes e).defrostInterval < s.plant.cooling.defrostInterval
    ∧ (coolingBytes e).defrostInterval * 1000 ≤ (s.cooled e).runTotal s.now))
  (hcold : s.plant.exposure < (coolingBytes e).lockoutThreshold ∨ s.plant.lockout = true)
include hb hkind hentries hrange hidle hcab hair hd hinterval hcold

theorem commit_cooling_protecting (hprotecting : s.plant.compressor = .protecting) :
    exec (.stageCommit seq p) s =
      .next (State.committedBy { s.committing seq b 0 with plant := { s.cooled e with demand := d } } b).conclude := by
  refine commit_cooling_of seq p hb hkind hentries hrange
    (Leads.coolingActs_protecting (u := { s.committing seq b 0 with plant := s.cooled e }) hidle hprotecting hinterval ?_ hcold)
    (by decide)
  have := demandNow_cooled (e := e) hcab hair s.plant.compressor s.now
  exact this.trans hd

theorem commit_cooling_offMin (hoff : s.plant.compressor = .offMin) (hnone : d = false)
    (hlimit : (s.cooled e).limitApplies = false) :
    exec (.stageCommit seq p) s =
      .next (State.committedBy { s.committing seq b 0 with
        plant :=
          { s.cooled e with
            demand := false
            compressor := if (coolingBytes e).minOff * 1000 ≤ s.now - s.plant.offSince then .offReady else .offMin } }
        b).conclude :=
  commit_cooling_of seq p hb hkind hentries hrange
    (Leads.coolingActs_offMin (u := { s.committing seq b 0 with plant := s.cooled e }) hidle hoff hinterval
      (fun c => (demandNow_cooled hcab hair c s.now).trans (hd.trans hnone)) hlimit hcold)
    (by decide)

end Commit

end Sys2Proof.Machine

/-! ## The commit of the curve table (R99) -/

namespace Sys2Proof.Machine

theorem entryFor_indexed (first : Nat) (entries : List (List Byte)) (i : Nat) :
    entryFor (indexed first entries) i = if first ≤ i then entries[i - first]? else none := by
  induction entries generalizing first with
  | nil => simp [indexed_nil, entryFor]
  | cons e es ih =>
    have htail := ih (first + 1)
    rw [entryFor] at htail ⊢
    rw [indexed_cons, List.find?_cons]
    by_cases hi : first = i
    · subst hi
      simp
    · simp only [hi, decide_false]
      rw [htail]
      by_cases hle : first ≤ i
      · rw [if_pos (by omega), if_pos hle, show i - first = i - (first + 1) + 1 by omega, List.getElem?_cons_succ]
      · rw [if_neg (by omega), if_neg hle]

section Curve

variable {s : State} {first : Nat} {entries : List (List Byte)} {curve : List CurvePoint}

/-- The Curve Table as it would stand is the one loaded. -/
theorem State.curveAfter_eq (h : Loaded s.plant.curve curve first entries (fun e _ => some (pointBytes e))) :
    s.curveAfter (indexed first entries) = curve := by
  obtain ⟨hlength, hput, hrest⟩ := h
  refine List.ext_getElem? fun i => ?_
  rw [State.curveAfter, List.getElem?_map, List.getElem?_zipIdx]
  cases hx : s.plant.curve[i]? with
  | none =>
    rw [List.getElem?_eq_none_iff] at hx
    exact (List.getElem?_eq_none (hlength ▸ hx)).symm
  | some x =>
    simp only [Option.map_some, Nat.zero_add]
    rw [entryFor_indexed]
    by_cases hin : first ≤ i ∧ i < first + entries.length
    · obtain ⟨hle, hlt⟩ := hin
      obtain ⟨e, he⟩ : ∃ e, entries[i - first]? = some e := ⟨_, List.getElem?_eq_getElem (by omega)⟩
      have hnew := hput (i - first) e x (pointBytes e) he (by rw [show first + (i - first) = i by omega, hx]) rfl
      rw [show first + (i - first) = i by omega] at hnew
      rw [if_pos hle, he, hnew]
    · have hnone : (if first ≤ i then entries[i - first]? else none) = none := by
        split
        · exact List.getElem?_eq_none (by omega)
        · rfl
      rw [hnone, hrest i (by omega), hx]

/-- A bad index of the Curve Table as it would stand (R99). -/
def BadPoint (first count : Nat) (curve : List CurvePoint) (i : Nat) : Prop :=
  first ≤ i ∧ i < first + count ∧ (curve.getD i ⟨0, 0⟩).inRange = false
    ∨ (∃ j, j < count ∧ (first + j) / 8 = i / 8) ∧ i % 8 ≠ 0
      ∧ (curve.getD i ⟨0, 0⟩).count ≤ (curve.getD (i - 1) ⟨0, 0⟩).count

theorem curveBad_iff (first : Nat) (entries : List (List Byte)) (curve : List CurvePoint) (i : Nat) :
    curveBad (indexed first entries) curve i = true ↔ BadPoint first entries.length curve i := by
  have hentry : (entryFor (indexed first entries) i).isSome = true ↔ first ≤ i ∧ i < first + entries.length := by
    rw [entryFor_indexed]
    by_cases hle : first ≤ i
    · rw [if_pos hle, Option.isSome_iff_exists]
      simp only [List.getElem?_eq_some_iff]
      exact ⟨fun ⟨_, h, _⟩ => ⟨hle, by omega⟩, fun h => ⟨_, by omega, rfl⟩⟩
    · simp [hle]
  have htouched : ((indexed first entries).any fun e => decide (e.1 / 8 = i / 8)) = true ↔
      ∃ j, j < entries.length ∧ (first + j) / 8 = i / 8 := by
    rw [List.any_eq_true]
    constructor
    · rintro ⟨x, hx, h⟩
      obtain ⟨hle, hget⟩ := mem_indexed.1 hx
      refine ⟨x.1 - first, (List.getElem?_eq_some_iff.1 hget).1, ?_⟩
      rw [show first + (x.1 - first) = x.1 by omega]
      exact of_decide_eq_true h
    · rintro ⟨j, hj, h⟩
      refine ⟨(first + j, entries[j]), mem_indexed.2 ⟨by simp, ?_⟩, decide_eq_true h⟩
      rw [show first + j - first = j by omega]
      exact List.getElem?_eq_getElem hj
  rw [curveBad, BadPoint]
  simp only [Bool.or_eq_true, Bool.and_eq_true, hentry, htouched, Bool.not_eq_true', decide_eq_true_eq, and_assoc]

/-- Points in range whose touched curves rise are not bad (R99). -/
theorem not_badPoint (h : Loaded s.plant.curve curve first entries (fun e _ => some (pointBytes e)))
    (hlength : s.plant.curve.length = 24) (hend : first + entries.length ≤ 24)
    (hrange : ∀ e ∈ entries, (pointBytes e).inRange = true)
    (hrising : ∀ j, j < entries.length → Rising ((curve.drop (8 * ((first + j) / 8))).take 8)) {i : Nat} (hi : i < 24) :
    ¬ BadPoint first entries.length curve i := by
  obtain ⟨hsame, hput, -⟩ := h
  rintro (⟨hle, hlt, hbad⟩ | ⟨⟨j, hj, hblock⟩, hnotFirst, hcount⟩)
  · obtain ⟨e, he⟩ : ∃ e, entries[i - first]? = some e := ⟨_, List.getElem?_eq_getElem (by omega)⟩
    have hold : s.plant.curve[i]? = some s.plant.curve[i] := List.getElem?_eq_getElem (by omega)
    have hnew := hput (i - first) e s.plant.curve[i] (pointBytes e) he
      (by rw [show first + (i - first) = i by omega, hold]) rfl
    rw [show first + (i - first) = i by omega] at hnew
    rw [List.getD_eq_getElem?_getD, hnew, Option.getD_some, hrange e (List.mem_of_getElem? he)] at hbad
    exact nomatch hbad
  · have hlt : i < curve.length := by omega
    have hpair := List.pairwise_iff_getElem.1 (hrising j hj) (i % 8 - 1) (i % 8)
      (by rw [List.length_take, List.length_drop]; omega) (by rw [List.length_take, List.length_drop]; omega) (by omega)
    simp only [List.getElem_take, List.getElem_drop, hblock] at hpair
    have hhere : 8 * (i / 8) + i % 8 = i := Nat.div_add_mod i 8
    have hbefore : 8 * (i / 8) + (i % 8 - 1) = i - 1 := by omega
    simp only [hhere, hbefore] at hpair
    rw [List.getD_eq_getElem _ _ hlt, List.getD_eq_getElem _ _ (by omega)] at hcount
    omega

end Curve

section Commit

variable {s : State} {b : Buffer} (seq : Byte) (p : List Byte) {curve : List CurvePoint}
  (hb : s.tables.staging = .opened b) (hkind : b.kind = .curve)
  (hload : Loaded s.plant.curve curve b.first b.taken (fun e _ => some (pointBytes e)))
include hb hkind hload

theorem commit_curve (hlength : s.plant.curve.length = 24) (hend : b.first + b.taken.length ≤ 24)
    (hrange : ∀ e ∈ b.taken, (pointBytes e).inRange = true)
    (hrising : ∀ j, j < b.taken.length → Rising ((curve.drop (8 * ((b.first + j) / 8))).take 8)) :
    exec (.stageCommit seq p) s =
      .next (State.committedBy { s.committing seq b 0 with plant := { s.plant with curve := curve } } b).conclude := by
  have hnone : (List.range 24).find? (curveBad (indexed b.first b.taken) curve) = none := by
    rw [List.find?_eq_none]
    intro i hi hbad
    exact not_badPoint hload hlength hend hrange hrising (List.mem_range.1 hi) ((curveBad_iff _ _ _ _).1 hbad)
  have hafter : s.frameTaken.curveAfter (indexed b.first b.taken) = curve := State.curveAfter_eq (s := s.frameTaken) hload
  have hafter' : (s.committing seq b 0).curveAfter (indexed b.first b.taken) = curve :=
    State.curveAfter_eq (s := s.committing seq b 0) hload
  refine exec_stageCommit_applies (n := 0) seq p hb (by rw [hkind]; nofun) ?_ ((s.takesEffect_iff _).2 (.inl (by rw [hkind]; rfl)))
    ?_ (by decide)
  · rw [hkind, State.validate, hafter, hnone]
    rfl
  · rw [hkind, State.applyLoad, hafter']
    exact .nil _

theorem commit_curve_bad {i : Nat} (hi : i < 24) (hbad : BadPoint b.first b.taken.length curve i)
    (hbefore : ∀ k, k < i → ¬ BadPoint b.first b.taken.length curve k) :
    exec (.stageCommit seq p) s = .next (s.frameTaken.refuse seq .badArgument [u8 i]) := by
  have hfirst : (List.range 24).find? (curveBad (indexed b.first b.taken) curve) = some i := by
    refine List.find?_range_eq_some.2 ⟨(curveBad_iff _ _ _ _).2 hbad, List.mem_range.2 hi, fun k hk => ?_⟩
    rw [Bool.not_eq_true', Bool.eq_false_iff]
    exact mt (curveBad_iff _ _ _ _).1 (hbefore k hk)
  have hafter : s.frameTaken.curveAfter (indexed b.first b.taken) = curve := State.curveAfter_eq (s := s.frameTaken) hload
  refine exec_stageCommit_bad seq p hb (by rw [hkind]; nofun) ?_
  rw [hkind, State.validate, hafter, hfirst]
  rfl

end Commit

end Sys2Proof.Machine

/-! ## The commit of the channel table (R129) -/

namespace Sys2Proof.Machine

/-! ### The table as it would stand -/

/-- A channel entry beside the one before it takes its node, its host node or its money role (R129). -/
def Collides (x y : ChannelEntry) : Prop :=
  x.hostNode ≠ 0 ∧ y.hostNode ≠ 0 ∧ (x.hostNode = y.hostNode ∨ x.node = y.node ∨ x.role = y.role ∧ y.role ≠ .passive)

/-- The entry of channel `m` is bad beside those before it. -/
def Clashes (cfg : Nat → ChannelEntry) (m : Nat) : Prop :=
  (∃ k, k < m ∧ Collides (cfg k) (cfg m)) ∨ 32 < ((List.range (m + 1)).map fun k => (cfg k).allocation).sum

theorem clashes_iff (cfg : Nat → ChannelEntry) (m : Nat) :
    (cfg m).clashes ((List.range m).map cfg) = true ↔ Clashes cfg m := by
  have hsum : ((List.range (m + 1)).map fun k => (cfg k).allocation).sum =
      (((List.range m).map cfg).map ChannelEntry.allocation).sum + (cfg m).allocation := by
    rw [List.range_succ, List.map_append, List.sum_append, List.map_map]
    rfl
  rw [ChannelEntry.clashes, Clashes, hsum]
  simp only [Bool.or_eq_true, List.any_eq_true, List.mem_map, List.mem_range, Bool.and_eq_true, decide_eq_true_eq, Collides,
    exists_exists_and_eq_and, and_assoc, or_assoc]
  rfl

section First

variable {cfg : Nat → ChannelEntry}

/-- The first channel whose entry is out of range, or clashes. -/
theorem firstBadChannel_eq_some (i : Nat) : ∀ {os : List (Option ChannelEntry)} {m : Nat} {o : Option ChannelEntry},
    (∀ k, k < i → os[k]? = some (some (cfg (m + k))) ∧ ¬ Clashes cfg (m + k)) → os[i]? = some o →
    (o = none ∨ o = some (cfg (m + i)) ∧ Clashes cfg (m + i)) →
    firstBadChannel os ((List.range m).map cfg) = some (m + i) := by
  induction i with
  | zero =>
    intro os m o _ ho hbad
    rw [Nat.add_zero] at hbad ⊢
    cases os with
    | nil => exact nomatch ho
    | cons x xs =>
      obtain rfl : x = o := Option.some.inj ho
      obtain rfl | ⟨rfl, hclash⟩ := hbad
      · simp [firstBadChannel]
      · rw [firstBadChannel, if_pos ((clashes_iff cfg m).2 hclash)]
        simp
  | succ i ih =>
    intro os m o hgood ho hbad
    cases os with
    | nil => exact nomatch ho
    | cons x xs =>
      obtain ⟨hx, hclean⟩ := hgood 0 (Nat.succ_pos i)
      obtain rfl : x = some (cfg m) := Option.some.inj hx
      have hnext : (List.range m).map cfg ++ [cfg m] = (List.range (m + 1)).map cfg := by
        rw [List.range_succ, List.map_append]
        rfl
      have hshift : ∀ k, m + 1 + k = m + (k + 1) := fun k => by omega
      rw [firstBadChannel, if_neg fun h => hclean ((clashes_iff cfg m).1 h), hnext, ← hshift i]
      refine ih (os := xs) (m := m + 1) (o := o) (fun k hk => ?_) ho ?_
      · rw [hshift]
        exact hgood (k + 1) (Nat.succ_lt_succ hk)
      · rw [hshift]
        exact hbad

/-- Without a clash no channel is bad. -/
theorem firstBadChannel_eq_none : ∀ {os : List (Option ChannelEntry)} {m : Nat},
    (∀ k, k < os.length → os[k]? = some (some (cfg (m + k))) ∧ ¬ Clashes cfg (m + k)) →
    firstBadChannel os ((List.range m).map cfg) = none
  | [], _, _ => rfl
  | x :: xs, m, h => by
    obtain ⟨hx, hclean⟩ := h 0 (Nat.succ_pos _)
    obtain rfl : x = some (cfg m) := Option.some.inj hx
    have hnext : (List.range m).map cfg ++ [cfg m] = (List.range (m + 1)).map cfg := by
      rw [List.range_succ, List.map_append]
      rfl
    have hshift : ∀ k, m + 1 + k = m + (k + 1) := fun k => by omega
    rw [firstBadChannel, if_neg fun h => hclean ((clashes_iff cfg m).1 h), hnext]
    refine firstBadChannel_eq_none fun k hk => ?_
    rw [hshift]
    exact h (k + 1) (Nat.succ_lt_succ hk)

end First

/-- The entry of a channel as a commit of `e` at `first` would leave it. -/
def State.cfgAfter (s : State) (first : Nat) (e : List Byte) (m : Nat) : ChannelEntry :=
  if m = first then (channelOf e).getD (s.channel m).cfg else (s.channel m).cfg

theorem State.channelsAfter_getElem? {s : State} (hlength : s.bridge.channels.length = 4) (first : Nat) (e : List Byte) {m : Nat}
    (hm : m < 4) :
    (s.channelsAfter (indexed first [e]))[m]? = some (if m = first then channelOf e else some (s.channel m).cfg) := by
  have hchannel : s.bridge.channels[m]? = some (s.channel m) := by
    rw [State.channel, List.getD_eq_getElem _ _ (by omega)]
    exact List.getElem?_eq_getElem (by omega)
  rw [State.channelsAfter, List.getElem?_map, List.getElem?_zipIdx, hchannel]
  simp only [Option.map_some, Nat.zero_add]
  rw [entryFor_indexed]
  congr 1
  by_cases h : m = first
  · subst h
    simp
  · have hnone : (if first ≤ m then [e][m - first]? else none) = none := by
      split
      · exact List.getElem?_eq_none (by simp; omega)
      · rfl
    rw [hnone, if_neg h]

theorem State.channelsAfter_length (s : State) (es : List (Nat × List Byte)) :
    (s.channelsAfter es).length = s.bridge.channels.length := by
  simp [State.channelsAfter]

section Commit

variable {s : State} {b : Buffer} {e : List Byte} (seq : Byte) (p : List Byte) (hb : s.tables.staging = .opened b)
  (hkind : b.kind = .channel) (hconfig : s.tables.mode = .config) (hentries : b.taken = [e])
  (hlength : s.bridge.channels.length = 4)
include hb hkind hconfig hentries hlength

theorem commit_channel_bad {i : Nat} (hi : i < 4)
    (hbad : i = b.first ∧ channelOf e = none ∨ Clashes (s.cfgAfter b.first e) i)
    (hbefore : ∀ m, m < i → ¬ (m = b.first ∧ channelOf e = none ∨ Clashes (s.cfgAfter b.first e) m)) :
    exec (.stageCommit seq p) s = .next (s.frameTaken.refuse seq .badArgument [u8 i]) := by
  have hafter := fun {m} (hm : m < 4) =>
    State.channelsAfter_getElem? (s := s.frameTaken) hlength b.first e hm
  have hentry : ∀ m, ¬ (m = b.first ∧ channelOf e = none) →
      (if m = b.first then channelOf e else some (s.frameTaken.channel m).cfg) = some (s.cfgAfter b.first e m) := by
    intro m hm
    rw [State.cfgAfter]
    by_cases h : m = b.first
    · rw [if_pos h, if_pos h]
      obtain ⟨x, hx⟩ := Option.ne_none_iff_exists'.1 fun hnone => hm ⟨h, hnone⟩
      rw [hx]
      rfl
    · rw [if_neg h, if_neg h]
      rfl
  have hfirst : firstBadChannel (s.frameTaken.channelsAfter (indexed b.first [e])) [] = some i := by
    have := firstBadChannel_eq_some (cfg := s.cfgAfter b.first e) i (os := s.frameTaken.channelsAfter (indexed b.first [e]))
      (m := 0) (o := if i = b.first then channelOf e else some (s.frameTaken.channel i).cfg) (fun k hk => ?_) (hafter hi) ?_
    · rwa [Nat.zero_add] at this
    · rw [Nat.zero_add, hafter (by omega), hentry k fun h => hbefore k hk (.inl h)]
      exact ⟨rfl, fun h => hbefore k hk (.inr h)⟩
    · rw [Nat.zero_add]
      by_cases hnone : i = b.first ∧ channelOf e = none
      · exact .inl (by rw [if_pos hnone.1, hnone.2])
      · exact .inr ⟨hentry i hnone, hbad.resolve_left hnone⟩
  refine exec_stageCommit_bad seq p hb (fun _ => hconfig) ?_
  rw [hkind, hentries, State.validate, hfirst]

variable {x : ChannelEntry} (hx : channelOf e = some x)
  (halone : ∀ n, n < 4 → n ≠ b.first → (s.channel n).cfg.hostNode = 0)
  (hpool : ((s.bridge.channels.set b.first { s.channel b.first with cfg := x }).map fun c => c.cfg.allocation).sum ≤ 32)
include hx halone hpool

omit hb hconfig in
theorem validate_channel_alone :
    s.frameTaken.validate b.kind (indexed b.first b.taken) = if s.channelBusy b.first = true then .busy else .passes := by
  have hcfg : ∀ m, m ≠ b.first → s.cfgAfter b.first e m = (s.channel m).cfg := fun m h => if_neg h
  have hown : s.cfgAfter b.first e b.first = x := by
    rw [State.cfgAfter, if_pos rfl, hx]
    rfl
  have htotal : ((List.range 4).map fun k => (s.cfgAfter b.first e k).allocation).sum ≤ 32 := by
    refine le_of_eq_of_le (congrArg List.sum (List.ext_getElem? fun m => ?_)) hpool
    by_cases hm : m < 4
    · have hchannel : s.bridge.channels[m]? = some (s.channel m) := by
        rw [State.channel, List.getD_eq_getElem _ _ (by omega)]
        exact List.getElem?_eq_getElem (by omega)
      rw [List.getElem?_map, List.getElem?_range hm, List.getElem?_map]
      by_cases h : m = b.first
      · rw [h, List.getElem?_set_self (by omega), Option.map_some, Option.map_some, hown]
      · rw [List.getElem?_set_ne (Ne.symm h), hchannel, Option.map_some, Option.map_some, hcfg m h]
    · rw [List.getElem?_eq_none (by simp; omega), List.getElem?_eq_none (by simp; omega)]
  have hclean : ∀ m, m < 4 → ¬ Clashes (s.cfgAfter b.first e) m := by
    rintro m hm (⟨k, hk, hleft, hright, -⟩ | hsum)
    · by_cases h : m = b.first
      · exact hleft (by rw [hcfg k (by omega)]; exact halone k (by omega) (by omega))
      · exact hright (by rw [hcfg m h]; exact halone m hm h)
    · have hsplit : List.range 4 = List.range (m + 1) ++ (List.range (3 - m)).map (m + 1 + ·) := by
        rw [← List.range_add]
        congr 1
        omega
      rw [hsplit, List.map_append, List.sum_append] at htotal
      omega
  have hnone : firstBadChannel (s.frameTaken.channelsAfter (indexed b.first [e])) [] = none := by
    refine firstBadChannel_eq_none (cfg := s.cfgAfter b.first e) (m := 0) fun k hk => ?_
    rw [State.channelsAfter_length, State.frameTaken_bridge, hlength] at hk
    rw [Nat.zero_add, State.channelsAfter_getElem? (s := s.frameTaken) hlength b.first e hk]
    refine ⟨congrArg some ?_, hclean k hk⟩
    by_cases h : k = b.first
    · rw [if_pos h, hx, h, hown]
    · rw [if_neg h, hcfg k h]
      rfl
  rw [hkind, hentries, State.validate, hnone, indexed_cons, indexed_nil]
  simp only [List.any_cons, List.any_nil, Bool.or_false]
  rfl

theorem commit_channel_busy
    (hbusy : (s.channel b.first).queue ≠ [] ∨ (s.channel b.first).slot ≠ none
      ∨ ∃ y, s.bridge.line = .waiting y ∧ y.channel = b.first) :
    exec (.stageCommit seq p) s = .next (s.frameTaken.refuse seq .busy) := by
  refine exec_stageCommit_busy seq p hb (fun _ => hconfig)
    ((validate_channel_alone hkind hentries hlength hx halone hpool).trans (if_pos ?_))
  rw [State.channelBusy, State.onBus]
  obtain h | h | ⟨y, hline, hchannel⟩ := hbusy
  · simp [h]
  · simp [Option.isSome_iff_ne_none.2 h]
  · rw [hline]
    simp [hchannel]

/-- The channel that a commit restarts (R129). -/
def Channel.restarted (c : Channel) (x : ChannelEntry) (now : Nat) : Channel :=
  { c with
    cfg := x, state := if x.hostNode = 0 then .disabled else .probing, misses := 0, lastEvent := none, lastProbe := now }

theorem commit_channel (hfirst : b.first < 4) (hline : s.bridge.line = .guarding s.now) (hqueue : (s.channel b.first).queue = [])
    (hslot : (s.channel b.first).slot = none) :
    exec (.stageCommit seq p) s =
      .next (State.committedBy
        { s.committing seq b 0 with
          bridge :=
            { s.bridge with
              channels := s.bridge.channels.set b.first ((s.channel b.first).restarted x s.now) }
          credit :=
            { s.credit with
              settlements :=
                if x.hostNode ≠ 0 ∧ x.role = .cardReader then
                  s.credit.settlements.map fun r => { r with channel := b.first }
                else s.credit.settlements } } b).conclude := by
  have hpasses := validate_channel_alone hkind hentries hlength hx halone hpool
  rw [if_neg (by simp [State.channelBusy, State.onBus, hline, hqueue, hslot])] at hpasses
  obtain ⟨w, hw⟩ : ∃ w : State, w = State.putChannel (s.committing seq b 0) b.first ((s.channel b.first).restarted x s.now) :=
    ⟨_, rfl⟩
  have hcommit : (s.channel b.first).commit x s.now = (s.channel b.first).restarted x s.now := by
    rw [Channel.commit, Channel.restarted, ← hqueue, ← hslot]
  have hput : (State.modBridge (s.committing seq b 0) fun v =>
      { v with
        channels := putEntries (fun e c => match channelOf e with
          | some x => c.commit x (s.committing seq b 0).now
          | none => c) 0 (indexed b.first b.taken) v.channels }) = w := by
    rw [hentries, indexed_cons, indexed_nil, hw, ← hcommit]
    change State.modBridge _ (fun v => { v with channels := editAt _ (b.first - 0) v.channels }) = _
    rw [Nat.sub_zero, State.modBridge]
    simp only [editAt_eq_set_getD _ Channel.reset, hx]
    rfl
  have hload : (s.committing seq b 0).applyLoad b.kind (indexed b.first b.taken) =
      (w.rehomeSettlements,
        (match w.roleChannel .cardReader with
          | some n => if w.credit.settlements.any (fun r => r.channel ≠ n) then [.moveSettlement n] else []
          | none => []) ++ [.look]) := by
    rw [hkind, ← hput]
    rfl
  have hown : w.channel b.first = (s.channel b.first).restarted x s.now := by
    rw [hw]
    exact State.channel_putChannel (s := s.committing seq b 0) (by rw [show (s.committing seq b 0).bridge = s.bridge from rfl]; omega) _
  have hothers : ∀ n, n ≠ b.first → w.channel n = s.channel n := by
    intro n hn
    rw [hw, ← State.modChannel_eq_put (s.committing seq b 0) b.first fun _ => (s.channel b.first).restarted x s.now]
    exact State.channel_modChannel_of_ne hn _
  have hrole : ∀ n, HasRole w .cardReader n ↔ n = b.first ∧ x.hostNode ≠ 0 ∧ x.role = .cardReader := by
    intro n
    constructor
    · rintro ⟨⟨hn, hhost, hcard⟩, -⟩
      by_cases h : n = b.first
      · rw [h, hown] at hhost hcard
        exact ⟨h, hhost, hcard⟩
      · rw [hothers n h] at hhost
        exact absurd (halone n hn h) hhost
    · rintro ⟨rfl, hhost, hcard⟩
      refine ⟨⟨hfirst, by rw [hown]; exact hhost, by rw [hown]; exact hcard⟩, fun m hm => .inl ?_⟩
      rw [hothers m (by omega)]
      exact halone m (by omega) (by omega)
  have hlook : ∀ v : State, v.bridge = w.bridge → Leads 1 [.look] v v := by
    intro v hv
    refine .done (congrArg (·, []) ?_)
    exact v.looked_lookForWork.1 (.inl (by rw [hv, hw]; exact fun h => nomatch hline.symm.trans h))
  refine exec_stageCommit_applies (n := 2) seq p hb (fun _ => hconfig) hpasses ((s.takesEffect_iff _).2 (.inr (.inl hconfig))) ?_
    (by decide)
  rw [hload]
  dsimp only
  by_cases hreader : x.hostNode ≠ 0 ∧ x.role = .cardReader
  · rw [if_pos hreader]
    have hchannel : w.roleChannel .cardReader = some b.first := State.roleChannel_iff.2 ((hrole _).2 ⟨rfl, hreader⟩)
    rw [State.rehomeSettlements, hchannel]
    dsimp only
    obtain ⟨v, hv⟩ : ∃ v : State, v = w.modCredit fun c =>
        { c with settlements := c.settlements.map fun r => { r with channel := b.first } } := ⟨_, rfl⟩
    have hstays : Leads 1 [.moveSettlement b.first] v v := by
      have haway : (v.channel b.first).isReady = false := by
        rw [hv]
        change (w.channel b.first).isReady = false
        rw [hown, Channel.isReady, Channel.restarted, if_neg hreader.1]
        rfl
      refine .done ?_
      change v.moveHead b.first = _
      rw [State.moveHead, haway]
      split <;> rfl
    have hacts : Leads 2 ((if w.credit.settlements.any (fun r => decide (r.channel ≠ b.first)) = true
        then [.moveSettlement b.first] else []) ++ [.look]) v v := by
      have hlast := hlook v (by rw [hv]; rfl)
      split
      · exact hstays.andThen hlast
      · exact hlast.mono (by decide)
    rw [← hv]
    refine (congrArg (Leads 2 _ v) ?_).mp hacts
    rw [hv, hw]
    rfl
  · rw [if_neg hreader]
    have hchannel : w.roleChannel .cardReader = none := by
      rw [Option.eq_none_iff_forall_ne_some]
      exact fun n h => hreader ((hrole n).1 (State.roleChannel_iff.1 h)).2
    rw [State.rehomeSettlements, hchannel]
    have := hlook w rfl
    rw [hw] at this ⊢
    exact this.mono (by decide)

end Commit

end Sys2Proof.Machine

/-! ## Settling the commits -/

namespace Sys2Proof.Machine

/-- Settles O57, clause by clause along the buffer's state and the table's kind. -/
theorem commitsTaken : Obligations.CommitsTaken := by
  refine ⟨fun s q p b hpending hkind hopen hcard hdue hvends =>
    endSession_loads q p hpending hkind hopen hcard hdue hvends, ?_⟩
  intro s seq p out
  refine ⟨fun h => ?_, fun b h => ?_, ?_⟩
  · change execStageCommit seq p s = _
    rw [execStageCommit, State.frameTaken_tables, h]
  · change execStageCommit seq p s = _
    rw [execStageCommit, State.frameTaken_tables, h]
  · intro b hb entries answer applied now sound taken
    refine ⟨?_, ?_, ?_, ?_, ?_, ?_, ?_, ?_, ?_, ?_, ?_, ?_, ?_, ?_, ?_⟩
    · intro htiming hmode
      change execStageCommit seq p s = _
      rw [execStageCommit, State.frameTaken_tables, hb]
      exact if_pos ⟨htiming, hmode⟩
    · intro hmode j e hj hbad hbefore
      exact commit_unsound seq p hb hmode hj hbad hbefore
    · intro htiming hsound hnow
      exact commit_waits seq p hb htiming hsound hnow
    · intro hkind hsound hnow
      exact commit_note seq p hb hkind hsound hnow
    · intro hkind hsound hnow
      exact commit_coin seq p hb hkind hsound hnow
    · intro hkind hfirst hsound hconfig
      exact commit_tube seq p hb hkind hfirst hsound hconfig
    · intro e policy hkind hentries hpolicy hnow
      exact commit_policy seq p hb hkind hentries hpolicy hnow
    · intro hkind hsound hnow hvends
      exact commit_selection seq p hb hkind hsound hnow hvends
    · intro v e hkind hentries _ hconfig honly hqueued hfirst hprice y hy hin hcold x xs
      exact commit_selection_cancels seq p hb hkind hentries hconfig honly hqueued hfirst hprice hy hin hcold
    · intro e air hkind hentries hrange hidle hcab hair q demand hinterval hcold
      refine ⟨fun hprotecting => ?_, fun hoff hnone hlimit => ?_⟩
      · exact commit_cooling_protecting seq p hb hkind hentries hrange hidle hcab hair rfl hinterval hcold hprotecting
      · exact commit_cooling_offMin seq p hb hkind hentries hrange hidle hcab hair rfl hinterval hcold hoff hnone hlimit
    · intro curve hkind hload hlength hend hrange hrising
      exact commit_curve seq p hb hkind hload hlength hend hrange hrising
    · intro curve i hkind hload _ _ point bad hi hbad hbefore
      exact commit_curve_bad seq p hb hkind hload hi hbad hbefore
    · intro e i hkind hconfig hentries hlength cfg bad hi hbad hbefore
      have hiff : ∀ m, bad m ↔ m = b.first ∧ channelOf e = none ∨ Clashes (s.cfgAfter b.first e) m := fun m => Iff.rfl
      exact commit_channel_bad seq p hb hkind hconfig hentries hlength hi ((hiff i).1 hbad) fun m hm h => hbefore m hm ((hiff m).2 h)
    · intro e x hkind hconfig hentries hx hlength hfirst halone hpool c
      refine ⟨fun hline hqueue hslot => ?_, fun hbusy => ?_⟩
      · exact commit_channel seq p hb hkind hconfig hentries hlength hx halone hpool hfirst hline hqueue hslot
      · exact commit_channel_busy seq p hb hkind hconfig hentries hlength hx halone hpool hbusy
    · intro e hkind hconfig hentries hrange
      exact commit_load seq p hb hkind hconfig hentries hrange

end Sys2Proof.Machine

/-! ## What a close sets going comes to an end (02, sections 2.7 to 2.9; 03, section 3.4; 07, section 7.3)

Every act that a close of the session can bring about pays a toll, and so do the claims that wait, a change due that is deferred
and a defrost that is under way. Each act lowers the sum, so that the acts come to an end whatever the load's grants are. -/

namespace Sys2Proof.Machine

/-! ### The tolls -/

/-- The claims that a close can bring about: PAYOUT, a DEFROST taken back for it, and COMPRESSOR_START behind a defrost's end. -/
def LoadKind.closes : LoadKind → Bool
  | .payout | .compressorStart | .defrost => true
  | .motor _ | .compressorRun => false

def LoadKind.toll : LoadKind → Nat
  | .payout => 15
  | .compressorStart => 10
  | .defrost => 5
  | .motor _ | .compressorRun => 0

/-- What the grant of a claim costs. -/
def LoadKind.grantToll : LoadKind → Nat
  | .payout => 8
  | .compressorStart => 4
  | .defrost => 3
  | .motor _ | .compressorRun => 0

theorem LoadKind.grantToll_le {k : LoadKind} (h : k.closes = true) : k.grantToll + 2 ≤ k.toll := by
  cases k
  case motor | compressorRun => exact nomatch h
  all_goals decide

theorem LoadKind.grantToll_le_of_ne {k : LoadKind} (h : k.closes = true) (hne : k ≠ .defrost) : k.grantToll + 6 ≤ k.toll := by
  cases k
  case motor | compressorRun => exact nomatch h
  case defrost => exact absurd rfl hne
  all_goals decide

def Defrost.toll : Defrost → Nat
  | .claiming _ | .heating _ _ | .suspended _ => 30
  | .drip _ _ => 20
  | .idle | .due _ => 0

def Act.closes : Act → Bool
  | .place k _ | .granted k _ => k.closes
  | .decide | .withdraw _ _ | .release _ _ | .completeClose | .closeRest | .handOver _ | .closeCash _ | .applyPending | .startRun _
  | .nextCoin | .runEnded | .dispenseEnded | .demandTest | .defrostTest | .dripEntered _ _ | .dripDone | .look
  | .replySession _ => true
  | _ => false

def Act.toll : Act → Nat
  | .closeRest => 25
  | .completeClose => 24
  | .handOver _ => 22
  | .startRun _ => 18
  | .demandTest => 14
  | .place k _ => k.toll + 2
  | .granted k _ => k.grantToll
  | .nextCoin => 7
  | .runEnded => 3
  | .withdraw _ _ | .release _ _ | .closeCash _ | .dripEntered _ _ => 2
  | .decide | .applyPending | .dispenseEnded | .defrostTest | .dripDone | .look | .replySession _ => 1
  | _ => 0

def actsToll (acts : List Act) : Nat := (acts.map Act.toll).sum

/-- The claims that wait, and the placements that are held. -/
def LoadUnit.toll (l : LoadUnit) : Nat :=
  (l.queue.map fun c => c.kind.toll).sum + (l.held.map fun h => h.kind.toll).sum

def State.toll (s : State) : Nat :=
  s.load.toll + (if s.change.deferred.isSome = true then 20 else 0) + s.plant.defrost.toll

/-! ### The load (R121 to R123) -/

/-- Only claims that a close can bring about wait; a DEFROST has no priority to take another back. -/
structure LoadUnit.Closing (l : LoadUnit) : Prop where
  queued : ∀ c ∈ l.queue, c.kind.closes = true ∧ (c.kind = .defrost → 4 ≤ c.priority)
  held : ∀ h ∈ l.held, h.kind.closes = true

theorem sum_map_filter_le {α : Type} (f : α → Nat) (p : α → Bool) (l : List α) : ((l.filter p).map f).sum ≤ (l.map f).sum :=
  (List.filter_sublist.map f).sum_le_sum fun _ _ => Nat.zero_le _

theorem add_sum_filter_le {α : Type} (f : α → Nat) {p : α → Bool} {x : α} {l : List α} (hx : x ∈ l) (hp : p x = false) :
    f x + ((l.filter p).map f).sum ≤ (l.map f).sum := by
  induction l with
  | nil => exact nomatch hx
  | cons y ys ih =>
    rw [List.map_cons, List.sum_cons]
    obtain rfl | hx := List.mem_cons.1 hx
    · rw [List.filter_cons_of_neg (by simp [hp])]
      exact Nat.add_le_add_left (sum_map_filter_le f p ys) _
    · have hrest := ih hx
      have hhead : ((List.filter p (y :: ys)).map f).sum ≤ f y + ((ys.filter p).map f).sum := by
        rw [List.filter_cons]
        split <;> simp
      omega

theorem enqueue_toll (c : Claim) (q : List Claim) :
    ((enqueue c q).map fun c => c.kind.toll).sum = c.kind.toll + (q.map fun c => c.kind.toll).sum :=
  ((enqueue_perm c q).map _).sum_eq

section Load

variable {l : LoadUnit}

theorem LoadUnit.enter_toll (now : Nat) (k : LoadKind) (o : Claimant) : (l.enter now k o).toll = l.toll + k.toll := by
  simp only [LoadUnit.enter, LoadUnit.toll, enqueue_toll]
  omega

theorem LoadUnit.Closing.enter (h : l.Closing) (now : Nat) {k : LoadKind} (hk : k.closes = true) (o : Claimant) :
    (l.enter now k o).Closing := by
  refine ⟨fun c hc => ?_, h.held⟩
  obtain rfl | hc := List.mem_cons.1 ((enqueue_perm _ _).mem_iff.1 hc)
  · exact ⟨hk, fun hdefrost => by
      dsimp only at hdefrost ⊢
      rw [hdefrost]
      decide⟩
  · exact h.queued c hc

theorem LoadUnit.Closing.filter (h : l.Closing) (p : Claim → Bool) (gs : List Grant) :
    LoadUnit.Closing { l with queue := l.queue.filter p, granted := gs } :=
  ⟨fun c hc => h.queued c (List.mem_of_mem_filter hc), h.held⟩

theorem LoadUnit.Closing.filterHeld (h : l.Closing) (p : HeldClaim → Bool) : LoadUnit.Closing { l with held := l.held.filter p } :=
  ⟨h.queued, fun x hx => h.held x (List.mem_of_mem_filter hx)⟩

theorem LoadUnit.Closing.letIn (h : l.Closing) (now : Nat) (k : LoadKind) :
    (l.letIn now k).Closing ∧ (l.letIn now k).toll ≤ l.toll := by
  rw [LoadUnit.letIn]
  split
  · next x hx =>
    have hkind : x.kind = k := by simpa using List.find?_some hx
    have hmem := List.mem_of_find?_eq_some hx
    refine ⟨(h.filterHeld _).enter now (hkind ▸ h.held x hmem) x.owner, ?_⟩
    rw [LoadUnit.enter_toll]
    have hremoved : k.toll + ((l.held.filter fun y => decide (y.kind ≠ k)).map fun y => y.kind.toll).sum ≤
        (l.held.map fun y => y.kind.toll).sum := by
      rw [← hkind]
      exact add_sum_filter_le (fun y : HeldClaim => y.kind.toll) hmem (by simp)
    simp only [LoadUnit.toll]
    omega
  · exact ⟨h, le_rfl⟩

end Load

/-! ### Each act lowers the toll -/

/-- The machine in which a close's acts are under way. -/
structure Closing (s : State) : Prop where
  pending : NothingPending s
  load : s.load.Closing

/-- What an act of a close leaves, with less than `n` to pay. -/
structure Pays (n : Nat) (d : Doing) : Prop where
  closing : Closing d.1
  acts : ∀ a ∈ d.2, a.closes = true
  less : d.1.toll + actsToll d.2 < n

/-- A state whose load, deferred change, defrost and buffer are those of another. -/
structure TollSame (s t : State) : Prop where
  load : t.load = s.load
  deferred : t.change.deferred = s.change.deferred
  defrost : t.plant.defrost.toll = s.plant.defrost.toll
  staging : t.tables.staging = s.tables.staging

theorem TollSame.toll {s t : State} (h : TollSame s t) : t.toll = s.toll := by
  rw [State.toll, State.toll, h.load, h.deferred, h.defrost]

theorem TollSame.closing {s t : State} (h : TollSame s t) (hs : Closing s) : Closing t :=
  ⟨fun b => h.staging ▸ hs.pending b, h.load ▸ hs.load⟩

/-- An act that changes nothing the toll is taken on. -/
theorem Pays.same {s t : State} {acts : List Act} {n : Nat} (hs : Closing s) (h : TollSame s t)
    (hacts : ∀ a ∈ acts, a.closes = true) (hless : actsToll acts < n) : Pays (s.toll + n) (t, acts) :=
  ⟨h.closing hs, hacts, by
    change t.toll + actsToll acts < s.toll + n
    rw [h.toll]
    omega⟩

/-- An act that changes the load, and the plant's defrost at no cost. -/
theorem Pays.loads {s t : State} {acts : List Act} {n : Nat} (hs : Closing s) (hload : t.load.Closing)
    (hdeferred : t.change.deferred = s.change.deferred) (hdefrost : t.plant.defrost.toll = s.plant.defrost.toll)
    (hstaging : t.tables.staging = s.tables.staging) (hacts : ∀ a ∈ acts, a.closes = true)
    (hless : t.load.toll + actsToll acts < s.load.toll + n) : Pays (s.toll + n) (t, acts) :=
  ⟨⟨fun b => hstaging ▸ hs.pending b, hload⟩, hacts, by
    change t.toll + actsToll acts < s.toll + n
    rw [State.toll, State.toll, hdeferred, hdefrost]
    omega⟩

theorem LoadUnit.Closing.rest {l : LoadUnit} {h : Claim} {rest : List Claim} (hl : l.Closing) (hqueue : l.queue = h :: rest)
    (gs : List Grant) : LoadUnit.Closing { l with queue := rest, granted := gs } :=
  ⟨fun c hc => hl.queued c (hqueue ▸ List.mem_cons_of_mem h hc), hl.held⟩

theorem PlantUnit.suspend_toll (p : PlantUnit) (now : Nat) : (p.suspend now).defrost.toll = p.defrost.toll := by
  rw [PlantUnit.suspend]
  split
  · next h => rw [h]; rfl
  all_goals rfl

section Acts

variable {s : State} (hs : Closing s)
include hs

theorem Pays.place {k : LoadKind} (hk : k.closes = true) (o : Claimant) : Pays (s.toll + (k.toll + 2)) (s.placeClaim k o) := by
  rw [State.placeClaim]
  split
  · split
    · exact .same hs ⟨rfl, rfl, rfl, rfl⟩ (by simp) (by simp [actsToll])
    · refine .loads hs ⟨hs.load.queued, fun h hh => ?_⟩ rfl rfl rfl (by simp) ?_
      · obtain hh | hh := List.mem_append.1 hh
        · exact hs.load.held h hh
        · rw [List.mem_singleton.1 hh]
          exact hk
      · simp [State.modLoad, LoadUnit.toll, actsToll]
        omega
  · refine .loads hs (hs.load.enter s.now hk o) rfl rfl rfl (by simp [Act.closes]) ?_
    change (s.load.enter s.now k o).toll + _ < _
    rw [LoadUnit.enter_toll]
    simp [actsToll, Act.toll]
    omega

theorem Pays.withdraw (k : LoadKind) (o : Claimant) : Pays (s.toll + 2) (s.withdrawClaim k o) := by
  rw [State.withdrawClaim]
  split
  · have hfilter := hs.load.filter (fun c => !(decide (c.kind = k) && decide (c.owner = o))) s.load.granted
    obtain ⟨hclosing, hle⟩ := hfilter.letIn s.now k
    refine .loads hs hclosing rfl rfl rfl (by simp [Act.closes]) ?_
    have hdrop := sum_map_filter_le (fun c : Claim => c.kind.toll) (fun c => !(decide (c.kind = k) && decide (c.owner = o)))
      s.load.queue
    simp only [LoadUnit.toll] at hle hdrop
    simp only [State.modLoad, LoadUnit.toll, actsToll, List.map_cons, List.map_nil, List.sum_cons, List.sum_nil, Act.toll]
    omega
  · refine .loads hs (hs.load.filterHeld _) rfl rfl rfl (by simp) ?_
    have hdrop := sum_map_filter_le (fun h : HeldClaim => h.kind.toll)
      (fun h => !(decide (h.kind = k) && decide (h.owner = o))) s.load.held
    simp only [State.modLoad, LoadUnit.toll, actsToll, List.map_nil, List.sum_nil]
    omega

theorem Pays.release (k : LoadKind) (o : Claimant) : Pays (s.toll + 2) (s.releaseClaim k o) := by
  rw [State.releaseClaim]
  split
  · have hgone : LoadUnit.Closing
        { s.load with granted := s.load.granted.filter fun g => !(decide (g.kind = k) && decide (g.owner = o)) } :=
      ⟨hs.load.queued, hs.load.held⟩
    obtain ⟨hclosing, hle⟩ := hgone.letIn s.now k
    refine .loads hs hclosing rfl rfl rfl (by simp [Act.closes]) ?_
    simp only [LoadUnit.toll] at hle
    simp only [State.modLoad, LoadUnit.toll, actsToll, List.map_cons, List.map_nil, List.sum_cons, List.sum_nil, Act.toll]
    omega
  · exact Pays.withdraw hs k o

theorem Pays.decide : Pays (s.toll + 1) s.decideHead := by
  rw [State.decideHead]
  split
  · exact .same hs ⟨rfl, rfl, rfl, rfl⟩ (by simp) (by simp [actsToll])
  · next h rest hqueue =>
    obtain ⟨hkind, hpriority⟩ := hs.load.queued h (hqueue ▸ List.mem_cons_self)
    have htoll : s.load.toll = h.kind.toll + (rest.map fun c => c.kind.toll).sum + (s.load.held.map fun x => x.kind.toll).sum := by
      rw [LoadUnit.toll, hqueue, List.map_cons, List.sum_cons]
    have hcost := LoadKind.grantToll_le hkind
    split
    · refine .loads hs (hs.load.rest hqueue _) rfl rfl rfl (by simp [Act.closes, hkind]) ?_
      simp only [State.modLoad, LoadUnit.grant, actsToll, LoadUnit.toll, List.map_cons, List.map_nil, List.sum_cons, List.sum_nil,
        Act.toll] at htoll ⊢
      omega
    · split
      · next d hd =>
        rw [LoadUnit.suspension, Option.filter_eq_some_iff] at hd
        simp only [Bool.and_eq_true, decide_eq_true_eq] at hd
        have hother : h.kind ≠ .defrost := fun hdefrost => absurd hd.2.1.1 (Nat.not_lt.2 (hpriority hdefrost))
        have hdear := LoadKind.grantToll_le_of_ne hkind hother
        refine .loads hs ⟨fun c hc => ?_, hs.load.held⟩ rfl (PlantUnit.suspend_toll _ _) rfl (by simp [Act.closes, hkind]) ?_
        · obtain rfl | hc := List.mem_cons.1 ((enqueue_perm _ _).mem_iff.1 hc)
          · exact ⟨rfl, fun _ => le_rfl⟩
          · exact hs.load.queued c (hqueue ▸ List.mem_cons_of_mem h hc)
        · simp only [State.modPlant, State.modLoad, LoadUnit.grant, LoadUnit.takeBack, actsToll, LoadUnit.toll, enqueue_toll,
            List.map_cons, List.map_nil, List.sum_cons, List.sum_nil, Act.toll,
            show LoadKind.defrost.toll = 5 from rfl] at htoll ⊢
          omega
      · exact .same hs ⟨rfl, rfl, rfl, rfl⟩ (by simp) (by simp [actsToll])

/-! ### The session, the payout and the defrost -/

theorem Pays.completeClose : Pays (s.toll + 24) s.finishClose := by
  rw [State.finishClose]
  split
  · rw [State.settleCard]
    split
    · exact .same hs ⟨rfl, rfl, rfl, rfl⟩ (by simp [Act.closes]) (by simp [actsToll, Act.toll])
    · exact .same hs ⟨rfl, rfl, rfl, rfl⟩ (by simp [Act.closes]) (by simp [actsToll, Act.toll])
  · split
    · exact .same hs ⟨rfl, rfl, rfl, rfl⟩ (by simp [Act.closes]) (by simp [actsToll, Act.toll])
    · exact .same hs ⟨rfl, rfl, rfl, rfl⟩ (by simp [Act.closes]) (by simp [actsToll, Act.toll])

theorem Pays.closeRest : Pays (s.toll + 25) s.goOnClosing := by
  rw [State.goOnClosing]
  split
  · split
    · exact .same hs ⟨rfl, rfl, rfl, rfl⟩ (by simp [Act.closes]) (by simp [actsToll, Act.toll])
    · exact .same hs ⟨rfl, rfl, rfl, rfl⟩ (by simp) (by simp [actsToll])
  · exact .same hs ⟨rfl, rfl, rfl, rfl⟩ (by simp) (by simp [actsToll])

theorem Pays.closeCash (r : Nat) : Pays (s.toll + 2) (s.endCash r) := by
  rw [State.endCash]
  split
  · exact .same hs ⟨rfl, rfl, rfl, rfl⟩ (by simp [Act.closes]) (by simp [actsToll, Act.toll])
  · exact .same hs ⟨rfl, rfl, rfl, rfl⟩ (by simp [Act.closes]) (by simp [actsToll, Act.toll])

theorem Pays.applyPending : Pays (s.toll + 1) s.applyPendingLoad := by
  rw [State.applyPendingLoad]
  split
  · next b hb => exact absurd hb (hs.pending b)
  all_goals exact .same hs ⟨rfl, rfl, rfl, rfl⟩ (by simp) (by simp [actsToll])

/-- An act that may leave a deferred change due. -/
theorem Pays.defers {t : State} {acts : List Act} {n : Nat} (hload : t.load = s.load)
    (hdefrost : t.plant.defrost = s.plant.defrost) (hstaging : t.tables.staging = s.tables.staging)
    (hacts : ∀ a ∈ acts, a.closes = true)
    (hless : (if t.change.deferred.isSome = true then 20 else 0) + actsToll acts
      < (if s.change.deferred.isSome = true then 20 else 0) + n) : Pays (s.toll + n) (t, acts) :=
  ⟨⟨fun b => hstaging ▸ hs.pending b, hload ▸ hs.load⟩, hacts, by
    change t.toll + actsToll acts < s.toll + n
    rw [State.toll, State.toll, hload, hdefrost]
    omega⟩

theorem Pays.handOver (n : Nat) : Pays (s.toll + 22) (s.takeHandOver n) := by
  rw [State.takeHandOver]
  split
  · exact .same hs ⟨rfl, rfl, rfl, rfl⟩ (by simp [Act.closes]) (by simp [actsToll, Act.toll])
  all_goals
    refine .defers hs rfl rfl rfl (by simp) ?_
    simp [State.modChange, actsToll]

theorem Pays.startRun (n : Nat) : Pays (s.toll + 18) (s.beginRun n) := by
  rw [State.beginRun]
  refine .same hs ⟨rfl, rfl, rfl, rfl⟩ ?_ ?_ <;> split <;> simp [endRun, Act.closes, LoadKind.closes, actsToll, Act.toll,
    LoadKind.toll]

theorem Pays.nextCoin : Pays (s.toll + 7) s.payNext := by
  rw [State.payNext]
  split
  · exact .same hs ⟨rfl, rfl, rfl, rfl⟩ (by simp [Act.closes]) (by simp [actsToll, Act.toll])
  · dsimp only
    split
    · exact .same hs ⟨rfl, rfl, rfl, rfl⟩ (by simp [endRun, Act.closes]) (by simp [endRun, actsToll, Act.toll])
    · exact .same hs ⟨rfl, rfl, rfl, rfl⟩ (by simp) (by simp [actsToll])
  · split
    · exact .same hs ⟨rfl, rfl, rfl, rfl⟩ (by simp [endDispense, Act.closes]) (by simp [endDispense, actsToll, Act.toll])
    · exact .same hs ⟨rfl, rfl, rfl, rfl⟩ (by simp) (by simp [actsToll])

theorem Pays.runEnded : Pays (s.toll + 3) s.closeRun := by
  rw [State.closeRun]
  split
  · refine .same hs ?_ (by simp [Act.closes]) (by simp [actsToll, Act.toll])
    split <;> exact ⟨rfl, rfl, rfl, rfl⟩
  · exact .same hs ⟨rfl, rfl, rfl, rfl⟩ (by simp) (by simp [actsToll])

theorem Pays.dispenseEnded : Pays (s.toll + 1) s.closeDispense := by
  rw [State.closeDispense]
  split
  · next n hn =>
    refine .defers hs rfl rfl rfl (by simp [Act.closes]) ?_
    simp [State.modChange, actsToll, Act.toll, hn]
  · exact .same hs ⟨rfl, rfl, rfl, rfl⟩ (by simp) (by simp [actsToll])

theorem Pays.demandTest : Pays (s.toll + 14) s.testDemand := by
  rw [State.testDemand]
  split
  · split
    · exact .same hs ⟨rfl, rfl, rfl, rfl⟩ (by simp [Act.closes, LoadKind.closes]) (by simp [actsToll, Act.toll, LoadKind.toll])
    · exact .same hs ⟨rfl, rfl, rfl, rfl⟩ (by simp) (by simp [actsToll])
  · split
    · exact .same hs ⟨rfl, rfl, rfl, rfl⟩ (by simp) (by simp [actsToll])
    · exact .same hs ⟨rfl, rfl, rfl, rfl⟩ (by simp [Act.closes]) (by simp [actsToll, Act.toll])
  all_goals exact .same hs ⟨rfl, rfl, rfl, rfl⟩ (by simp) (by simp [actsToll])

/-- An act that brings the defrost on. -/
theorem Pays.melts {t : State} {acts : List Act} {n : Nat} (hload : t.load = s.load)
    (hdeferred : t.change.deferred = s.change.deferred) (hstaging : t.tables.staging = s.tables.staging)
    (hacts : ∀ a ∈ acts, a.closes = true) (hless : t.plant.defrost.toll + actsToll acts < s.plant.defrost.toll + n) :
    Pays (s.toll + n) (t, acts) :=
  ⟨⟨fun b => hstaging ▸ hs.pending b, hload ▸ hs.load⟩, hacts, by
    change t.toll + actsToll acts < s.toll + n
    rw [State.toll, State.toll, hload, hdeferred]
    omega⟩

theorem Pays.defrostTest : Pays (s.toll + 1) s.testDefrost := by
  rw [State.testDefrost, State.endHeating]
  split
  · split
    · next c hc =>
      have hmelts : s.plant.defrost.toll = 30 := by
        cases h : s.plant.defrost
        case heating | suspended => rfl
        all_goals
          rw [h] at hc
          exact nomatch hc
      refine .melts hs rfl rfl rfl (by simp [Act.closes]) ?_
      rw [hmelts]
      simp [State.modPlant, Defrost.toll, actsToll, Act.toll]
    · exact .same hs ⟨rfl, rfl, rfl, rfl⟩ (by simp) (by simp [actsToll])
  · exact .same hs ⟨rfl, rfl, rfl, rfl⟩ (by simp) (by simp [actsToll])

theorem Pays.dripEntered (reason heated : Nat) : Pays (s.toll + 2) (s.beginDrip reason heated) := by
  rw [State.beginDrip]
  refine .same hs ⟨rfl, rfl, rfl, rfl⟩ ?_ ?_ <;> split <;> simp [Act.closes, actsToll, Act.toll]

theorem Pays.dripDone : Pays (s.toll + 1) s.endDrip := by
  rw [State.endDrip]
  split
  · next h =>
    refine .melts hs rfl rfl rfl (by simp [Act.closes]) ?_
    rw [h]
    simp [State.modPlant, State.raise_plant, Defrost.toll, actsToll, Act.toll]
  all_goals exact .same hs ⟨rfl, rfl, rfl, rfl⟩ (by simp) (by simp [actsToll])

theorem Pays.look : Pays (s.toll + 1) (s.lookForWork, []) := by
  refine .same hs ?_ (by simp) (by simp [actsToll])
  rw [s.lookForWork_touches]
  exact ⟨rfl, rfl, rfl, rfl⟩

theorem Pays.granted {k : LoadKind} (hk : k.closes = true) (o : Claimant) : Pays (s.toll + k.grantToll) (s.handGrant k o) := by
  cases k
  case motor | compressorRun => exact nomatch hk
  case payout => exact .same hs ⟨rfl, rfl, rfl, rfl⟩ (by simp [Act.closes]) (by simp [actsToll, Act.toll, LoadKind.grantToll])
  case compressorStart =>
    change Pays _ s.startGranted
    rw [State.startGranted]
    split
    · exact .same hs ⟨rfl, rfl, rfl, rfl⟩ (by simp) (by simp [actsToll, LoadKind.grantToll])
    all_goals exact .same hs ⟨rfl, rfl, rfl, rfl⟩ (by simp [Act.closes]) (by simp [actsToll, Act.toll, LoadKind.grantToll])
  case defrost =>
    change Pays _ s.defrostGranted
    rw [State.defrostGranted]
    split
    case h_1 h | h_2 h =>
      exact .same hs ⟨rfl, rfl, by rw [h]; rfl, rfl⟩ (by simp [Act.closes]) (by simp [actsToll, Act.toll, LoadKind.grantToll])
    all_goals exact .same hs ⟨rfl, rfl, rfl, rfl⟩ (by simp [Act.closes]) (by simp [actsToll, Act.toll, LoadKind.grantToll])

/-- Every act of a close pays its toll. -/
theorem Pays.perform {a : Act} (ha : a.closes = true) : Pays (s.toll + a.toll) (perform a s) := by
  cases a
  case place k o => exact .place hs ha o
  case granted k o => exact .granted hs ha o
  case decide => exact .decide hs
  case withdraw k o => exact .withdraw hs k o
  case release k o => exact .release hs k o
  case completeClose => exact .completeClose hs
  case closeRest => exact .closeRest hs
  case handOver n => exact .handOver hs n
  case closeCash r => exact .closeCash hs r
  case applyPending => exact .applyPending hs
  case startRun n => exact .startRun hs n
  case nextCoin => exact .nextCoin hs
  case runEnded => exact .runEnded hs
  case dispenseEnded => exact .dispenseEnded hs
  case demandTest => exact .demandTest hs
  case defrostTest => exact .defrostTest hs
  case dripEntered r h => exact .dripEntered hs r h
  case dripDone => exact .dripDone hs
  case look => exact .look hs
  case replySession q => exact .same hs ⟨rfl, rfl, rfl, rfl⟩ (by simp) (by simp [actsToll, Act.toll])
  all_goals exact nomatch ha

end Acts

/-- The acts of a close come to an end. -/
theorem Closing.ends (n : Nat) : ∀ {s : State} {acts : List Act}, Closing s → (∀ a ∈ acts, a.closes = true) →
    s.toll + actsToll acts ≤ n → ∃ t, Leads n acts s t := by
  induction n with
  | zero =>
    intro s acts hs hacts hless
    cases acts with
    | nil => exact ⟨s, .nil s⟩
    | cons a as =>
      have hpaid := (Pays.perform hs (hacts a List.mem_cons_self)).less
      have hcons : actsToll (a :: as) = a.toll + actsToll as := by simp [actsToll]
      omega
  | succ n ih =>
    intro s acts hs hacts hless
    cases acts with
    | nil => exact ⟨s, (Leads.nil s).mono (Nat.zero_le _)⟩
    | cons a as =>
      obtain ⟨hclosing, hnew, hpaid⟩ := Pays.perform hs (hacts a List.mem_cons_self)
      have hsum : ∀ xs ys : List Act, actsToll (xs ++ ys) = actsToll xs + actsToll ys := fun xs ys => by
        simp [actsToll]
      have hcons : actsToll (a :: as) = a.toll + actsToll as := by simp [actsToll]
      obtain ⟨t, k, hk, hruns⟩ := ih (acts := (perform a s).2 ++ as) hclosing
        (fun b hb => (List.mem_append.1 hb).elim (hnew b) fun h => hacts b (List.mem_cons_of_mem a h))
        (by rw [hsum]; omega)
      exact ⟨t, k + 1, Nat.succ_le_succ hk, Runs.cons rfl hruns⟩

end Sys2Proof.Machine

/-! ## Closes that are turned away, that wait for their vends, or that end a vend first (O17) -/

namespace Sys2Proof.Machine

/-! ### A close request with vends listed (R31, R75) -/

/-- A close request, from the ends of the waiting vends to the rest of the close. -/
theorem Leads.closeRequest_after {m n : Nat} {s u t : State} (hopen : s.credit.session.state = .opened)
    (hends : Leads m [.endVends (s.ending Vend.waits .cancelled) false] s u) (hrest : Leads n [.closeRest] u t) :
    Leads (m + n + 1) [.closeRequest] s t := by
  refine .act ?_ (hends.andThen hrest)
  change s.requestClose = _
  rw [State.requestClose, hopen]

/-- The session in CLOSE_WAIT. -/
def State.waiting (s : State) : State := s.modSession fun x => { x with state := .closeWait }

/-- With vends listed the session waits for them (R31). -/
theorem Leads.closeRest_waits {s : State} (hopen : s.credit.session.state = .opened) (hvends : s.sales.vends ≠ []) :
    Leads 1 [.closeRest] s s.waiting := by
  refine .done ?_
  change s.goOnClosing = _
  rw [State.goOnClosing, if_pos hopen, if_neg (by simpa using hvends)]
  rfl

theorem Vend.waits_eq_false {v : Vend} (h : v.state ≠ .queued ∧ v.state ≠ .waitPower) : v.waits = false := by
  simp [Vend.waits, h]

theorem Vend.waits_eq {v : Vend} (h : v.result = none ∧ v.state ≠ .waitPower) : v.waits = decide (v.state = .queued) := by
  simp [Vend.waits, Vend.unfinished, h]

/-- A close request while every vend turns or waits for its drop. -/
theorem Leads.closeRequest_waits {s : State} (hopen : s.credit.session.state = .opened) (hvends : s.sales.vends ≠ [])
    (hbusy : ∀ v ∈ s.sales.vends, v.state ≠ .queued ∧ v.state ≠ .waitPower) : Leads 3 [.closeRequest] s s.waiting :=
  .closeRequest_after hopen (State.endTogether_of_none (fun v hv => Vend.waits_eq_false (hbusy v hv)) _ _)
    (.closeRest_waits hopen hvends)

/-! ### QUEUED vends end before it -/

/-- The QUEUED vends gone, the others waited for. -/
def State.queuedGone (s : State) : State := (s.queuedEnd Vend.waits .cancelled).waiting

section Queued

variable {s : State} (hopen : s.credit.session.state = .opened) (hfew : s.sales.vends.length ≤ 4)
  (hids : (s.sales.vends.map Vend.id).Nodup) (hvends : ∀ v ∈ s.sales.vends, v.result = none ∧ v.state ≠ .waitPower)
  (hstays : ∃ v ∈ s.sales.vends, v.state ≠ .queued)
include hopen hfew hids hvends hstays

theorem Leads.closeRequest_queued : Leads 20 [.closeRequest] s s.queuedGone := by
  have hwaits : ∀ v ∈ s.sales.vends, v.waits = decide (v.state = .queued) := fun v hv => Vend.waits_eq (hvends v hv)
  obtain ⟨x, hx, hother⟩ := hstays
  have hxwaits : x.waits = false := (hwaits x hx).trans (decide_eq_false hother)
  have hends := Leads.endQueued (r := .cancelled) (f := Vend.waits) rfl false hids
    (fun v hv hw => of_decide_eq_true ((hwaits v hv).symm.trans hw))
    (fun v hv hw _ => of_decide_eq_false ((hwaits v hv).symm.trans hw)) ⟨x, hx, hxwaits⟩
  have hlist : (s.queuedEnd Vend.waits .cancelled).sales.vends ≠ [] := by
    refine List.ne_nil_of_mem (a := x) (List.mem_filter.2 ⟨hx, ?_⟩)
    rw [hxwaits]
    rfl
  have hcount : (s.sales.vends.filter Vend.waits).length ≤ 4 := (List.length_filter_le _ _).trans hfew
  exact (Leads.closeRequest_after hopen hends (.closeRest_waits hopen hlist)).mono (by omega)

end Queued

theorem foldl_push_keeps (l : LinkUnit) (ns : List Notice) :
    (ns.foldl LinkUnit.push l).rx = l.rx ∧ (ns.foldl LinkUnit.push l).sent = l.sent
      ∧ (ns.foldl LinkUnit.push l).floor = l.floor ∧ (ns.foldl LinkUnit.push l).errors = l.errors
      ∧ (ns.foldl LinkUnit.push l).reported = l.reported := by
  induction ns generalizing l with
  | nil => exact ⟨rfl, rfl, rfl, rfl, rfl⟩
  | cons n ns ih =>
    obtain ⟨hrx, hsent, hfloor, herrors, hreported⟩ := ih (l.push n)
    exact ⟨hrx.trans (LinkUnit.push_rx _ _), hsent.trans (LinkUnit.push_sent _ _), hfloor.trans (LinkUnit.push_floor _ _),
      herrors.trans (LinkUnit.push_errors _ _), hreported.trans (LinkUnit.push_reported _ _)⟩

/-- What the end of the QUEUED vends leaves. -/
theorem queuedGone_leaves {s : State} (hvends : ∀ v ∈ s.sales.vends, v.result = none ∧ v.state ≠ .waitPower) :
    s.queuedGone.sales =
        { s.sales with
          vends := s.sales.vends.filter fun v => decide (v.state ≠ .queued)
          started := s.sales.started.filter fun i =>
            !((s.sales.vends.filter fun v => decide (v.state = .queued)).any fun v => decide (v.id = i)) }
      ∧ Heard s s.queuedGone
          ((s.sales.vends.filter fun v => decide (v.state = .queued)).map fun v =>
            s.notice .vendResult (some v.position) (resultValues v 5))
      ∧ SameExcept [.session, .vends, .unreported, .notices] s s.queuedGone := by
  have hwaits : ∀ v ∈ s.sales.vends, v.waits = decide (v.state = .queued) := fun v hv => Vend.waits_eq (hvends v hv)
  have hqueued : s.sales.vends.filter Vend.waits = s.sales.vends.filter fun v => decide (v.state = .queued) :=
    List.filter_congr hwaits
  have hothers : (s.sales.vends.filter fun v => !v.waits) = s.sales.vends.filter fun v => decide (v.state ≠ .queued) :=
    List.filter_congr fun v hv => by rw [hwaits v hv, decide_not]
  refine ⟨?_, ?_, ?_⟩
  · rw [← hqueued, ← hothers]
    rfl
  · rw [← hqueued]
    exact ⟨⟨rfl, rfl⟩, foldl_push_floor _ _⟩
  · have hends : SameExcept [.vends, .notices] s (s.queuedEnd Vend.waits .cancelled) := by
      obtain ⟨hrx, hsent, hcounts⟩ := foldl_push_keeps s.link
        ((s.sales.vends.filter Vend.waits).map fun v => s.notice .vendResult (some v.position) (resultValues v 5))
      intro q hq
      cases q
      case vends | notices => exact absurd (by decide) hq
      case replies => exact hsent
      case receiver => exact hrx
      case linkCounts => exact hcounts
      all_goals simp [Part.same, State.queuedEnd]
    exact (hends.trans (sameExcept_modSession _ _)).mono (by decide)

/-- What the command's end leaves behind it. -/
theorem queuedGone_concluded {s u : State} {ps : List Part}
    (hvends : ∀ v ∈ s.sales.vends, v.result = none ∧ v.state ≠ .waitPower)
    (hcredit : u.credit = s.queuedGone.credit) (hsales : u.sales = s.queuedGone.sales)
    (hheard : Heard s u ((s.sales.vends.filter fun v => decide (v.state = .queued)).map fun v =>
      s.notice .vendResult (some v.position) (resultValues v 5)))
    (hsame : SameExcept ps s u) (hnow : .now ∉ ps) :
    u.conclude.credit.session = { s.credit.session with state := .closeWait }
      ∧ u.conclude.sales =
        { s.sales with
          vends := s.sales.vends.filter fun v => decide (v.state ≠ .queued)
          started := s.sales.started.filter fun i =>
            !((s.sales.vends.filter fun v => decide (v.state = .queued)).any fun v => decide (v.id = i)) }
      ∧ Raised s u.conclude
          (((s.sales.vends.filter fun v => decide (v.state = .queued)).map fun v =>
              s.notice .vendResult (some v.position) (resultValues v 5))
            ++ [s.notice .creditChanged none
              [2, s.credit.session.funding.code, s.credit.session.cashCredit, s.credit.session.cardLeft, s.credit.carried]]) := by
  obtain ⟨hleft, -, -⟩ := queuedGone_leaves hvends
  have hvalues : u.creditValues =
      [2, s.credit.session.funding.code, s.credit.session.cashCredit, s.credit.session.cardLeft, s.credit.carried] := by
    rw [State.creditValues, hcredit]
    rfl
  refine ⟨?_, ?_, ?_⟩
  · rw [State.conclude_session, hcredit]
    rfl
  · rw [State.conclude_sales, hsales, hleft]
  · have hend := (hheard.conclude_changed (by rw [hcredit]; rfl)).1
    rwa [hvalues, State.notice_congr (hsame .now hnow)] at hend

/-! ### A vend that waits alone ends first -/

/-- A close goes on in the same way from the moment its waiting vend has ended. -/
theorem closeRequest_agrees {s : State} {v : Vend} {load : LoadUnit} (hwaits : WaitsAlone s v load) (hpending : NothingPending s)
    {u : State}
    (hu : u = State.raise { s with sales := s.sales.without v, load := load } .vendResult (some v.position)
      (resultValues v 5)) :
    ∃ t, Leads 100 [.closeRequest] s t ∧ Leads 100 [.closeRequest] u t := by
  have hopen : s.credit.session.state = .opened := hwaits.1.2.2
  have hquiet := hwaits.quiet
  have hends := Leads.waitsAlone_ends (r := .cancelled) (f := Vend.waits) (d := false) hwaits hwaits.waits rfl
  rw [State.onlyVendGone_leaves rfl] at hends
  have hends' : Leads 6 [.endVends (s.ending Vend.waits .cancelled) false] s u := by
    rw [hu]
    exact hends
  have hclosing : Closing u := by
    rw [hu]
    exact ⟨hpending, ⟨fun c hc => absurd (hquiet.1 ▸ hc) List.not_mem_nil, fun h hh => absurd (hquiet.2 ▸ hh) List.not_mem_nil⟩⟩
  have htoll : u.toll + actsToll [.closeRest] ≤ 80 := by
    have hload : u.load.toll = 0 := by
      rw [hu]
      change load.toll = 0
      rw [LoadUnit.toll, hquiet.1, hquiet.2]
      rfl
    have hdefrost : u.plant.defrost.toll ≤ 30 := by cases u.plant.defrost <;> simp [Defrost.toll]
    have hacts : actsToll [.closeRest] = 25 := rfl
    rw [State.toll, hload, hacts]
    split <;> omega
  obtain ⟨t, hrest⟩ := hclosing.ends 80 (acts := [.closeRest]) (by simp [Act.closes]) htoll
  have huvends : ∀ x ∈ u.sales.vends, Vend.waits x = false := by
    rw [hu]
    exact fun x hx => nomatch hx
  exact ⟨t, (Leads.closeRequest_after hopen hends' hrest).mono (by decide),
    (Leads.closeRequest_after (by rw [hu]; exact hopen) (State.endTogether_of_none huvends _ _) hrest).mono (by decide)⟩

/-- A frame is taken before a notice as behind it. -/
theorem State.frameTaken_raise (s : State) (k : NoticeKind) (x : Option Nat) (vs : List Nat) :
    (s.raise k x vs).frameTaken = s.frameTaken.raise k x vs := by
  have hpush : ∀ (l : LinkUnit) (n : Notice),
      { l.push n with rx := Assembler.hunting } = LinkUnit.push { l with rx := .hunting } n := by
    intro l n
    unfold LinkUnit.push
    dsimp only
    split_ifs <;> rfl
  exact congrArg (fun l => { s with link := l }) (hpush s.link (s.notice k x vs))

theorem WaitsAlone.frameTaken {s : State} {v : Vend} {load : LoadUnit} (h : WaitsAlone s v load) :
    WaitsAlone s.frameTaken v load := h

/-- Settles O17, by the session's state and what its vends do. -/
theorem closeTurnedAwayOrWaits : Obligations.CloseTurnedAwayOrWaits := by
  refine ⟨?_, ?_, ?_, ?_, ?_, ?_⟩
  · intro s q p hidle
    change execEndSession q p s = _
    rw [execEndSession, State.frameTaken_credit, hidle]
  · intro s q p hbusy
    change execEndSession q p s = _
    obtain h | h := hbusy <;> rw [execEndSession, State.frameTaken_credit, h]
  · intro s h
    change execCoinReturn s = _
    rw [execCoinReturn]
    obtain hconfig | ⟨hidle, hcarried⟩ | ⟨hopen, hfunding⟩ | hwait | hpayout := h
    · exact if_pos hconfig
    · rw [hidle]
      dsimp only
      rw [if_pos hcarried, ite_self]
    · rw [hopen]
      dsimp only
      rw [if_neg hfunding, ite_self]
    · rw [hwait]
      exact ite_self _
    · rw [hpayout]
      exact ite_self _
  · intro s q p hopen hvends hbusy waits
    refine ⟨?_, fun hmode hcash => ?_⟩
    · refine (exec_endSession_of_leads p hopen (Leads.closeRequest_waits (s := s.frameTaken) hopen hvends hbusy) (by decide)).trans
        (congrArg (fun t => Host.Outcome.next (State.conclude t)) ?_)
      rfl
    · refine (exec_coinReturn_of_leads hmode hopen hcash (Leads.closeRequest_waits hopen hvends hbusy) (by decide)).trans
        (congrArg (fun t => Host.Outcome.next (State.conclude t)) ?_)
      rfl
  · intro s q p hopen hfew hids hvends hstays queued z closed
    refine ⟨?_, fun hmode hcash => ?_⟩
    · have hleads : Leads 20 [.closeRequest] s.frameTaken s.frameTaken.queuedGone :=
        .closeRequest_queued hopen hfew hids hvends hstays
      obtain ⟨-, hheard, hsame⟩ := queuedGone_leaves (s := s.frameTaken) hvends
      obtain ⟨hkeeps, hall, hsent⟩ := answered_keeps hsame hheard (by decide) q [2]
      obtain ⟨hsession, hsales, hraised⟩ := queuedGone_concluded (s := s) (u := s.frameTaken.queuedGone.accept q [2]) hvends rfl rfl
        hall hkeeps (by decide)
      refine ⟨_, exec_endSession_of_leads p hopen hleads (by decide), hsession, hsales, hraised, ?_, hkeeps.conclude.mono (by decide)⟩
      rw [State.conclude_sent]
      exact hsent
    · obtain ⟨-, hheard, hsame⟩ := queuedGone_leaves hvends
      obtain ⟨hsession, hsales, hraised⟩ := queuedGone_concluded hvends rfl rfl hheard hsame (by decide)
      refine ⟨_, exec_coinReturn_of_leads hmode hopen hcash (.closeRequest_queued hopen hfew hids hvends hstays) (by decide), hsession,
        hsales, hraised, ?_, hsame.conclude.mono (by decide)⟩
      rw [State.conclude_sent, List.append_nil]
      exact hsame .replies (by decide)
  · intro s q p v load hwaits hpending u
    have hopen : s.credit.session.state = .opened := hwaits.1.2.2
    refine ⟨?_, fun hmode hcash => ?_⟩
    · obtain ⟨t, hs, hu⟩ := closeRequest_agrees (u := u.frameTaken) hwaits.frameTaken hpending (State.frameTaken_raise _ _ _ _)
      rw [exec_endSession_of_leads p hopen hs (by decide), exec_endSession_of_leads (s := u) (n := 100) p hopen hu (by decide)]
    · obtain ⟨t, hs, hu⟩ := closeRequest_agrees (u := u) hwaits hpending rfl
      rw [exec_coinReturn_of_leads hmode hopen hcash hs (by decide), exec_coinReturn_of_leads (s := u) (n := 100) hmode hopen hcash hu (by decide)]

end Sys2Proof.Machine
